-- ==== Sys2Proof/Word.lean ====
section
/-! DEFINITION. The word types of the device: registers are 32 bits wide (R20), a 64-bit value occupies a LO and a
HI register (R24), memory holds bytes (R11), initiator IDs are 8 bits (R17), block error codes are 8 bits (R27). -/

namespace Sys2Proof

/-- A byte of memory or of a frame. -/
abbrev Byte := BitVec 8

/-- A register word (R20). -/
abbrev Word32 := BitVec 32

/-- A 64-bit value, held in a LO and a HI register (R24). -/
abbrev U64 := BitVec 64

/-- An initiator ID (R17). -/
abbrev InitId := BitVec 8

/-- A block error code; 0x00 means no error (R27). -/
abbrev Code := BitVec 8

end Sys2Proof
end

