-- ==== Sys2Proof/Operand.lean ====
section
/-! DEFINITION. The structured operands of the commands: what a received message, a measurement or an answer from
outside carries. -/

namespace Sys2Proof

/-- A descriptor ring (R273, R379). -/
inductive RingId where
  /-- receive ring `r` of port `p` -/
  | rx (p : Fin 64) (r : Fin 4)
  /-- transmit ring `r` of port `p` -/
  | tx (p : Fin 64) (r : Fin 4)
  /-- the ring of DMA engine `k` of host `d` -/
  | dma (d : Fin 4) (k : Fin 4)
deriving DecidableEq, Repr

/-- A register access decoded in the same FAB cycle as another (R42, R81, R100, R355, R368, R384, R448). -/
structure Acc where
  init : InitId
  addr : Nat
  write : Bool
  /-- the dword written -/
  value : Word32 := 0
deriving DecidableEq, Repr

/-- The form of a host's memory request (R374, R376): every byte enable set, some of them clear (or, for a read, more than
one dword), or an AtomicOp. Other initiators have the first alone. -/
inductive Tlp where
  | whole
  | part
  | atomic
deriving DecidableEq, Repr

/-- A read of registers: its address, and its form. -/
structure ReadReq where
  addr : Nat
  form : Tlp := .whole
deriving DecidableEq, Repr

/-- A write of registers. -/
structure WriteReq where
  /-- the dword written at the address -/
  value : Word32
  /-- the dwords that a host writes behind it, in ascending order (R374) -/
  more : List Word32 := []
  form : Tlp := .whole
  /-- the other accesses decoded in its FAB cycle -/
  also : List Acc := []
deriving DecidableEq, Repr

/-- What a host's memory write through BAR2 carries; an AtomicOp request is no write (R376). -/
structure Bar2Data where
  bytes : List Byte
  atomic : Bool := false
deriving DecidableEq, Repr

/-- A host port whose link has trained, with the link's width and generation (R372). -/
structure HostLink where
  host : Fin 4
  width : Nat
  gen : Nat
deriving DecidableEq, Repr

/-- A reset of a host district (R384). -/
structure DistReset where
  /-- by the loss of the link; else by a function-level or hot reset -/
  linkDown : Bool
  /-- the accesses decoded in its FAB cycle -/
  also : List Acc := []
  /-- for each frame for a receive ring that was being received, its port (R283) -/
  rx : List Nat := []
deriving DecidableEq, Repr

/-- The room that an arriving packet finds: in a buffer for type W senders, which holds whatever one for type N senders
would, and in one for type N senders (R140). -/
inductive Room where
  /-- either buffer has room -/
  | any
  /-- a buffer for type N senders is full, one for type W senders is not -/
  | wide
  /-- the buffer is full -/
  | full
deriving DecidableEq, Repr

/-- What a port receives: a frame, or an mPacket of the Clause 99 verify (R269). -/
inductive RxKind where
  | frame
  | verify
  | respond
deriving DecidableEq, Repr

/-- How a frame was received. -/
structure RxMeta where
  kind : RxKind := .frame
  /-- the FCS is correct (R266) -/
  fcsOk : Bool
  /-- no PCS error code and no RS-FEC uncorrectable codeword lies in the frame (R266) -/
  pcsOk : Bool
  /-- reassembly of the preempted frame succeeded (R266) -/
  smdOk : Bool
  /-- received on the express MAC path -/
  express : Bool
  /-- the room that the frame finds in the receive FIFO (R278) or in an input's receive buffer (R140) -/
  room : Room
  /-- FEC codewords corrected, and found uncorrectable, since the port's last frame (R288) -/
  corrected : Nat := 0
  uncorrected : Nat := 0
deriving DecidableEq, Repr

/-- Which condition of a port's link failed (R262). -/
inductive LinkFault where
  | blockLock
  | alignment
  | localFault
  | remoteFault
deriving DecidableEq, Repr

/-- What a far side of the Crossing answers (R388 to R396). -/
inductive FarAnswer where
  /-- read data (the external service bus's dwords; the Kerb die's data are its own registers) -/
  | data (words : List Word32)
  /-- a write has been performed -/
  | ack
  /-- the far side refuses the access -/
  | refusedAccess
  /-- a Kerb link error persists after three link-level retries -/
  | linkError
deriving DecidableEq, Repr

/-- One Kerb channel's measurement in a dimming period: the mean currents in mA while its pulses were on and while they
were off (R406). -/
structure KerbMeas where
  ch : Fin 48
  on : BitVec 16
  off : BitVec 16
deriving DecidableEq, Repr

/-- What a PHASE run has measured (R444): P and Q over the run, and the frequency in mHz. -/
structure PhaseMeas where
  p : Int
  q : Int
  freq : Nat
deriving DecidableEq, Repr

/-- A LEASE frame of the Causeway (R474). -/
structure LeaseFrame where
  pairId : U64
  epoch : Word32
  /-- the remaining lease time in ms -/
  remaining : Nat
deriving DecidableEq, Repr

/-- A STATUS frame of the Causeway (R474). -/
structure StatusFrame where
  /-- role of R472 -/
  role : Fin 8
  pairId : U64
  major : Byte
  minor : Byte
  epoch : Word32
  frame : Word32
  /-- Lamp Stream ports with link down -/
  down : Nat
  armed : Bool
deriving DecidableEq, Repr

/-- A record of mirror traffic (R484, R485). -/
inductive MirrorRec where
  /-- the full plan in force, as an image -/
  | fullPlan (image : List Byte)
  /-- a live plan that takes effect at the boundary that begins a frame -/
  | livePlan (image : List Byte) (boundary : Word32)
  /-- a write to a Town Plan set -/
  | lotWrite (set off : Nat) (bytes : List Byte)
  /-- a post to a submission queue's lane -/
  | submission (dist lane : Nat) (words : List Word32)
  /-- a frame descriptor of a host-written input: set, offset, pitch and tag -/
  | hdPost (input set off pitch tag : Nat)
  /-- a function-level reset of a mirrored district -/
  | distReset (dist : Fin 4)
  /-- the holder's mirror buffer has overflowed -/
  | overflow
deriving DecidableEq, Repr

/-- A FRAME record: the committed settings of a frame (R484). -/
structure FrameRec where
  frame : Word32
  /-- Plaza, layer (16 for the background) and its active words -/
  layers : List (Nat × Nat × List Word32) := []
  /-- tile and its active words -/
  tiles : List (Nat × List Word32) := []
  gmasters : List (Nat × Word32) := []
  /-- district slot, set, base, count and bank of an active registration -/
  fxe : List (Nat × Nat × Nat × Nat × Nat) := []
  levels : List (Nat × Nat) := []
  steps : List (Nat × Nat) := []
  /-- input and the buffer it presents -/
  inputs : List (Nat × Nat) := []
  mgens : List (Nat × Nat) := []
  /-- sACN sequence numbers, of universes and of synchronisation universes -/
  seqs : List (Nat × Nat) := []
  syncSeqs : List (Nat × Nat) := []
deriving DecidableEq, Repr

/-- A message from one twin to the other. -/
inductive CwMsg where
  | lease (f : LeaseFrame)
  | status (f : StatusFrame)
  | handover (boundary epoch : Word32)
  | accept (boundary : Word32)
  | mirror (r : MirrorRec)
  | frameRec (r : FrameRec)
  | black (black : Bool) (bgen : Byte) (dist : Nat)
deriving DecidableEq, Repr

/-- What the boot flash and the settings store answer when a request writes them (R516). -/
inductive StoreOut where
  | ok
  /-- flash program, erase or read-back failure -/
  | flash
  /-- settings-store write failure -/
  | store
deriving DecidableEq, Repr

/-- A request frame of the update protocol on the service port (R504). The row of the command is its TYPE; STATUS and the
reserved bytes of a request are 0. -/
structure UpdReq where
  dst : BitVec 48
  src : BitVec 48
  /-- the FCS is correct, and no code error lies in the frame (R266) -/
  good : Bool
  ver : Byte
  session : Word32
  seq : Word32
  arg0 : Word32
  arg1 : Word32
  crc : Word32
  payload : List Byte
  /-- what the storage answers if the request writes it -/
  io : StoreOut
deriving DecidableEq, Repr

/-- The thirteen request types (R505). -/
inductive UpdKind where
  | open_
  | status
  | begin_
  | block
  | bitmap
  | verify
  | activate
  | confirm
  | revert
  | abort
  | reset
  | lcs
  | close
deriving DecidableEq, Repr

end Sys2Proof
end

