-- ==== Sys2Proof/Payload.lean ====
section
/-! DEFINITION. What passes the device's boundary: the answers it gives to an access and the things it sends. -/

namespace Sys2Proof

/-- The answer to the access a command makes. -/
inductive Resp where
  /-- a register read's dword -/
  | word (w : Word32)
  /-- a memory read's bytes; `ep` is set when poisoned data is among them (R123) -/
  | data (bytes : List Byte) (ep : Bool)
  /-- a write has been accepted -/
  | ack
  /-- the Crossing's retry answer (R31, R388) -/
  | retry
  /-- a bus error or error response on the fabric (R357, R390) -/
  | busError
  /-- Unsupported Request (R23, R374) -/
  | unsupported
  /-- Completer Abort (R357, R374) -/
  | completerAbort
deriving DecidableEq, Repr

/-- The groups of lines that are idle in some modes (R34): network port transmitters (electrically idle), DMX drivers (high
impedance; the line at mark while up), Causeway lanes (electrically idle). -/
inductive Lines where
  | netPorts
  | dmxDrivers
  | causeway
deriving DecidableEq, Repr

/-- What the device sends or raises. -/
inductive Out where
  /-- an MSI-X message of a host port's vector (R378) -/
  | msix (host vector : Nat) (addr : U64) (data : Word32)
  /-- an interrupt of the house district from block number `block` (R364, R527) -/
  | houseIrq (block : Nat)
  /-- the dispatch interrupt of a core (R334), or the interrupt that stops its item (R338) -/
  | coreIrq (core : Nat)
  /-- NMI on all 16 cores (R526, R454) -/
  | nmi
  /-- an AER error of a host port, by its bit in the uncorrectable status; with an ERR_NONFATAL message or not -/
  | aer (host bit : Nat) (nonfatal : Bool)
  /-- a frame on a network port, from destination MAC to the last byte before the FCS -/
  | frame (port : Nat) (express : Bool) (bytes : List Byte)
  /-- the preemptable frame in transmission on a port is preempted or cut (R270) -/
  | cut (port : Nat)
  /-- in place of frames a network port sends remote fault, or idle (R262) -/
  | noFrames (port : Nat) (remoteFault : Bool)
  /-- a network port sends a verify of Clause 99, or answers its partner's (R269) -/
  | verify (port : Nat) (answer : Bool)
  /-- a group of lines comes up, or goes to its idle level (R34) -/
  | line (which : Lines) (up : Bool)
  /-- a DMX512-A packet on a Kerb port: start code and slots -/
  | dmx (port : Nat) (bytes : List Byte)
  /-- an RDM packet on a Kerb DMX port -/
  | rdm (port : Nat) (bytes : List Byte)
  /-- the answer to a register read that is not the command's one access (R375) -/
  | completion (init : InitId) (addr : Nat) (answer : Resp)
  /-- a memory read request to a host -/
  | hostRead (host : Nat) (addr : U64) (len : Nat)
  /-- a memory write request to a host; `ep` marks poisoned data -/
  | hostWrite (host : Nat) (addr : U64) (bytes : List Byte) (ep : Bool)
  /-- a message on the Causeway lanes (R474) -/
  | causeway (m : CwMsg)
  /-- THERM_TRIP_N, or THERM_ALERT_N, goes low or is released (R547) -/
  | therm (trip low : Bool)
  /-- LEASE_OUT changes its level -/
  | leaseOut (level : Bool)
  /-- a response frame on the service port -/
  | service (bytes : List Byte)
  /-- an LTC output word begins -/
  | ltc (word : List Byte)
  /-- an access request to the external service bus or the Kerb link leaves the Crossing (R388) -/
  | farSide (kerb write : Bool) (addr : Nat) (data : Word32)
  /-- transactions of the external service bus start: the chip select, and for each what the device drives (R537) -/
  | esb (select : Nat) (transactions : List (List Byte))
  /-- MET_PULSE_N goes low, or high (R437) -/
  | meterPulse (low : Bool)
  /-- the pulses of a Kerb channel in the dimming period that begins: first unit and length in units (R405) -/
  | kerbPulses (ch : Nat) (pulses : List (Nat × Nat))
deriving DecidableEq, Repr

end Sys2Proof
end

