-- ==== Sys2Proof/Syntax.lean ====
section
/-! DEFINITION. The commands of the device: one constructor per row of the table of operations and events, with the
row's operands. A command is an access (a register write or read with its initiator), a frame or signal that arrives,
or an event that comes about inside the device. -/

namespace Sys2Proof

/-- The commands. The docstring of each names its row and its rule. -/
inductive Instr where
  /-- POWER_ON (R461): Power-on (or a return of valid supplies) starts a cold reset with cause 0x01. -/
  | powerOn
  /-- BROWN_OUT (R544): A rail below its brown-out level for 1 µs or longer causes a cold reset with cause 0x01. -/
  | brownOut (rail : Nat) (mv : Nat) (ns : Nat)
  /-- RESET_N_ASSERTED (R462): A recognised low on RESET_N puts the device in Reset, cold, with cause 0x02, for as long as the pin stays low. -/
  | resetNAsserted (lowNs : Nat)
  /-- RESET_RELEASE (R35): Reset released with REFCLK qualified and the root PLL locked moves the device from Reset to Boot with cause 0x06 and starts the start sequence. -/
  | resetRelease (maint : Bool) (failsafe : Bool) (sdr : Bool) (decl8D : Bool) (big : Bool)
  /-- BOOT_DONE (R465): The start reaches BOOT_DONE, clears the slot's CF, arms the watchdog and goes to Standby, Maintenance or Safe per R35. -/
  | bootDone
  /-- BOOT_DONE_TIMEOUT (R35): BOOT_DONE not reached within 10 s resets the device with cause 0x11, counting a failed start. -/
  | bootDoneTimeout
  /-- RESET_COMMAND (R463): A write to CKG_RSTCTL with KEY 0x8E57 by the house district or service port resets the device with cause 0x04. -/
  | resetCommand (init : InitId) (value : Word32)
  /-- WATCHDOG_KICK (R469): A write of KEY 0x3D06 to CKG_WDKICK restarts the device watchdog. -/
  | watchdogKick (init : InitId) (value : Word32)
  /-- WATCHDOG_CONFIG_WRITE (R469): A write to CKG_WDCFG sets the timeout, if in range, and restarts the watchdog. -/
  | watchdogConfigWrite (init : InitId) (value : Word32)
  /-- WATCHDOG_EXPIRY (R469): TIMEOUT_MS without a kick resets the device with cause 0x03. -/
  | watchdogExpiry
  /-- DEVICE_FATAL_EVENT (R526): Detection of ERR code 0x01 or 0x02 delivers a device-fatal record to all districts, raises NMI and stores ERR_LASTFATAL. -/
  | deviceFatalEvent (code : Code) (init : InitId) (addr : U64)
  /-- FATAL_RESET_EXPIRY (R526): 100 µs after a device-fatal event the device enters Reset with cause 0x05. -/
  | fatalResetExpiry
  /-- MODE_REQ_STANDBY (R41): A MODE_REQ write with TARGET 2 requests Standby, checked for KEY, authority, busy and transition. -/
  | modeReqStandby (init : InitId) (key : BitVec 16)
  /-- MODE_REQ_ACTIVE (R41): A MODE_REQ write with TARGET 3 requests Active, or arms a twin (R37). -/
  | modeReqActive (init : InitId) (key : BitVec 16)
  /-- MODE_REQ_MAINTENANCE (R41): A MODE_REQ write with TARGET 4 requests Maintenance. -/
  | modeReqMaintenance (init : InitId) (key : BitVec 16)
  /-- MODE_TRANSITION_TAKES_EFFECT (R36): A pending transition into or out of Active takes effect at its frame boundary, setting MODE_FRAME and sending the first slices or the last heartbeat. -/
  | modeTransitionTakesEffect
  /-- FRAME_TICK (R302): The Clocktower raises the tick that begins the next frame when the counter reaches the armed grid point. -/
  | frameTick
  /-- TPL_OPEN (R81): TPL_CTL CMD 1 gives the writing district ownership of the staging set. -/
  | tplOpen (init : InitId) (key : BitVec 16)
  /-- TPL_VALIDATE (R81): TPL_CTL CMD 2 starts validation of the staged plan. -/
  | tplValidate (init : InitId) (key : BitVec 16)
  /-- VALIDATION_DONE (R79): Validation ends within 100 ms with VALID or INVALID and reports the first failure and its location. -/
  | validationDone
  /-- TPL_APPLY (R82): TPL_CTL CMD 3 applies the validated plan, allocating its lot sets or failing with 0x21 or 0x22. -/
  | tplApply (init : InitId) (key : BitVec 16)
  /-- TPL_ABORT (R81): TPL_CTL CMD 4 returns TPL to IDLE and releases the staging set. -/
  | tplAbort (init : InitId) (key : BitVec 16)
  /-- STAGING_ZERO_FILL_DONE (R80): The zero-fill of a released staging set ends and OWNER returns to none. -/
  | stagingZeroFillDone
  /-- FULL_APPLY_TAKES_EFFECT (R82): A full plan takes effect at the first frame boundary after allocation and copies complete. -/
  | fullApplyTakesEffect
  /-- LIVE_APPLY_TAKES_EFFECT (R85): A live plan takes effect at the first frame boundary after its allocation completes, freeing dropped sets. -/
  | liveApplyTakesEffect
  /-- LOT_REQ (R129): A LOT_REQ write submits a run-time allocation request in a request slot. -/
  | lotReq (init : InitId) (value : Word32)
  /-- LOT_FREE (R103): A LOT_FREE write frees a run-time set, starting zero-fill of its lots. -/
  | lotFree (init : InitId) (value : Word32)
  /-- LOT_RSTAT_ACK (R130): Writing 1 to DONE of LOT_RSTATk frees request slot k. -/
  | lotRstatAck (init : InitId) (slot : Fin 4) (value : Word32)
  /-- ZERO_FILL_DONE (R104): Zero-fill of freed lots ends, the lots count as free and waiting requests are considered. -/
  | zeroFillDone
  /-- MIGRATION_EVALUATION (R113): Every MIG_INTERVAL frames the device looks for a set to promote to Square. -/
  | migrationEvaluation
  /-- MIGRATION_COPY_DONE (R114): A migration or retirement copy completes, awaiting the switch. -/
  | migrationCopyDone
  /-- MIGRATION_SWITCH (R114): At the first frame boundary after the copy, accesses switch to the new copy and the old lots are freed. -/
  | migrationSwitch
  /-- PATROL_SCRUB (R122): Patrol scrub reads and corrects DRAM and Square blocks once in each 24 hours. -/
  | patrolScrub
  /-- MEMORY_ERROR_DETECTED (R122): A corrected or uncorrectable memory error is detected, recorded and, if uncorrectable, the block is poisoned. -/
  | memoryErrorDetected (init : InitId) (frame : Nat) (block : Nat) (uncorrectable : Bool)
  /-- DRAM_REFRESH (R121): A DRAM channel starts a refresh when LT_MIN allows or eight refreshes are owed. -/
  | dramRefresh (chan : Fin 32) (owed : Nat)
  /-- DRAM_POWER_DOWN (R121): A DRAM channel enters power-down when its queues are idle and LT_MIN allows. -/
  | dramPowerDown (chan : Fin 32) (idle : Nat) (owed : Nat)
  /-- LOT_ECC_COUNT_READ (R122): A read of LOT_ECC_CE or LOT_ECC_UE returns and clears the count. -/
  | lotEccCountRead (init : InitId) (ue : Bool)
  /-- BAR2_READ (R376): A host memory read through BAR2 is served from the district's lots or staging aperture. -/
  | bar2Read (host : Fin 4) (off : Nat) (len : Nat)
  /-- BAR2_WRITE (R376): A host memory write through BAR2 reaches the district's lots or staging aperture. -/
  | bar2Write (host : Fin 4) (off : Nat) (data : Bar2Data)
  /-- INGRESS_PACKET (R134): A received packet for a network input is checked and written into the input's frame buffer. -/
  | ingressPacket (port : Fin 64) (bytes : List Byte) (room : Room)
  /-- IGMP_QUERY (R135): An IGMP query is answered with membership reports for enabled inputs. -/
  | igmpQuery (port : Fin 64) (group : Word32)
  /-- ING_RELEARN (R136): Writing RELEARN of ING_CFG forgets the input's SSRC. -/
  | ingRelearn (init : InitId) (input : Fin 16) (value : Word32)
  /-- ING_HD_POST (R143): A write to ING_HD_POST posts the staged host-written frame descriptor. -/
  | ingHdPost (init : InitId) (input : Fin 16) (value : Word32)
  /-- ING_HD_COMPLETE (R144): A host-written source frame is read whole and its descriptor completes. -/
  | ingHdComplete (input : Fin 16)
  /-- INPUT_LOST (R153): No frame completing within four input periods makes the input LOST. -/
  | inputLost (input : Fin 16)
  /-- PLZ_COMMIT_LAYER (R165): PLZ_COMMIT layer bits check and copy shadow settings into the pending copies. -/
  | plzCommitLayer (init : InitId) (plaza : Fin 4) (mask : BitVec 16)
  /-- PLZ_COMMIT_BG (R165): PLZ_COMMIT bit 16 commits the shadow background. -/
  | plzCommitBg (init : InitId) (plaza : Fin 4)
  /-- PLZ_LATCH (R167): At the latch line the pending layer and background commits are sampled and become active. -/
  | plzLatch (plaza : Fin 4)
  /-- CANVAS_ROW_COMPOSE (R157): The Plaza composes one canvas row in its line period, or as soon as cut-through source rows arrive. -/
  | canvasRowCompose (plaza : Fin 4) (row : Nat) (late : List (Fin 16 × Nat)) (wbFull : Bool)
  /-- CANVAS_COMPLETE (R158): A framed canvas's last row is written, PLZ_DONE takes the frame number and Boulevard runs become eligible. -/
  | canvasComplete (plaza : Fin 4)
  /-- PLZ_UNDERRUN_READ (R172): A read of PLZ_UNDERRUN returns and clears the first underrun record. -/
  | plzUnderrunRead (init : InitId) (plaza : Fin 4)
  /-- BLV_TCOMMIT (R196): A write of 1 to BLV_TCOMMIT checks and copies the tile's shadow settings into its pending copy. -/
  | blvTcommit (init : InitId) (tile : Fin 4096) (value : Word32)
  /-- BLV_GMASTER_WRITE (R198): A write to BLV_GMASTER sets the canvas global master from its next sample point. -/
  | blvGmasterWrite (init : InitId) (canvas : Fin 4) (value : Word32)
  /-- BLV_RUN_DONE (R193): A Boulevard finishes a run for a frame. -/
  | blvRunDone (boulevard : Fin 16) (tile : Fin 4096) (run : Nat)
  /-- AVE_SLICE_FETCH_DONE (R210): A framed slice has been read whole into the Avenue's slice buffer. -/
  | aveSliceFetchDone (port : Fin 64)
  /-- CT_SLICE_START (R213): A cut-through slice starts h PIPE cycles after its first packed byte arrives. -/
  | ctSliceStart (port : Fin 64)
  /-- FRAME_DEADLINE (R217): The deadline D(n) arrives with unstarted slices, which are abandoned and the tile marked incomplete. -/
  | frameDeadline (port : Fin 64) (plaza : Fin 4)
  /-- AVE_UNDERRUN_READ (R217): A read of AVE_UNDERRUN returns and clears the first underrun record. -/
  | aveUnderrunRead (init : InitId) (port : Fin 64)
  /-- PORT_TX_FRAME_DONE (R271): A port's preemptable transmitter finishes a frame and chooses the next among Avenue, Fixture Engine, internal and ring sources. -/
  | portTxFrameDone (port : Fin 64)
  /-- LMS_CQ_POST (R239): A write to LMS_CQ_POST checks and posts the staged control descriptor. -/
  | lmsCqPost (init : InitId) (port : Fin 64) (value : Word32)
  /-- CTRL_RESP (R245): A tile's CTRL_RESP acknowledges, refuses or returns data for outstanding transactions. -/
  | ctrlResp (port : Fin 64) (bytes : List Byte)
  /-- RESYNC_ACK (R247): A tile's RESYNC_ACK with the matching BASE_TSN brings its session UP. -/
  | resyncAck (port : Fin 64) (bytes : List Byte)
  /-- SESSION_TIMER_EXPIRY (R247): A tile session's response timer expires, causing a replay, a RESYNC resend, a rewind failure or DOWN. -/
  | sessionTimerExpiry (tile : Fin 4096)
  /-- DOWN_RESYNC (R247): At every 64th frame boundary a DOWN session sends RESYNC. -/
  | downResync (tile : Fin 4096)
  /-- LMS_CPL_POP (R250): A read of LMS_CPL_LO removes the oldest completion and latches its second half. -/
  | lmsCplPop (init : InitId) (port : Fin 64)
  /-- BLACKOUT_DOORBELL (R367): A write of KEY 0xF1AE to HST_FIRE with authority enters the Fire Lane and blacks out tiles and fixtures. -/
  | blackoutDoorbell (host : Fin 4) (value : Word32)
  /-- HOUSE_DOORBELL (R369): A write to MBX_FIRE by the house district rings the blackout with DIST 7. -/
  | houseDoorbell (init : InitId) (value : Word32)
  /-- BLACKOUT_RELEASE (R236): An accepted write to LMS_BLACK_REL ends the blackout and advances BGEN. -/
  | blackoutRelease (init : InitId) (value : Word32)
  /-- LINK_UP (R262): A port's link comes up after its conditions have held for 1 ms. -/
  | linkUp (port : Fin 65)
  /-- LINK_DOWN (R262): A port's link goes down in the cycle one of its conditions fails. -/
  | linkDown (port : Fin 65) (fault : LinkFault)
  /-- PRT_SERDES_WRITE (R261): A write to PRT_SERDES sets taps and polarity and drops the link. -/
  | prtSerdesWrite (init : InitId) (port : Fin 64) (value : Word32)
  /-- PREEMPT_VERIFY_DONE (R269): The Clause 99 verify on a port without USE bit 0 succeeds or fails. -/
  | preemptVerifyDone (port : Fin 64) (ok : Bool)
  /-- PORT_RX_FRAME (R268): An accepted frame goes to Lamp Stream, the Clocktower, ingress or the receive rings. -/
  | portRxFrame (port : Fin 65) (bytes : List Byte) (rx : RxMeta)
  /-- RING_ENABLE (R274): A write of EN 1 to a ring's CTL checks and enables the ring. -/
  | ringEnable (init : InitId) (ring : RingId) (value : Word32)
  /-- RING_DISABLE (R274): A write of EN 0 stops the ring after the frame in progress. -/
  | ringDisable (init : InitId) (ring : RingId) (value : Word32)
  /-- RING_TAIL_WRITE (R273): A TAIL write hands descriptors to the device. -/
  | ringTailWrite (init : InitId) (ring : RingId) (value : Word32)
  /-- RING_TX_DESCRIPTOR (R280): The device takes a transmit descriptor, checks it and sends its frame or segments. -/
  | ringTxDescriptor (port : Fin 64) (ring : Fin 4)
  /-- RING_EVENT_TIMER (R284): The ITR_US interval expires and a pending ring event is raised. -/
  | ringEventTimer (ring : RingId)
  /-- CLT_INCR_WRITE (R290): A write of the increment is accepted within ±100 ppm or refused with 0x01. -/
  | cltIncrWrite (init : InitId) (value : Word32)
  /-- SLEW_START (R291): A write to CLT_ADJ starts, replaces or cancels a slew. -/
  | slewStart (init : InitId) (value : Word32)
  /-- SLEW_DONE (R291): The slew remainder is used up and the slew ends. -/
  | slewDone
  /-- CLT_STEP_ADD (R292): CLT_STEP_CTL MODE 1 adds the staged signed offset to the counter. -/
  | cltStepAdd (init : InitId) (key : BitVec 16)
  /-- CLT_STEP_SET (R292): CLT_STEP_CTL MODE 2 sets the counter to the staged time. -/
  | cltStepSet (init : InitId) (key : BitVec 16)
  /-- CLT_LATCHING_READ (R306): A read of CLT_TNS, CLT_FT_NS or CLT_LTCIN_TNS latches the associated registers per initiator. -/
  | cltLatchingRead (init : InitId) (which : Fin 3)
  /-- PTP_MESSAGE (R294): The PTP engine takes a received PTP message, updating offset, path delay and port states. -/
  | ptpMessage (port : Fin 64) (bytes : List Byte)
  /-- PTP_SYNC_INTERVAL (R295): A master port sends Sync and Follow_Up at each sync interval. -/
  | ptpSyncInterval (port : Fin 64)
  /-- PTP_ANNOUNCE_INTERVAL (R295): A master port sends Announce at each announce interval. -/
  | ptpAnnounceInterval (port : Fin 64)
  /-- ANNOUNCE_RECEIPT_TIMEOUT (R299): The selected master's announce receipt times out, moving the Clocktower to HOLDOVER or FREE. -/
  | announceReceiptTimeout
  /-- SYNC_RECEIPT_TIMEOUT (R299): No Sync pair accepted for 16 intervals moves the Clocktower to HOLDOVER or FREE. -/
  | syncReceiptTimeout
  /-- LTC_WORD_START (R304): An LTC output word begins at a qualifying grid point. -/
  | ltcWordStart
  /-- LTC_INPUT_WORD (R305): A complete LTC input word is decoded and latched with its time. -/
  | ltcInputWord (word : BitVec 80) (period : Nat)
  /-- LTC_INPUT_TIMEOUT (R305): No complete LTC input word for 200 ms clears VALID. -/
  | ltcInputTimeout
  /-- REFMON_WINDOW_END (R453): A REFCLK monitor window ends and its count qualifies, tracks or fails REFCLK. -/
  | refmonWindowEnd (count : Nat) (gap : Bool)
  /-- REFCLK_FAIL (R454): A 4 µs edge gap or a count outside EXPECT ± 1 % switches the root to the internal oscillator and raises NMI. -/
  | refclkFail (gap : Bool) (count : Nat)
  /-- CLOCK_SWITCH_DONE (R456): A glitch-free clock switch completes on the new source. -/
  | clockSwitchDone
  /-- FXE_DCOMMIT (R311): A write to FXE_DCOMMIT checks and stages the district's buffer registration and bank. -/
  | fxeDcommit (init : InitId) (slot : Fin 5) (value : Word32)
  /-- FXE_MERGE_DONE (R316): A synchronisation group's merge completes and its packets are queued. -/
  | fxeMergeDone (uni : Nat)
  /-- DMX_PACKET_END (R321): A DMX packet finishes and the line holds mark. -/
  | dmxPacketEnd (dmx : Fin 4)
  /-- RDM_BROADCAST (R323): FXE_RDMCTL START with EXPECT 0 sends an RDM request expecting no response. -/
  | rdmBroadcast (init : InitId) (dmx : Fin 4)
  /-- RDM_REQUEST (R323): FXE_RDMCTL START with EXPECT 1 sends an RDM request expecting a response. -/
  | rdmRequest (init : InitId) (dmx : Fin 4)
  /-- RDM_DISCOVERY (R323): FXE_RDMCTL START with EXPECT 2 sends a discovery request. -/
  | rdmDiscovery (init : InitId) (dmx : Fin 4)
  /-- RDM_RESPONSE (R324): An RDM response is received and stored, ending the exchange. -/
  | rdmResponse (dmx : Fin 4) (bytes : List Byte)
  /-- RDM_EXCHANGE_TIMEOUT (R324): The 176 µs broadcast time or 2.8 ms response wait ends the exchange. -/
  | rdmExchangeTimeout (dmx : Fin 4)
  /-- SUBMISSION_POST (R356): A write covering bytes 60 to 63 of a submission window posts the staged work item. -/
  | submissionPost (init : InitId) (slot : Fin 5) (lane : Fin 8) (dword : Fin 16) (words : List Word32)
  /-- ITEM_ADMISSION (R329): The admission arbiter takes one item from a submission queue into a record, or rejects it. -/
  | itemAdmission
  /-- AGING_POINT (R332): Every 256 TICK cycles eligible items that have waited AGE_LIMIT move up one level. -/
  | agingPoint
  /-- ITEM_DISPATCH (R333): The Roundabout picks an item for an idle core and dispatches it. -/
  | itemDispatch (core : Fin 16)
  /-- ITEM_COMPLETE (R339): A running item completes and its completion is written to the completion queue. -/
  | itemComplete (core : Fin 16)
  /-- RUN_LIMIT_STOP (R338): An item whose run time exceeds 4 × COST is stopped with status 0x0A. -/
  | runLimitStop (core : Fin 16) (uids : List (BitVec 48))
  /-- DEFERRED_COMPLETION_WRITE (R340): A completion held for lack of lane space is written when space appears. -/
  | deferredCompletionWrite (slot : Fin 5)
  /-- HANDLER_ECHO (R346): Handler 0x0001 returns its argument. -/
  | handlerEcho (core : Fin 16)
  /-- HANDLER_COPY (R346): Handler 0x0010 copies bytes between sets. -/
  | handlerCopy (core : Fin 16)
  /-- HANDLER_FILL (R346): Handler 0x0011 fills a range with a 64-bit pattern. -/
  | handlerFill (core : Fin 16)
  /-- HANDLER_LUTGEN (R346): Handler 0x0020 writes a transfer LUT bank. -/
  | handlerLutgen (core : Fin 16)
  /-- HANDLER_CRC (R346): Handler 0x0030 computes a CRC-32 over a range. -/
  | handlerCrc (core : Fin 16)
  /-- HANDLER_RDMDISC (R346): Handler 0x0040 runs RDM discovery and writes the UIDs found. -/
  | handlerRdmdisc (core : Fin 16) (uids : List (BitVec 48))
  /-- HANDLER_UNIVSNAP (R346): Handler 0x0050 copies the slots last sent for a universe. -/
  | handlerUnivsnap (core : Fin 16)
  /-- TRACE_ENABLE (R348): A write of EN to SCH_TRC_CTL checks the trace configuration and enables or disables the trace. -/
  | traceEnable (init : InitId) (slot : Fin 5) (value : Word32)
  /-- QUE_CQ_POP (R354): A read of QUE_CQ_POP removes the head completion of the highest non-empty lane. -/
  | queCqPop (init : InitId) (slot : Fin 5)
  /-- CQ_MARK (R359): QUE_CQ_MARK CMD 1 marks every completion lane at its RP. -/
  | cqMark (init : InitId) (slot : Fin 5)
  /-- CQ_REWIND (R359): QUE_CQ_MARK CMD 2 restores every lane's RP to its mark if all marks are valid. -/
  | cqRewind (init : InitId) (slot : Fin 5)
  /-- H2F_POST (R361): A host write of the header dword posts an H2F mailbox message. -/
  | h2fPost (init : InitId) (header : Word32)
  /-- F2H_POST (R361): A firmware write of the header dword posts an F2H mailbox message. -/
  | f2hPost (init : InitId) (host : Fin 4) (header : Word32)
  /-- F2H_POP (R363): A read of HST_MBX_POP removes the head F2H message and latches its payload. -/
  | f2hPop (init : InitId)
  /-- H2F_POP (R363): A read of MBX_POP removes the head H2F message and latches its payload. -/
  | h2fPop (init : InitId) (host : Fin 4)
  /-- MBX_ECHO (R362): Firmware answers CHAN 0x00 with the request payload. -/
  | mbxEcho (host : Fin 4)
  /-- MBX_VERSION (R362): Firmware answers CHAN 0x01 with its firmware and interface versions. -/
  | mbxVersion (host : Fin 4)
  /-- FW_HEARTBEAT (R366): Firmware writes an incremented count to MBX_FWHB at least every 10 ms. -/
  | fwHeartbeat (host : Fin 4)
  /-- HOST_DISTRICT_RESET (R384): A function-level reset, hot reset or link down resets one host district. -/
  | hostDistrictReset (host : Fin 4) (by_ : DistReset)
  /-- HOST_LINK_UP (R465): A host port's PCI Express link finishes training and answers configuration requests. -/
  | hostLinkUp (link : HostLink)
  /-- POWER_STATE_CHANGE (R372): A change between D0 and D3hot enables or disables BAR decoding. -/
  | powerStateChange (host : Fin 4) (d3 : Bool)
  /-- BUS_MASTER_ENABLE (R378): Setting Bus Master Enable sends held MSI-X messages and resumes DMA. -/
  | busMasterEnable (host : Fin 4)
  /-- MSIX_VECTOR_UNMASK (R378): Unmasking a vector with its pending bit set sends its message. -/
  | msixVectorUnmask (host : Fin 4) (vector : Fin 256)
  /-- DMA_DESCRIPTOR_START (R381): A DMA engine takes a descriptor, checks it and starts its transfers. -/
  | dmaDescriptorStart (host : Fin 4) (engine : Fin 4)
  /-- DMA_HOST_COMPLETION (R383): A host completion for a DMA read arrives and is written to the lot. -/
  | dmaHostCompletion (host : Fin 4) (engine : Fin 4) (bytes : List Byte) (ep : Bool) (ok : Bool)
  /-- DMA_COMPLETION_TIMEOUT (R383): A DMA read completion timeout stops the descriptor with 0x04. -/
  | dmaCompletionTimeout (host : Fin 4) (engine : Fin 4)
  /-- DMA_DESCRIPTOR_DONE (R382): All data of a DMA descriptor has moved and the descriptor is written back. -/
  | dmaDescriptorDone (host : Fin 4) (engine : Fin 4)
  /-- CROSSING_READ (R388): A read presented to the Crossing is granted and answered with data or retry. -/
  | crossingRead (input : Fin 22) (addr : Nat)
  /-- CROSSING_REPEAT (R387): An initiator repeats a retried Crossing access 16 FAB cycles later. -/
  | crossingRepeat (input : Fin 22) (addr : Nat)
  /-- CROSSING_WRITE (R395): A posted write to a Crossing block is acknowledged or retried. -/
  | crossingWrite (input : Fin 22) (addr : Nat) (value : Word32)
  /-- FAR_SIDE_RESPONSE (R388): Data, acknowledgement or refusal arrives from the Kerb link or external service bus. -/
  | farSideResponse (kerb : Bool) (answer : FarAnswer)
  /-- FAR_SIDE_TIMEOUT (R390): A far side that has not answered in time ends the access with 0x01. -/
  | farSideTimeout (kerb : Bool)
  /-- PREFETCH_HOLD_EXPIRY (R392): A held prefetched line expires after 4,096 FAB cycles and is dropped. -/
  | prefetchHoldExpiry (input : Fin 22)
  /-- XNG_SEM_READ (R397): A read of a semaphore acquires it or reports its owner. -/
  | xngSemRead (init : InitId) (sem : Fin 64)
  /-- XNG_SEM_WRITE (R398): A write to a semaphore releases it when made by the owner, or is logged. -/
  | xngSemWrite (init : InitId) (sem : Fin 64) (value : Word32)
  /-- XNG_SEMLOG_READ (R398): A read of XNG_SEMLOG returns and clears the ignored-write record. -/
  | xngSemlogRead (init : InitId)
  /-- XNG_LOG_POP (R396): A read of XNG_ERRLOG0 or XNG_LOST0 removes the oldest record and latches the rest. -/
  | xngLogPop (init : InitId) (slot : Fin 5) (lost : Bool)
  /-- DIMMING_PERIOD_START (R403): A dimming period begins, applying new settings and checking each channel's faults. -/
  | dimmingPeriodStart (meas : List KerbMeas)
  /-- CHANNEL_LEVEL_WRITE (R403): A write to KRB_CHLEVEL stores a dimmable channel's level for the next period. -/
  | channelLevelWrite (init : InitId) (ch : Fin 48) (value : Word32)
  /-- CHANNEL_FAULT_CLEAR (R408): A write of KEY 0xC1EA to KRB_CHCLR clears a latched dimmable fault. -/
  | channelFaultClear (init : InitId) (ch : Fin 48) (value : Word32)
  /-- GROUP_STEP_COMMAND (R410): A write of KEY 0x516E to KRB_GCMD sets a sign group's step. -/
  | groupStepCommand (init : InitId) (group : Fin 16) (value : Word32)
  /-- GROUP_FAULT_CLEAR (R412): A write of KEY 0xC1EA to KRB_GCLR clears FAULTED. -/
  | groupFaultClear (init : InitId) (group : Fin 16) (value : Word32)
  /-- NTC_MEASUREMENT (R413): Each NTC input is measured every 10 ms and derating is updated. -/
  | ntcMeasurement (ntc : Fin 8) (reading : Nat)
  /-- KERB_LINK_LOSS (R416): SLOW stopping or 50 µs without a Kerb link frame releases every gate-drive pin. -/
  | kerbLinkLoss
  /-- CKO_CONFIG_WRITE (R460): A change of FREQ, SPREAD or CENTER holds the output low and relocks its PLL. -/
  | ckoConfigWrite (init : InitId) (out : Fin 4) (value : Word32)
  /-- CKO_RELOCK_DONE (R460): A clock output's PLL relocks and the output restarts. -/
  | ckoRelockDone (out : Fin 4)
  /-- METER_SAMPLE (R423): All metering inputs are sampled and each element's products accumulate. -/
  | meterSample (codes : List Int) (sense : Int)
  /-- METER_BLOCK_BOUNDARY (R427): At each 50 ms block boundary block sums pass the start-current test and are added to the accumulators. -/
  | meterBlockBoundary (phase : PhaseMeas)
  /-- METER_TEMP_MEASURE (R425): The Kerb measures its die temperature every 100 ms. -/
  | meterTempMeasure (temp : Int)
  /-- METER_SAVE (R430): Every second the accumulators are saved to the settings store. -/
  | meterSave (ok : Bool)
  /-- METER_CLEAR (R431): A write of KEY 0x3E7C to MET_CLEAR by the house district clears every accumulator. -/
  | meterClear (init : InitId) (value : Word32)
  /-- METER_SNAPSHOT (R432): A write to MET_SNAP latches all accumulators into the writer's bank. -/
  | meterSnapshot (init : InitId) (slot : Fin 5)
  /-- PULSE_WIDTH_EXPIRY (R437): The low time of a metering pulse ends and MET_PULSE_N goes high. -/
  | pulseWidthExpiry
  /-- PULSE_GAP_EXPIRY (R437): The high gap after a pulse ends and the next pulse of the backlog may start. -/
  | pulseGapExpiry
  /-- CAL_START (R442): CAL_CTL CMD 1 starts a calibration procedure. -/
  | calStart (init : InitId) (value : Word32)
  /-- CAL_ABORT (R449): CAL_CTL CMD 2 aborts a procedure in STATE 1 to 3. -/
  | calAbort (init : InitId) (value : Word32)
  /-- CAL_STORE_DONE (R446): The accepted coefficient and record are stored and the ramp begins. -/
  | calStoreDone (ok : Bool)
  /-- UNIT_GATE (R457): CKG_GATECMD OP 1 requests that a unit's clock be gated. -/
  | unitGate (init : InitId) (unit : BitVec 6)
  /-- UNIT_UNGATE (R458): CKG_GATECMD OP 2 withdraws a waiting gate request or completes at once. -/
  | unitUngate (init : InitId) (unit : BitVec 6)
  /-- UNIT_GATED (R458): The unit drains and its clock stops. -/
  | unitGated
  /-- GATE_BUSY_TIMEOUT (R458): A gate request not satisfied in 4,096 FAB cycles is refused with 0x10. -/
  | gateBusyTimeout
  /-- UNIT_WAKE (R459): An access or apply reaching a gated unit holds the access and wakes the unit. -/
  | unitWake (unit : Nat)
  /-- UNIT_WAKE_DONE (R459): The woken unit's clock runs 64 FAB cycles later and the held access proceeds. -/
  | unitWakeDone (unit : Nat)
  /-- CAUSEWAY_LINK_CHANGE (R474): The Causeway link comes up or goes down. -/
  | causewayLinkChange (up : Bool)
  /-- CW_LEASE_FRAME (R474): A LEASE frame from the peer is received and checked against PAIR_ID. -/
  | cwLeaseFrame (frame : LeaseFrame)
  /-- CW_STATUS_FRAME (R474): A STATUS frame from the peer is received and pairing is checked. -/
  | cwStatusFrame (frame : StatusFrame)
  /-- LEASE_RENEWAL_POINT (R475): At each RENEW_MS point the holder renews if permitted, sends LEASE and STATUS and runs self-diagnosis. -/
  | leaseRenewalPoint
  /-- CSW_RENEW (R475): A write of KEY 0x1EA5 to CSW_RENEW permits the next renewal. -/
  | cswRenew (init : InitId) (value : Word32)
  /-- LEASE_EXPIRY (R475): LEASE_MS without renewal ends the lease, triggering cause 0x23. -/
  | leaseExpiry
  /-- LEASE_IN_CHANGE (R477): The LEASE_IN pin changes level. -/
  | leaseInChange (level : Bool)
  /-- LEASE_WATCH_EXPIRY (R477): Both watch timers expire and an armed device begins to claim. -/
  | leaseWatchExpiry
  /-- CLAIM_WAIT_EXPIRY (R477): The claim wait ends and the device asserts LEASE_OUT. -/
  | claimWaitExpiry
  /-- CLAIM_GUARD_EXPIRY (R477): After 10 µs the device acquires the lease with a new epoch or backs off from a collision. -/
  | claimGuardExpiry
  /-- LEASE_PIN_FAULT (R477): Pin and link disagreeing for LEASE_MS sets PIN_FAULT. -/
  | leasePinFault
  /-- CSW_HANDOVER (R480): CSW_CMD HANDOVER on the holder starts a handover to a READY peer. -/
  | cswHandover (init : InitId) (key : BitVec 16)
  /-- CSW_RESYNC (R486): CSW_CMD RESYNC restarts the sync of a SYNCING or READY standby. -/
  | cswResync (init : InitId) (key : BitVec 16)
  /-- HANDOVER_FRAME (R480): The standby receives HANDOVER and answers ACCEPT if READY and ARMED. -/
  | handoverFrame (boundary : Word32) (epoch : Word32)
  /-- ACCEPT_FRAME (R480): The holder receives ACCEPT and releases the lease for boundary B. -/
  | acceptFrame (boundary : Word32)
  /-- HANDOVER_ACCEPT_TIMEOUT (R480): No ACCEPT by B − 1 ms abandons the handover with 0x05. -/
  | handoverAcceptTimeout
  /-- HANDOVER_ASSERT_DEADLINE (R480): A standby that has not asserted by B − 100 µs leaves the claim to the watch. -/
  | handoverAssertDeadline
  /-- MIRROR_RECORD (R484): The standby receives and applies a mirrored plan, lot write, submission or reset. -/
  | mirrorRecord (item : MirrorRec)
  /-- FRAME_RECORD (R485): The standby receives a FRAME record of committed settings. -/
  | frameRecord (item : FrameRec)
  /-- FRAME_RECORD_LATE (R485): A FRAME record absent 50 µs after the sample point sets DIVERGED. -/
  | frameRecordLate
  /-- BLACK_RECORD (R487): A BLACK record carries a blackout change to the twin. -/
  | blackRecord (black : Bool) (bgen : Byte) (dist : Nat)
  /-- SYNC_STEP_DONE (R486): A sync step completes and the next begins or the standby becomes READY. -/
  | syncStepDone
  /-- UPD_OPEN (R505): An OPEN request opens an update session. -/
  | updOpen (req : UpdReq)
  /-- UPD_STATUS (R505): A STATUS request returns the UPD registers. -/
  | updStatus (req : UpdReq)
  /-- UPD_BEGIN (R507): A BEGIN request checks a manifest and starts or resumes a download. -/
  | updBegin (req : UpdReq)
  /-- UPD_BLOCK (R507): A BLOCK request delivers one block to be programmed. -/
  | updBlock (req : UpdReq)
  /-- UPD_BLOCK_PROGRAMMED (R507): A block is programmed, read back and marked, and the request is answered. -/
  | updBlockProgrammed (io : StoreOut)
  /-- UPD_BITMAP (R505): A BITMAP request returns part of the download bitmap. -/
  | updBitmap (req : UpdReq)
  /-- UPD_VERIFY (R508): A VERIFY request starts verification of the download. -/
  | updVerify (req : UpdReq)
  /-- UPD_VERIFY_DONE (R508): Verification ends with VERIFIED or a failure code. -/
  | updVerifyDone
  /-- UPD_ACTIVATE (R509): An ACTIVATE request writes the boot or plan pointer or applies key operations. -/
  | updActivate (req : UpdReq)
  /-- UPD_CONFIRM (R510): A CONFIRM request ends the trial and raises the fuse counters. -/
  | updConfirm (req : UpdReq)
  /-- UPD_REVERT (R510): A REVERT request points back to the confirmed slot. -/
  | updRevert (req : UpdReq)
  /-- UPD_ABORT (R505): An ABORT request discards the download and returns to IDLE. -/
  | updAbort (req : UpdReq)
  /-- UPD_RESET (R505): A RESET request resets the device with cause 0x04. -/
  | updReset (req : UpdReq)
  /-- UPD_LCS (R493): An LCS request checks a token and blows the fuses of a life-cycle transition. -/
  | updLcs (req : UpdReq)
  /-- UPD_CLOSE (R505): A CLOSE request ends the session. -/
  | updClose (req : UpdReq)
  /-- UPD_SESSION_TIMEOUT (R506): 60 s without a valid request ends the session. -/
  | updSessionTimeout
  /-- PMC_PIN_WRITE (R520): A write to a PMC pin selects an event, checked as a selection. -/
  | pmcPinWrite (init : InitId) (slot : Fin 5) (pin : Fin 64) (value : Word32)
  /-- BW_WINDOW_END (R521): At each window end all bandwidth quantities are latched and counting restarts. -/
  | bwWindowEnd
  /-- ERROR_COLLECT (R523): The collector takes one waiting record and delivers it to the district logs. -/
  | errorCollect
  /-- ERR_POP (R525): A read of ERR_POP removes the oldest record and latches its dwords. -/
  | errPop (init : InitId) (slot : Fin 5)
  /-- ERR_INJECT (R530): A write to ERR_INJECT with KEY 0xE1A injects an error record. -/
  | errInject (init : InitId) (value : Word32)
  /-- THERMAL_ALERT (R547): A sensor crossing 110 °C or 105 °C drives or releases THERM_ALERT_N. -/
  | thermalAlert (sensor : Fin 8) (temp : Int)
  /-- THERMAL_TRIP (R547): A sensor reaching 125 °C drives THERM_TRIP_N low until it falls below 100 °C. -/
  | thermalTrip (sensor : Fin 8) (temp : Int)
  /-- REG64_LO_READ (R24): A read of a LO register returns bits [31:0] and latches the upper half per initiator. -/
  | reg64LoRead (init : InitId) (req : ReadReq)
  /-- REGISTER_WRITE (R21): A write to a register without a row of its own sets, clears or stages fields by their access type. -/
  | registerWrite (init : InitId) (addr : Nat) (req : WriteReq)
  /-- PEER_STATUS_TIMEOUT (R472): When no agreeing STATUS frame from the peer has been heard within LEASE_MS, the device takes role ALONE, PEER_ROLE reads 7, and a SYNCING or READY standby leaves sync. -/
  | peerStatusTimeout
  /-- STATUS_FRAME_INTERVAL (R474): Every RENEW_MS each device, holder or not, sends a STATUS frame carrying its role, PAIR_ID, versions, epoch, frame number, down ports and ARMED. -/
  | statusFrameInterval
  /-- PTP_DELAY_REQ_INTERVAL (R294): A port in SLAVE state sends Delay_Req at logMinDelayReqInterval for the delay request-response mechanism. -/
  | ptpDelayReqInterval (port : Fin 64)
  /-- PATH_DELIVERY_TIMEOUT (R141): PATH_A or PATH_B of an ST 2022-7 input clears when that path has delivered no valid packet within the last four input frame periods. -/
  | pathDeliveryTimeout (input : Fin 16) (pathB : Bool)
  /-- KERB_LINK_RETURN (R416): Frames resume on the Kerb link, and KRB_STATUS.LINK_OK returns to 1, with the gate-drive pins left released until the next entry into Active. -/
  | kerbLinkReturn
deriving DecidableEq, Repr

end Sys2Proof
end

