-- ==== Sys2Proof/Machine/Tab.lean ====
section
/-! DEFINITION. Sparse tables: a list of key and value pairs with rising keys, read with a default for an unlisted key.
Every replicated piece of the device (ports, tiles, lanes, register words) is kept in one of these. -/

namespace Sys2Proof.Machine

/-- A table from natural-number keys to values; unlisted keys read as the default the reader names. -/
abbrev Tab (α : Type) := List (Nat × α)

/-- The entry under key `k`, if there is one. -/
def Tab.find? {α : Type} : Tab α → Nat → Option α
  | [], _ => none
  | (k', v) :: t, k => if k = k' then some v else Tab.find? t k

/-- The value under key `k`, or `d` where the table has no entry. -/
def Tab.get {α : Type} (t : Tab α) (d : α) (k : Nat) : α := (t.find? k).getD d

/-- The table with the value `v` under key `k`; keys stay in rising order. -/
def Tab.set {α : Type} : Tab α → Nat → α → Tab α
  | [], k, v => [(k, v)]
  | (k', v') :: t, k, v =>
    if k = k' then (k, v) :: t
    else if k < k' then (k, v) :: (k', v') :: t
    else (k', v') :: Tab.set t k v

/-- The table without the entries whose key meets `p`. -/
def Tab.drop {α : Type} (t : Tab α) (p : Nat → Bool) : Tab α := List.filter (fun e => !p e.1) t

/-- The table with `f` applied to the entry under `k` (or to the default). -/
def Tab.upd {α : Type} (t : Tab α) (d : α) (k : Nat) (f : α → α) : Tab α := t.set k (f (t.get d k))

end Sys2Proof.Machine
end

