-- ==== Sys2Proof/Machine/Operands.lean ====
section
/-! DEFINITION. Operand forms: the fields of a register word (R10, R25), the parts of a 64-bit value (R24),
little-endian bytes of memory structures and network-order bytes of frames (R11), signed readings of unsigned words,
initiators and districts (R16, R17), frame-number comparison (R13). -/

namespace Sys2Proof.Machine

/-- The field of `w` bits whose lowest bit is `lo`. -/
def field (v : Word32) (lo w : Nat) : Nat := (v.toNat >>> lo) % 2 ^ w

/-- The word with ones in the `w` bits from `lo` upward. -/
def fieldMask (lo w : Nat) : Word32 := BitVec.ofNat 32 ((2 ^ w - 1) <<< lo)

/-- `v` with the field of `w` bits at `lo` set to `x`, modulo the field's range. -/
def putField (v : Word32) (lo w x : Nat) : Word32 :=
  (v &&& ~~~ fieldMask lo w) ||| BitVec.ofNat 32 ((x % 2 ^ w) <<< lo)

/-- A word packed from fields, each given as its lowest bit and its value. -/
def pack : List (Nat × Nat) → Word32
  | [] => 0
  | (lo, x) :: t => BitVec.ofNat 32 (x <<< lo) ||| pack t

/-- 1 for true, 0 for false. -/
def bit (b : Bool) : Nat := if b then 1 else 0

/-- Bit `i` of a natural number. -/
def natBit (v i : Nat) : Bool := v.testBit i

/-- Bits [31:0] of a 64-bit value. -/
def lo32 (v : U64) : Word32 := v.truncate 32
/-- Bits [63:32] of a 64-bit value. -/
def hi32 (v : U64) : Word32 := (v >>> 32).truncate 32
/-- A 64-bit value from its two halves, HI first. -/
def join64 (hi lo : Word32) : U64 := (hi ++ lo : BitVec 64)

/-- A 32-bit word of a natural number, modulo 2^32. -/
def w32 (n : Nat) : Word32 := BitVec.ofNat 32 n
/-- A byte of a natural number, modulo 256. -/
def b8 (n : Nat) : Byte := BitVec.ofNat 8 n

/-- The `n` little-endian bytes of a natural number (R11: structures in memory). -/
def leBytes : Nat → Nat → List Byte
  | 0, _ => []
  | n + 1, v => b8 v :: leBytes n (v / 256)

/-- The natural number whose little-endian bytes these are. -/
def ofLe : List Byte → Nat
  | [] => 0
  | b :: t => b.toNat + 256 * ofLe t

/-- The `n` network-order bytes of a natural number (R11: frames). -/
def beBytes (n v : Nat) : List Byte := (leBytes n v).reverse

/-- The natural number whose network-order bytes these are. -/
def ofBe (l : List Byte) : Nat := ofLe l.reverse

/-- `n` bytes of `l` from offset `o` on (short where the list ends). -/
def slice (l : List Byte) (o n : Nat) : List Byte := (l.drop o).take n

/-- The little-endian field of `n` bytes at offset `o`. -/
def leAt (l : List Byte) (o n : Nat) : Nat := ofLe (slice l o n)
/-- The network-order field of `n` bytes at offset `o`. -/
def beAt (l : List Byte) (o n : Nat) : Nat := ofBe (slice l o n)
/-- The byte at offset `o`, 0 beyond the end. -/
def byteAt (l : List Byte) (o : Nat) : Nat := (l.getD o 0).toNat

/-- The bytes of a list of dwords, little-endian. -/
def wordsToBytes : List Word32 → List Byte
  | [] => []
  | w :: t => leBytes 4 w.toNat ++ wordsToBytes t

/-- Dword `k` of a little-endian byte string. -/
def dwordAt (l : List Byte) (k : Nat) : Word32 := w32 (leAt l (4 * k) 4)

/-- The signed reading of an unsigned number of `w` bits (R11). -/
def signed (w v : Nat) : Int := if v % 2 ^ w < 2 ^ (w - 1) then (v % 2 ^ w : Nat) else (v % 2 ^ w : Nat) - (2 ^ w : Nat)

/-- The two's-complement word of `w` bits of an integer, as a natural number. -/
def twos (w : Nat) (i : Int) : Nat := (i % (2 ^ w : Nat)).toNat

/-- An integer held inside a closed range. -/
def clampI (lo hi v : Int) : Int := if v < lo then lo else if v > hi then hi else v

/-- A natural number held inside a closed range. -/
def clampN (lo hi v : Nat) : Nat := if v < lo then lo else if v > hi then hi else v

/-- Ceiling division; 0 divisor gives 0. -/
def ceilDiv (a b : Nat) : Nat := (a + b - 1) / b

/-- True when frame number `a` is later than `b` (R13). -/
def frameLater (a b : Word32) : Bool :=
  let d := (a - b).toNat
  d != 0 && d < 2 ^ 31

/-- True when the initiator is a control core (R17). -/
def isCore (i : InitId) : Bool := i.toNat < 0x10
/-- True when the initiator is a host port (R17). -/
def isHost (i : InitId) : Bool := 0x10 ≤ i.toNat && i.toNat < 0x14

/-- The house district's number (R16). -/
def houseDist : Nat := 7

/-- The district an initiator acts for: host port d and its DMA engines act for district d, every other initiator for
the house district (R16, R17). -/
def distOf (i : InitId) : Nat :=
  let n := i.toNat
  if isHost i then n - 0x10
  else if 0x20 ≤ n && n < 0x30 then (n - 0x20) / 4
  else houseDist

/-- True when the initiator belongs to the house district. -/
def isHouse (i : InitId) : Bool := distOf i == houseDist

/-- The register slot of a district: slots 0 to 3 are districts 0 to 3, slot 4 is the house district. -/
def slotOf (d : Nat) : Nat := if d < 4 then d else 4

/-- The district of a register slot. -/
def slotDist (j : Nat) : Nat := if j < 4 then j else houseDist

/-- All slots, in order. -/
def allSlots : List Nat := [0, 1, 2, 3, 4]

/-- The largest of a list of natural numbers, 0 for none. -/
def maxOf (l : List Nat) : Nat := l.foldl max 0

/-- `x` put into a list in front of the first element that it goes before. -/
def insertBy {α : Type} (before : α → α → Bool) (x : α) : List α → List α
  | [] => [x]
  | y :: t => if before x y then x :: y :: t else y :: insertBy before x t
/-- A list in rising order; equals keep their order. -/
def sortBy {α : Type} (before : α → α → Bool) (l : List α) : List α := l.foldr (insertBy (fun a b => !before b a)) []

/-- The sum of a list of natural numbers. -/
def sumOf (l : List Nat) : Nat := l.foldl (· + ·) 0

/-- The list `l` with position `i` replaced (unchanged where `i` is beyond the end). -/
def setAt {α : Type} (l : List α) (i : Nat) (x : α) : List α := l.set i x

end Sys2Proof.Machine
end

