-- ==== Sys2Proof/Machine/Plan.lean ====
section
/-! DEFINITION. The Town Plan as data: one structure per record type of the file format (R57 to R74) and the plan as a
whole, with the reading of each record from its little-endian bytes. -/

namespace Sys2Proof.Machine

/-- The SYSTEM record (R57). -/
structure SysRec where
  num : Nat := 60
  den : Nat := 1
  holdMs : Nat := 0
  fadeMs : Nat := 0
  modeAuth : Nat := 0
  fireAuth : Nat := 0
  planAuth : Nat := 0
  start : Nat := 0
  twin : Nat := 0
  ptpProfile : Nat := 0
  ptpDomain : Nat := 0
  ptpRole : Nat := 0
deriving DecidableEq, Repr

/-- A DISTRICT record (R58). -/
structure DistRec where
  dist : Nat
  guarD : Nat
  borD : Nat
  guarQ : Nat
  borQ : Nat
  blocks : Nat
  weight : Nat
deriving DecidableEq, Repr

/-- A LOTSET record (R60). -/
structure SetRec where
  id : Nat
  dist : Nat
  cls : Nat
  lots : Nat
  place : Nat
deriving DecidableEq, Repr

/-- An INPUT record (R63). -/
structure InRec where
  id : Nat
  kind : Nat
  dist : Nat
  format : Nat
  width : Nat
  height : Nat
  portA : Nat
  portB : Nat
  colour : Nat
  receiver : Nat
  group : Nat
  udp : Nat
  setId : Nat
  num : Nat
  den : Nat
deriving DecidableEq, Repr

/-- A CANVAS record (R64). -/
structure CanRec where
  plaza : Nat
  dist : Nat
  egress : Nat
  wbScale : Nat
  width : Nat
  height : Nat
  setId : Nat
  wbSet : Nat
  vblank : Nat
  latch : Nat
  bg : Nat
  presDelay : Nat
  outSet : Nat
deriving DecidableEq, Repr

/-- A LAYER record (R65). -/
structure LayRec where
  plaza : Nat
  layer : Nat
  inId : Nat
  flags : Nat
  cropX : Nat
  cropY : Nat
  cropW : Nat
  cropH : Nat
  dstX : Nat
  dstY : Nat
  dstW : Nat
  dstH : Nat
  alpha : Nat
  filter : Nat
deriving DecidableEq, Repr

/-- A LAYOUT record (R67). -/
structure LoutRec where
  id : Nat
  kind : Nat
  channels : Nat
  cols : Nat
  rows : Nat
  lamps : Nat
  posSet : Nat
  format : Nat
deriving DecidableEq, Repr

/-- A TILE record (R68). -/
structure TileRec where
  id : Nat
  plaza : Nat
  port : Nat
  layout : Nat
  lctSet : Nat
  orgX : Nat
  orgY : Nat
  pitchX : Nat
  pitchY : Nat
  sample : Nat
  dither : Nat
  master : Nat
  lutSet : Nat
  /-- destination MAC, first byte in wire order in bits [47:40] -/
  mac : Nat
deriving DecidableEq, Repr

/-- A PORT record (R69). -/
structure PortRec where
  port : Nat
  speed : Nat
  fec : Nat
  dist : Nat
  maxFrame : Nat
  use : Nat
  /-- source MAC, first byte in wire order in bits [47:40] -/
  mac : Nat
  vlan : Nat
  leadUs : Nat
deriving DecidableEq, Repr

/-- A SCHEDULE record (R70). -/
structure SchedRec where
  port : Nat
  tile : Nat
  slot : Nat
  sliceLamps : Nat
deriving DecidableEq, Repr

/-- A UNIVERSE record (R72). -/
structure UniRec where
  uni : Nat
  out : Nat
  prio : Nat
  sync : Nat
  slots : Nat
  group : Nat
  rateDiv : Nat
deriving DecidableEq, Repr

/-- A FIXTURE record (R72). -/
structure FixRec where
  id : Nat
  uni : Nat
  start : Nat
  foot : Nat
  merge : Nat
deriving DecidableEq, Repr

/-- A KERB record (R74). -/
structure KerbRec where
  ch : Nat
  kind : Nat
  group : Nat
  curve : Nat
  iMax : Nat
  dist : Nat
deriving DecidableEq, Repr

/-- A SIGNGROUP record (R74). -/
structure SignRec where
  group : Nat
  dist : Nat
  faultMs : Nat
  ntc : Nat
deriving DecidableEq, Repr

/-- A SCHEDCLASS record (R74). -/
structure ClassRec where
  dist : Nat
  maxLevel : Nat
  quantum : Nat
  age : Nat
deriving DecidableEq, Repr

/-- A WITNESS record (R74). -/
structure WitRec where
  win : Nat
  plaza : Nat
  dist : Nat
  compare : Bool
  x : Nat
  y : Nat
  w : Nat
  h : Nat
  expect : Nat
deriving DecidableEq, Repr

/-- The CAUSEWAY record (R74). -/
structure CwRec where
  leaseMs : Nat
  renewMs : Nat
  prefer : Nat
  mirror : Nat
  pairId : Nat
deriving DecidableEq, Repr

/-- A Town Plan: header identity and the records of its sections, each in key order (R48, R56). -/
structure Plan where
  id : Nat := 0
  rev : Nat := 0
  baseRev : Nat := 0
  live : Bool := false
  sys : SysRec := {}
  districts : List DistRec := []
  sets : List SetRec := []
  inputs : List InRec := []
  canvases : List CanRec := []
  layers : List LayRec := []
  layouts : List LoutRec := []
  tiles : List TileRec := []
  ports : List PortRec := []
  scheds : List SchedRec := []
  universes : List UniRec := []
  fixtures : List FixRec := []
  kerbs : List KerbRec := []
  signs : List SignRec := []
  classes : List ClassRec := []
  wits : List WitRec := []
  cw : Option CwRec := none
  /-- the records as bytes, by section TYPE -/
  raw : Tab (List (List Byte)) := []
deriving DecidableEq, Repr

/-- The reading of a SYSTEM record. -/
def SysRec.ofBytes (r : List Byte) : SysRec :=
  { num := leAt r 0 4, den := leAt r 4 4, holdMs := leAt r 8 2, fadeMs := leAt r 10 2, modeAuth := byteAt r 12,
    fireAuth := byteAt r 13, planAuth := byteAt r 14, start := byteAt r 15, twin := byteAt r 16,
    ptpProfile := byteAt r 17, ptpDomain := byteAt r 18, ptpRole := byteAt r 19 }

/-- The reading of a DISTRICT record. -/
def DistRec.ofBytes (r : List Byte) : DistRec :=
  { dist := byteAt r 0, guarD := leAt r 2 2, borD := leAt r 4 2, guarQ := byteAt r 6, borQ := byteAt r 7,
    blocks := leAt r 8 4, weight := leAt r 12 2 }

/-- The reading of a LOTSET record. -/
def SetRec.ofBytes (r : List Byte) : SetRec :=
  { id := leAt r 0 2, dist := byteAt r 2, cls := byteAt r 3, lots := leAt r 4 2, place := byteAt r 6 }

/-- The reading of an INPUT record. -/
def InRec.ofBytes (r : List Byte) : InRec :=
  { id := byteAt r 0, kind := byteAt r 1, dist := byteAt r 2, format := byteAt r 3, width := leAt r 4 2,
    height := leAt r 6 2, portA := byteAt r 8, portB := byteAt r 9, colour := byteAt r 10, receiver := byteAt r 11,
    group := leAt r 12 4, udp := leAt r 16 2, setId := leAt r 18 2, num := leAt r 20 4, den := leAt r 24 4 }

/-- The reading of a CANVAS record. -/
def CanRec.ofBytes (r : List Byte) : CanRec :=
  { plaza := byteAt r 0, dist := byteAt r 1, egress := byteAt r 2, wbScale := byteAt r 3, width := leAt r 4 2,
    height := leAt r 6 2, setId := leAt r 8 2, wbSet := leAt r 10 2, vblank := leAt r 12 2, latch := leAt r 14 2,
    bg := leAt r 16 8, presDelay := leAt r 24 4, outSet := leAt r 28 2 }

/-- The reading of a LAYER record. -/
def LayRec.ofBytes (r : List Byte) : LayRec :=
  { plaza := byteAt r 0, layer := byteAt r 1, inId := byteAt r 2, flags := byteAt r 3, cropX := leAt r 4 2,
    cropY := leAt r 6 2, cropW := leAt r 8 2, cropH := leAt r 10 2, dstX := leAt r 12 2, dstY := leAt r 14 2,
    dstW := leAt r 16 2, dstH := leAt r 18 2, alpha := leAt r 20 2, filter := byteAt r 22 }

/-- The reading of a LAYOUT record. -/
def LoutRec.ofBytes (r : List Byte) : LoutRec :=
  { id := leAt r 0 2, kind := byteAt r 2, channels := byteAt r 3, cols := leAt r 4 2, rows := leAt r 6 2,
    lamps := leAt r 8 4, posSet := leAt r 12 2, format := byteAt r 14 }

/-- The reading of a TILE record. -/
def TileRec.ofBytes (r : List Byte) : TileRec :=
  { id := leAt r 0 2, plaza := byteAt r 2, port := byteAt r 3, layout := leAt r 4 2, lctSet := leAt r 6 2,
    orgX := leAt r 8 2, orgY := leAt r 10 2, pitchX := leAt r 12 2, pitchY := leAt r 14 2, sample := byteAt r 16,
    dither := byteAt r 17, master := leAt r 18 2, lutSet := leAt r 20 2, mac := beAt r 24 6 }

/-- The reading of a PORT record. -/
def PortRec.ofBytes (r : List Byte) : PortRec :=
  { port := byteAt r 0, speed := byteAt r 1, fec := byteAt r 2, dist := byteAt r 3, maxFrame := leAt r 4 2,
    use := byteAt r 6, mac := beAt r 8 6, vlan := leAt r 14 2, leadUs := leAt r 16 2 }

/-- The reading of a SCHEDULE record. -/
def SchedRec.ofBytes (r : List Byte) : SchedRec :=
  { port := byteAt r 0, tile := leAt r 2 2, slot := leAt r 4 2, sliceLamps := leAt r 6 2 }

/-- The reading of a UNIVERSE record. -/
def UniRec.ofBytes (r : List Byte) : UniRec :=
  { uni := leAt r 0 2, out := byteAt r 2, prio := byteAt r 3, sync := leAt r 4 2, slots := leAt r 6 2,
    group := leAt r 8 4, rateDiv := byteAt r 12 }

/-- The reading of a FIXTURE record. -/
def FixRec.ofBytes (r : List Byte) : FixRec :=
  { id := leAt r 0 4, uni := leAt r 4 2, start := leAt r 6 2, foot := leAt r 8 2, merge := byteAt r 10 }

/-- The reading of a KERB record. -/
def KerbRec.ofBytes (r : List Byte) : KerbRec :=
  { ch := byteAt r 0, kind := byteAt r 1, group := byteAt r 2, curve := byteAt r 3, iMax := leAt r 4 2,
    dist := byteAt r 6 }

/-- The reading of a SIGNGROUP record. -/
def SignRec.ofBytes (r : List Byte) : SignRec :=
  { group := byteAt r 0, dist := byteAt r 1, faultMs := leAt r 2 2, ntc := byteAt r 4 }

/-- The reading of a SCHEDCLASS record. -/
def ClassRec.ofBytes (r : List Byte) : ClassRec :=
  { dist := byteAt r 0, maxLevel := byteAt r 1, quantum := leAt r 2 2, age := leAt r 4 4 }

/-- The reading of a WITNESS record. -/
def WitRec.ofBytes (r : List Byte) : WitRec :=
  { win := byteAt r 0, plaza := byteAt r 1, dist := byteAt r 2, compare := natBit (byteAt r 3) 0, x := leAt r 4 2,
    y := leAt r 6 2, w := leAt r 8 2, h := leAt r 10 2, expect := leAt r 12 4 }

/-- The reading of a CAUSEWAY record. -/
def CwRec.ofBytes (r : List Byte) : CwRec :=
  { leaseMs := leAt r 0 2, renewMs := leAt r 2 2, prefer := byteAt r 4, mirror := byteAt r 5, pairId := leAt r 8 8 }

/-- The plan whose sections (by TYPE) hold these records. -/
def Plan.ofSections (id rev baseRev : Nat) (live : Bool) (secs : Tab (List (List Byte))) : Plan :=
  let g := fun t => secs.get [] t
  { id := id, rev := rev, baseRev := baseRev, live := live,
    sys := ((g 1).head?.map SysRec.ofBytes).getD {},
    districts := (g 2).map DistRec.ofBytes, sets := (g 3).map SetRec.ofBytes, inputs := (g 4).map InRec.ofBytes,
    canvases := (g 5).map CanRec.ofBytes, layers := (g 6).map LayRec.ofBytes, layouts := (g 7).map LoutRec.ofBytes,
    tiles := (g 8).map TileRec.ofBytes, ports := (g 9).map PortRec.ofBytes, scheds := (g 10).map SchedRec.ofBytes,
    universes := (g 11).map UniRec.ofBytes, fixtures := (g 12).map FixRec.ofBytes, kerbs := (g 13).map KerbRec.ofBytes,
    signs := (g 14).map SignRec.ofBytes, classes := (g 15).map ClassRec.ofBytes, wits := (g 16).map WitRec.ofBytes,
    cw := (g 17).head?.map CwRec.ofBytes, raw := secs }

/-- The DISTRICT record of `d`, if the plan has one. -/
def Plan.district? (p : Plan) (d : Nat) : Option DistRec := p.districts.find? (·.dist == d)
/-- The LOTSET record of `id`. -/
def Plan.set? (p : Plan) (id : Nat) : Option SetRec := p.sets.find? (·.id == id)
/-- The INPUT record of `i`. -/
def Plan.input? (p : Plan) (i : Nat) : Option InRec := p.inputs.find? (·.id == i)
/-- The CANVAS record of Plaza `c`. -/
def Plan.canvas? (p : Plan) (c : Nat) : Option CanRec := p.canvases.find? (·.plaza == c)
/-- The LAYOUT record of `l`. -/
def Plan.layout? (p : Plan) (l : Nat) : Option LoutRec := p.layouts.find? (·.id == l)
/-- The TILE record of `t`. -/
def Plan.tile? (p : Plan) (t : Nat) : Option TileRec := p.tiles.find? (·.id == t)
/-- The PORT record of `n`. -/
def Plan.port? (p : Plan) (n : Nat) : Option PortRec := p.ports.find? (·.port == n)
/-- The SCHEDULE record of tile `t`. -/
def Plan.sched? (p : Plan) (t : Nat) : Option SchedRec := p.scheds.find? (·.tile == t)
/-- The UNIVERSE record of `u`. -/
def Plan.uni? (p : Plan) (u : Nat) : Option UniRec := p.universes.find? (·.uni == u)

/-- A canvas with zero WIDTH or HEIGHT is disabled (R64). -/
def CanRec.enabled (c : CanRec) : Bool := c.width != 0 && c.height != 0
/-- An input with zero WIDTH or HEIGHT is disabled (R63). -/
def InRec.enabled (i : InRec) : Bool := i.width != 0 && i.height != 0
/-- Line cut-through egress (R30). -/
def CanRec.cut (c : CanRec) : Bool := c.egress == 1
/-- Total lines of a canvas frame. -/
def CanRec.lines (c : CanRec) : Nat := c.height + c.vblank
/-- The line at whose start commits are latched (R64): 0xFFFF selects the first line of vertical blanking, line 0. -/
def CanRec.latchLine (c : CanRec) : Nat := if c.latch == 0xFFFF then 0 else c.latch

/-- Bits per channel of a lamp format (R12, R67). -/
def fmtBits (f : Nat) : Nat := match f with | 0 => 8 | 1 => 10 | 2 => 12 | _ => 16

/-- The divisor of a writeback scale (R64). -/
def wbDiv (s : Nat) : Nat := match s with | 1 => 1 | 2 => 2 | 3 => 4 | _ => 0

end Sys2Proof.Machine
end

