-- ==== Sys2Proof/Machine/Regs.lean ====
section
/-! DEFINITION. The register map (R20, R25, R26, R32): where every register of the device lies, its reset value, and
which of its bits a write sets (RW), clears (W1C) or sets one by one (W1S) and which a read clears (RC) (R21).
A register word lives in the state's register file under a KEY: its BAR0 offset, plus 2^26 times the number of the
view that holds its own copy of the register (0: one copy for the device; 1 + slot: one copy per district;
0x10 + i: one copy per initiator i). -/

namespace Sys2Proof.Machine

/-- The key of offset `a` in view `v`. Offsets end below 2^26 (R32). -/
def viewKey (v a : Nat) : Nat := v * 0x4000000 + a
/-- The key of the copy of offset `a` that district slot `j` holds. -/
def distKey (j a : Nat) : Nat := viewKey (1 + j) a
/-- The key of the copy of offset `a` that initiator `i` holds. -/
def initKey (i : InitId) (a : Nat) : Nat := viewKey (0x10 + i.toNat) a

/-- How many copies a register has. -/
inductive View where
  /-- one copy for the whole device -/
  | common
  /-- one copy per district -/
  | district
  /-- one copy per initiator ID -/
  | initiator
deriving DecidableEq, Repr

/-- One row of the register map: an array of `n1` by `n2` registers, `s1` and `s2` bytes apart (R26). -/
structure RegDef where
  name : String
  lo : Nat
  n1 : Nat
  s1 : Nat
  n2 : Nat
  s2 : Nat
  reset : Nat
  rw : Nat
  w1c : Nat
  w1s : Nat
  rc : Nat
  view : View
  /-- the LO register of a 64-bit pair of R24, whose HI register lies 4 above -/
  pair : Bool
deriving DecidableEq, Repr

namespace Reg

/-- MODE_STATUS (R40). -/
def modeStatus : Nat := 0x100
/-- MODE_REQ (R41). -/
def modeReq : Nat := 0x104
/-- MODE_FRAME (R43). -/
def modeFrame : Nat := 0x108
/-- HST_MBX_TX (R371). -/
def hstMbxTx (i : Nat) : Nat := 0x200 + i * 0x4
/-- HST_MBX_POP (R371). -/
def hstMbxPop : Nat := 0x240
/-- HST_MBX_DATA (R371). -/
def hstMbxData (i : Nat) : Nat := 0x244 + i * 0x4
/-- HST_MBX_STATUS (R371). -/
def hstMbxStatus : Nat := 0x280
/-- HST_MBX_REJCNT (R371). -/
def hstMbxRejcnt : Nat := 0x284
/-- HST_FIRE (R371). -/
def hstFire : Nat := 0x2A0
/-- HST_FIRE_STAT (R371). -/
def hstFireStat : Nat := 0x2A4
/-- HST_ID (R399). -/
def hstId : Nat := 0x0
/-- HST_EVT (R399). -/
def hstEvt (i : Nat) : Nat := 0x300 + i * 0x4
/-- DMA_CTL (R399). -/
def dmaCtl (i : Nat) : Nat := 0x400 + i * 0x40
/-- DMA_SET (R399). -/
def dmaSet (i : Nat) : Nat := 0x404 + i * 0x40
/-- DMA_OFF_LO (R399). -/
def dmaOffLo (i : Nat) : Nat := 0x408 + i * 0x40
/-- DMA_OFF_HI (R399). -/
def dmaOffHi (i : Nat) : Nat := 0x40C + i * 0x40
/-- DMA_ENTRIES (R399). -/
def dmaEntries (i : Nat) : Nat := 0x410 + i * 0x40
/-- DMA_TAIL (R399). -/
def dmaTail (i : Nat) : Nat := 0x414 + i * 0x40
/-- DMA_HEAD (R399). -/
def dmaHead (i : Nat) : Nat := 0x418 + i * 0x40
/-- DMA_STATUS (R399). -/
def dmaStatus (i : Nat) : Nat := 0x420 + i * 0x40
/-- HST_FW_HB (R371). -/
def hstFwHb : Nat := 0x290
/-- HST_HOST_HB (R371). -/
def hstHostHb : Nat := 0x294
/-- TPL_CTL (R88). -/
def tplCtl : Nat := 0x100000
/-- TPL_STATUS (R88). -/
def tplStatus : Nat := 0x100004
/-- TPL_LEN (R88). -/
def tplLen : Nat := 0x100008
/-- TPL_ERRLOC (R88). -/
def tplErrloc : Nat := 0x10000C
/-- TPL_ERRREC (R88). -/
def tplErrrec : Nat := 0x100010
/-- TPL_PLAN_ID (R88). -/
def tplPlanId : Nat := 0x100014
/-- TPL_PLAN_REV (R88). -/
def tplPlanRev : Nat := 0x100018
/-- TPL_APPLY_FRAME (R88). -/
def tplApplyFrame : Nat := 0x10001C
/-- TPL_SIGPOL (R89). -/
def tplSigpol : Nat := 0x100020
/-- TPL_DEMAND_DRAM (R90). -/
def tplDemandDram : Nat := 0x100024
/-- TPL_DEMAND_SQ (R90). -/
def tplDemandSq : Nat := 0x100028
/-- LOT_CTL (R128). -/
def lotCtl : Nat := 0x200000
/-- LOT_STATUS (R128). -/
def lotStatus : Nat := 0x200004
/-- LOT_DSEL (R128). -/
def lotDsel : Nat := 0x200008
/-- LOT_DHELD (R128). -/
def lotDheld : Nat := 0x20000C
/-- LOT_DCREDIT (R128). -/
def lotDcredit : Nat := 0x200010
/-- LOT_REQ (R129). -/
def lotReq : Nat := 0x200020
/-- LOT_REQ_LAST (R129). -/
def lotReqLast : Nat := 0x200024
/-- LOT_RSTAT (R130). -/
def lotRstat (i : Nat) : Nat := 0x200030 + i * 0x4
/-- LOT_FREE (R130). -/
def lotFree : Nat := 0x200040
/-- LOT_ERR (R130). -/
def lotErr : Nat := 0x200044
/-- LOT_SSEL (R130). -/
def lotSsel : Nat := 0x200050
/-- LOT_SINFO (R130). -/
def lotSinfo : Nat := 0x200054
/-- LOT_SBASE (R130). -/
def lotSbase : Nat := 0x200058
/-- LOT_SHANDLE (R130). -/
def lotShandle : Nat := 0x20005C
/-- LOT_ISO (R130). -/
def lotIso : Nat := 0x200060
/-- LOT_LAT (R130). -/
def lotLat : Nat := 0x200064
/-- LOT_LTCFG (R131). -/
def lotLtcfg : Nat := 0x200068
/-- LOT_ECC_CE (R131). -/
def lotEccCe : Nat := 0x200070
/-- LOT_ECC_UE (R131). -/
def lotEccUe : Nat := 0x200074
/-- LOT_SPARE (R131). -/
def lotSpare : Nat := 0x200078
/-- ING_SUMMARY (R155). -/
def ingSummary : Nat := 0x300000
/-- ING_CFG (R155). -/
def ingCfg (i : Nat) : Nat := 0x301000 + i * 0x100
/-- ING_STATUS (R155). -/
def ingStatus (i : Nat) : Nat := 0x301004 + i * 0x100
/-- ING_SSRC (R155). -/
def ingSsrc (i : Nat) : Nat := 0x301008 + i * 0x100
/-- ING_PERIOD (R155). -/
def ingPeriod (i : Nat) : Nat := 0x30100C + i * 0x100
/-- ING_PRES_TS (R155). -/
def ingPresTs (i : Nat) : Nat := 0x301010 + i * 0x100
/-- ING_CNT (R156). -/
def ingCnt (i j : Nat) : Nat := 0x301020 + i * 0x100 + j * 0x4
/-- ING_HD_SET (R156). -/
def ingHdSet (i : Nat) : Nat := 0x302040 + i * 0x100
/-- ING_HD_OFF_LO (R156). -/
def ingHdOffLo (i : Nat) : Nat := 0x302044 + i * 0x100
/-- ING_HD_OFF_HI (R156). -/
def ingHdOffHi (i : Nat) : Nat := 0x302048 + i * 0x100
/-- ING_HD_PITCH (R156). -/
def ingHdPitch (i : Nat) : Nat := 0x30204C + i * 0x100
/-- ING_HD_POST (R156). -/
def ingHdPost (i : Nat) : Nat := 0x302050 + i * 0x100
/-- ING_HD_STATUS (R156). -/
def ingHdStatus (i : Nat) : Nat := 0x302054 + i * 0x100
/-- PLZ_STATUS (R178). -/
def plzStatus (i : Nat) : Nat := 0x400000 + i * 0x10000
/-- PLZ_FRAME (R178). -/
def plzFrame (i : Nat) : Nat := 0x400004 + i * 0x10000
/-- PLZ_DONE (R178). -/
def plzDone (i : Nat) : Nat := 0x400008 + i * 0x10000
/-- PLZ_COMMIT (R178). -/
def plzCommit (i : Nat) : Nat := 0x400010 + i * 0x10000
/-- PLZ_LPENDING (R178). -/
def plzLpending (i : Nat) : Nat := 0x400014 + i * 0x10000
/-- PLZ_BG_LO (R178). -/
def plzBgLo (i : Nat) : Nat := 0x400018 + i * 0x10000
/-- PLZ_BG_HI (R178). -/
def plzBgHi (i : Nat) : Nat := 0x40001C + i * 0x10000
/-- PLZ_BGACT_LO (R178). -/
def plzBgactLo (i : Nat) : Nat := 0x400020 + i * 0x10000
/-- PLZ_BGACT_HI (R178). -/
def plzBgactHi (i : Nat) : Nat := 0x400024 + i * 0x10000
/-- PLZ_WBCTL (R178). -/
def plzWbctl (i : Nat) : Nat := 0x400030 + i * 0x10000
/-- PLZ_WBSTATUS (R178). -/
def plzWbstatus (i : Nat) : Nat := 0x400034 + i * 0x10000
/-- PLZ_WBFRAME (R178). -/
def plzWbframe (i : Nat) : Nat := 0x400038 + i * 0x10000
/-- PLZ_WBDROP (R178). -/
def plzWbdrop (i : Nat) : Nat := 0x40003C + i * 0x10000
/-- PLZ_UNDERRUN (R178). -/
def plzUnderrun (i : Nat) : Nat := 0x400040 + i * 0x10000
/-- PLZ_URCNT (R178). -/
def plzUrcnt (i : Nat) : Nat := 0x400044 + i * 0x10000
/-- PLZ_URMASK (R178). -/
def plzUrmask (i : Nat) : Nat := 0x400048 + i * 0x10000
/-- PLZ_POISONCNT (R178). -/
def plzPoisoncnt (i : Nat) : Nat := 0x40004C + i * 0x10000
/-- PLZ_LAPPLIED (R178). -/
def plzLapplied (i j : Nat) : Nat := 0x400080 + i * 0x10000 + j * 0x4
/-- PLZ_LSRC (R178). -/
def plzLsrc (i j : Nat) : Nat := 0x401000 + i * 0x10000 + j * 0x40
/-- PLZ_LCROP_XY (R178). -/
def plzLcropXy (i j : Nat) : Nat := 0x401004 + i * 0x10000 + j * 0x40
/-- PLZ_LCROP_WH (R178). -/
def plzLcropWh (i j : Nat) : Nat := 0x401008 + i * 0x10000 + j * 0x40
/-- PLZ_LDST_XY (R178). -/
def plzLdstXy (i j : Nat) : Nat := 0x40100C + i * 0x10000 + j * 0x40
/-- PLZ_LDST_WH (R178). -/
def plzLdstWh (i j : Nat) : Nat := 0x401010 + i * 0x10000 + j * 0x40
/-- PLZ_LALPHA (R178). -/
def plzLalpha (i j : Nat) : Nat := 0x401014 + i * 0x10000 + j * 0x40
/-- PLZ_LSTATUS (R178). -/
def plzLstatus (i j : Nat) : Nat := 0x401018 + i * 0x10000 + j * 0x40
/-- PLZ_WCRC (R178). -/
def plzWcrc (i : Nat) : Nat := 0x440000 + i * 0x10
/-- PLZ_WFRAME (R178). -/
def plzWframe (i : Nat) : Nat := 0x440004 + i * 0x10
/-- PLZ_WSTAT (R178). -/
def plzWstat (i : Nat) : Nat := 0x440008 + i * 0x10
/-- PLZ_WEXPECT (R178). -/
def plzWexpect (i : Nat) : Nat := 0x44000C + i * 0x10
/-- PLZ_LACT_SRC (R178). -/
def plzLactSrc (i j : Nat) : Nat := 0x401020 + i * 0x10000 + j * 0x40
/-- PLZ_LACT_CROP_XY (R178). -/
def plzLactCropXy (i j : Nat) : Nat := 0x401024 + i * 0x10000 + j * 0x40
/-- PLZ_LACT_CROP_WH (R178). -/
def plzLactCropWh (i j : Nat) : Nat := 0x401028 + i * 0x10000 + j * 0x40
/-- PLZ_LACT_DST_XY (R178). -/
def plzLactDstXy (i j : Nat) : Nat := 0x40102C + i * 0x10000 + j * 0x40
/-- PLZ_LACT_DST_WH (R178). -/
def plzLactDstWh (i j : Nat) : Nat := 0x401030 + i * 0x10000 + j * 0x40
/-- PLZ_LACT_ALPHA (R178). -/
def plzLactAlpha (i j : Nat) : Nat := 0x401034 + i * 0x10000 + j * 0x40
/-- BLV_BLOAD (R203). -/
def blvBload (i : Nat) : Nat := 0x500100 + i * 0x20
/-- BLV_BRUNS (R203). -/
def blvBruns (i : Nat) : Nat := 0x500104 + i * 0x20
/-- BLV_BFRAME (R203). -/
def blvBframe (i : Nat) : Nat := 0x500108 + i * 0x20
/-- BLV_BLATE (R203). -/
def blvBlate (i : Nat) : Nat := 0x50010C + i * 0x20
/-- BLV_BPOISON (R203). -/
def blvBpoison (i : Nat) : Nat := 0x500110 + i * 0x20
/-- BLV_BBUSY (R203). -/
def blvBbusy (i : Nat) : Nat := 0x500114 + i * 0x20
/-- BLV_GMASTER (R203). -/
def blvGmaster (i : Nat) : Nat := 0x500400 + i * 0x10
/-- BLV_GMASTER_ACT (R203). -/
def blvGmasterAct (i : Nat) : Nat := 0x500404 + i * 0x10
/-- BLV_GAPPLIED (R203). -/
def blvGapplied (i : Nat) : Nat := 0x500408 + i * 0x10
/-- BLV_TMASTER (R203). -/
def blvTmaster (i : Nat) : Nat := 0x510000 + i * 0x40
/-- BLV_TWHITE (R203). -/
def blvTwhite (i : Nat) : Nat := 0x510004 + i * 0x40
/-- BLV_TSEL (R203). -/
def blvTsel (i : Nat) : Nat := 0x510008 + i * 0x40
/-- BLV_TCOMMIT (R203). -/
def blvTcommit (i : Nat) : Nat := 0x51000C + i * 0x40
/-- BLV_TSTATUS (R203). -/
def blvTstatus (i : Nat) : Nat := 0x510010 + i * 0x40
/-- BLV_TACT_MASTER (R203). -/
def blvTactMaster (i : Nat) : Nat := 0x510014 + i * 0x40
/-- BLV_TACT_WHITE (R203). -/
def blvTactWhite (i : Nat) : Nat := 0x510018 + i * 0x40
/-- BLV_TAPPLIED (R203). -/
def blvTapplied (i : Nat) : Nat := 0x51001C + i * 0x40
/-- BLV_TLCTOFF (R203). -/
def blvTlctoff (i : Nat) : Nat := 0x510020 + i * 0x40
/-- BLV_TLCTBANK (R203). -/
def blvTlctbank (i : Nat) : Nat := 0x510024 + i * 0x40
/-- BLV_TOUTOFF (R203). -/
def blvToutoff (i : Nat) : Nat := 0x510028 + i * 0x40
/-- BLV_TOUTBUF (R203). -/
def blvToutbuf (i : Nat) : Nat := 0x51002C + i * 0x40
/-- BLV_TRUNS_LO (R203). -/
def blvTrunsLo (i : Nat) : Nat := 0x510030 + i * 0x40
/-- BLV_TRUNS_HI (R203). -/
def blvTrunsHi (i : Nat) : Nat := 0x510034 + i * 0x40
/-- AVE_LOCKED_LO (R222). -/
def aveLockedLo : Nat := 0x600000
/-- AVE_LOCKED_HI (R222). -/
def aveLockedHi : Nat := 0x600004
/-- AVE_URMASK0 (R222). -/
def aveUrmask0 : Nat := 0x600008
/-- AVE_URMASK1 (R222). -/
def aveUrmask1 : Nat := 0x60000C
/-- AVE_CSTATUS (R222). -/
def aveCstatus (i : Nat) : Nat := 0x600400 + i * 0x10
/-- AVE_CPRES_LO (R222). -/
def aveCpresLo (i : Nat) : Nat := 0x600404 + i * 0x10
/-- AVE_CPRES_HI (R222). -/
def aveCpresHi (i : Nat) : Nat := 0x600408 + i * 0x10
/-- AVE_CFRAME (R222). -/
def aveCframe (i : Nat) : Nat := 0x60040C + i * 0x10
/-- AVE_STATUS (R222). -/
def aveStatus (i : Nat) : Nat := 0x601000 + i * 0x40
/-- AVE_TILES (R222). -/
def aveTiles (i : Nat) : Nat := 0x601004 + i * 0x40
/-- AVE_FRAME (R222). -/
def aveFrame (i : Nat) : Nat := 0x601008 + i * 0x40
/-- AVE_LT (R222). -/
def aveLt (i : Nat) : Nat := 0x60100C + i * 0x40
/-- AVE_MARGIN (R222). -/
def aveMargin (i : Nat) : Nat := 0x601010 + i * 0x40
/-- AVE_LATE (R222). -/
def aveLate (i : Nat) : Nat := 0x601014 + i * 0x40
/-- AVE_UNDERRUN (R222). -/
def aveUnderrun (i : Nat) : Nat := 0x601018 + i * 0x40
/-- AVE_UFRAME (R222). -/
def aveUframe (i : Nat) : Nat := 0x60101C + i * 0x40
/-- AVE_SLICES (R222). -/
def aveSlices (i : Nat) : Nat := 0x601020 + i * 0x40
/-- AVE_HB (R222). -/
def aveHb (i : Nat) : Nat := 0x601024 + i * 0x40
/-- AVE_NOTICE (R222). -/
def aveNotice (i : Nat) : Nat := 0x601028 + i * 0x40
/-- AVE_CTSLIP (R222). -/
def aveCtslip (i : Nat) : Nat := 0x60102C + i * 0x40
/-- AVE_HOLDBACK (R222). -/
def aveHoldback (i : Nat) : Nat := 0x601030 + i * 0x40
/-- LMS_CFG (R259). -/
def lmsCfg : Nat := 0x700000
/-- LMS_HBMAC_LO (R259). -/
def lmsHbmacLo : Nat := 0x700004
/-- LMS_HBMAC_HI (R259). -/
def lmsHbmacHi : Nat := 0x700008
/-- LMS_EPOCH (R259). -/
def lmsEpoch : Nat := 0x70000C
/-- LMS_BLACKOUT (R259). -/
def lmsBlackout : Nat := 0x700010
/-- LMS_BLACK_REL (R259). -/
def lmsBlackRel : Nat := 0x700014
/-- LMS_BLACKCNT (R259). -/
def lmsBlackcnt : Nat := 0x700018
/-- LMS_TIMING (R259). -/
def lmsTiming : Nat := 0x70001C
/-- LMS_PSTATUS (R259). -/
def lmsPstatus (i : Nat) : Nat := 0x710000 + i * 0x100
/-- LMS_CQ_PTR (R259). -/
def lmsCqPtr (i : Nat) : Nat := 0x710004 + i * 0x100
/-- LMS_CQ_STAGE (R259). -/
def lmsCqStage (i j : Nat) : Nat := 0x710010 + i * 0x100 + j * 0x4
/-- LMS_CQ_POST (R259). -/
def lmsCqPost (i : Nat) : Nat := 0x710030 + i * 0x100
/-- LMS_CPL_LO (R259). -/
def lmsCplLo (i : Nat) : Nat := 0x710038 + i * 0x100
/-- LMS_CPL_HI (R259). -/
def lmsCplHi (i : Nat) : Nat := 0x71003C + i * 0x100
/-- LMS_CPL_LEVEL (R259). -/
def lmsCplLevel (i : Nat) : Nat := 0x710040 + i * 0x100
/-- LMS_PRX (R259). -/
def lmsPrx (i : Nat) : Nat := 0x710044 + i * 0x100
/-- LMS_PRXDROP (R259). -/
def lmsPrxdrop (i : Nat) : Nat := 0x710048 + i * 0x100
/-- LMS_TSTAT (R259). -/
def lmsTstat (i : Nat) : Nat := 0x720000 + i * 0x20
/-- LMS_TTSN (R259). -/
def lmsTtsn (i : Nat) : Nat := 0x720004 + i * 0x20
/-- LMS_TMARK (R259). -/
def lmsTmark (i : Nat) : Nat := 0x720008 + i * 0x20
/-- LMS_TREPLAY (R259). -/
def lmsTreplay (i : Nat) : Nat := 0x72000C + i * 0x20
/-- LMS_TRESYNC (R259). -/
def lmsTresync (i : Nat) : Nat := 0x720010 + i * 0x20
/-- LMS_TFEND (R259). -/
def lmsTfend (i : Nat) : Nat := 0x720014 + i * 0x20
/-- LMS_TSEQ (R259). -/
def lmsTseq (i : Nat) : Nat := 0x720018 + i * 0x20
/-- LMS_TRSEQ (R259). -/
def lmsTrseq (i : Nat) : Nat := 0x72001C + i * 0x20
/-- PRT_CFG (R287). -/
def prtCfg (i : Nat) : Nat := 0x800000 + i * 0x1000
/-- PRT_STATUS (R287). -/
def prtStatus (i : Nat) : Nat := 0x800004 + i * 0x1000
/-- PRT_RXCFG (R287). -/
def prtRxcfg (i : Nat) : Nat := 0x800008 + i * 0x1000
/-- PRT_PREEMPT (R287). -/
def prtPreempt (i : Nat) : Nat := 0x80000C + i * 0x1000
/-- PRT_LAT_RX (R287). -/
def prtLatRx (i : Nat) : Nat := 0x800010 + i * 0x1000
/-- PRT_LAT_TX (R287). -/
def prtLatTx (i : Nat) : Nat := 0x800014 + i * 0x1000
/-- PRT_LATADJ (R287). -/
def prtLatadj (i : Nat) : Nat := 0x800018 + i * 0x1000
/-- PRT_SERDES (R287). -/
def prtSerdes (i : Nat) : Nat := 0x80001C + i * 0x1000
/-- PRT_CNT_LO (R288). -/
def prtCntLo (i j : Nat) : Nat := 0x800100 + i * 0x1000 + j * 0x8
/-- PRT_CNT_HI (R288). -/
def prtCntHi (i j : Nat) : Nat := 0x800104 + i * 0x1000 + j * 0x8
/-- RXR_CTL (R288). -/
def rxrCtl (i j : Nat) : Nat := 0x800400 + i * 0x1000 + j * 0x40
/-- TXR_CTL (R288). -/
def txrCtl (i j : Nat) : Nat := 0x800600 + i * 0x1000 + j * 0x40
/-- RXR_SET (R288). -/
def rxrSet (i j : Nat) : Nat := 0x800404 + i * 0x1000 + j * 0x40
/-- TXR_SET (R288). -/
def txrSet (i j : Nat) : Nat := 0x800604 + i * 0x1000 + j * 0x40
/-- RXR_OFF_LO (R288). -/
def rxrOffLo (i j : Nat) : Nat := 0x800408 + i * 0x1000 + j * 0x40
/-- TXR_OFF_LO (R288). -/
def txrOffLo (i j : Nat) : Nat := 0x800608 + i * 0x1000 + j * 0x40
/-- RXR_OFF_HI (R288). -/
def rxrOffHi (i j : Nat) : Nat := 0x80040C + i * 0x1000 + j * 0x40
/-- TXR_OFF_HI (R288). -/
def txrOffHi (i j : Nat) : Nat := 0x80060C + i * 0x1000 + j * 0x40
/-- RXR_ENTRIES (R288). -/
def rxrEntries (i j : Nat) : Nat := 0x800410 + i * 0x1000 + j * 0x40
/-- TXR_ENTRIES (R288). -/
def txrEntries (i j : Nat) : Nat := 0x800610 + i * 0x1000 + j * 0x40
/-- RXR_TAIL (R288). -/
def rxrTail (i j : Nat) : Nat := 0x800414 + i * 0x1000 + j * 0x40
/-- TXR_TAIL (R288). -/
def txrTail (i j : Nat) : Nat := 0x800614 + i * 0x1000 + j * 0x40
/-- RXR_HEAD (R288). -/
def rxrHead (i j : Nat) : Nat := 0x800418 + i * 0x1000 + j * 0x40
/-- TXR_HEAD (R288). -/
def txrHead (i j : Nat) : Nat := 0x800618 + i * 0x1000 + j * 0x40
/-- RXR_STATUS (R288). -/
def rxrStatus (i j : Nat) : Nat := 0x800420 + i * 0x1000 + j * 0x40
/-- TXR_STATUS (R288). -/
def txrStatus (i j : Nat) : Nat := 0x800620 + i * 0x1000 + j * 0x40
/-- RXR_FILTER (R288). -/
def rxrFilter (i j : Nat) : Nat := 0x80041C + i * 0x1000 + j * 0x40
/-- CLT_STATUS (R307). -/
def cltStatus : Nat := 0x900000
/-- CLT_TNS (R307). -/
def cltTns : Nat := 0x900004
/-- CLT_TSEC_LO (R307). -/
def cltTsecLo : Nat := 0x900008
/-- CLT_TSEC_HI (R307). -/
def cltTsecHi : Nat := 0x90000C
/-- CLT_TFRAC (R307). -/
def cltTfrac : Nat := 0x900010
/-- CLT_INCR_LO (R307). -/
def cltIncrLo : Nat := 0x900014
/-- CLT_INCR_HI (R307). -/
def cltIncrHi : Nat := 0x900018
/-- CLT_ADJ (R307). -/
def cltAdj : Nat := 0x90001C
/-- CLT_ADJ_LEFT (R307). -/
def cltAdjLeft : Nat := 0x900020
/-- CLT_STEP_NS (R307). -/
def cltStepNs : Nat := 0x900024
/-- CLT_STEP_SEC_LO (R307). -/
def cltStepSecLo : Nat := 0x900028
/-- CLT_STEP_SEC_HI (R307). -/
def cltStepSecHi : Nat := 0x90002C
/-- CLT_STEP_CTL (R307). -/
def cltStepCtl : Nat := 0x900030
/-- CLT_FRAME (R307). -/
def cltFrame : Nat := 0x900040
/-- CLT_FT_NS (R307). -/
def cltFtNs : Nat := 0x900044
/-- CLT_FT_SEC_LO (R307). -/
def cltFtSecLo : Nat := 0x900048
/-- CLT_FT_SEC_HI (R307). -/
def cltFtSecHi : Nat := 0x90004C
/-- CLT_FOFFSET (R307). -/
def cltFoffset : Nat := 0x900050
/-- CLT_FDISC (R307). -/
def cltFdisc : Nat := 0x900054
/-- CLT_PTPDS (R307). -/
def cltPtpds : Nat := 0x900060
/-- CLT_OFFSET (R307). -/
def cltOffset : Nat := 0x900064
/-- CLT_MPD (R307). -/
def cltMpd : Nat := 0x900068
/-- CLT_UTCOFF (R307). -/
def cltUtcoff : Nat := 0x90006C
/-- CLT_LTC_CFG (R307). -/
def cltLtcCfg : Nat := 0x900080
/-- CLT_LTC_JAM (R307). -/
def cltLtcJam : Nat := 0x900084
/-- CLT_LTC_OUT (R307). -/
def cltLtcOut : Nat := 0x900088
/-- CLT_LTCIN (R307). -/
def cltLtcin : Nat := 0x90008C
/-- CLT_LTCIN_STAT (R307). -/
def cltLtcinStat : Nat := 0x900090
/-- CLT_LTCIN_UB (R307). -/
def cltLtcinUb : Nat := 0x900094
/-- CLT_LTCIN_TNS (R307). -/
def cltLtcinTns : Nat := 0x900098
/-- CLT_LTCIN_TSEC (R307). -/
def cltLtcinTsec : Nat := 0x90009C
/-- CLT_PPORT (R307). -/
def cltPport (i : Nat) : Nat := 0x900100 + i * 0x4
/-- FXE_STATUS (R327). -/
def fxeStatus : Nat := 0xA00000
/-- FXE_FRAME (R327). -/
def fxeFrame : Nat := 0xA00004
/-- FXE_LATE (R327). -/
def fxeLate : Nat := 0xA00008
/-- FXE_CID (R327). -/
def fxeCid (i : Nat) : Nat := 0xA00010 + i * 0x4
/-- FXE_IPCFG (R327). -/
def fxeIpcfg : Nat := 0xA00020
/-- FXE_DSET (R327). -/
def fxeDset (i : Nat) : Nat := 0xA00100 + i * 0x20
/-- FXE_DRANGE (R327). -/
def fxeDrange (i : Nat) : Nat := 0xA00104 + i * 0x20
/-- FXE_DCOMMIT (R327). -/
def fxeDcommit (i : Nat) : Nat := 0xA00108 + i * 0x20
/-- FXE_DSTATUS (R327). -/
def fxeDstatus (i : Nat) : Nat := 0xA0010C + i * 0x20
/-- FXE_DAPPLIED (R327). -/
def fxeDapplied (i : Nat) : Nat := 0xA00110 + i * 0x20
/-- FXE_DSTALE (R327). -/
def fxeDstale (i : Nat) : Nat := 0xA00114 + i * 0x20
/-- FXE_SRCIP (R327). -/
def fxeSrcip (i : Nat) : Nat := 0xA00400 + i * 0x4
/-- FXE_DMXCFG (R327). -/
def fxeDmxcfg (i : Nat) : Nat := 0xA00600 + i * 0x40
/-- FXE_DMXSTAT (R327). -/
def fxeDmxstat (i : Nat) : Nat := 0xA00604 + i * 0x40
/-- FXE_DMXPKT (R327). -/
def fxeDmxpkt (i : Nat) : Nat := 0xA00608 + i * 0x40
/-- FXE_DMXSKIP (R327). -/
def fxeDmxskip (i : Nat) : Nat := 0xA0060C + i * 0x40
/-- FXE_RDMCTL (R327). -/
def fxeRdmctl (i : Nat) : Nat := 0xA00610 + i * 0x40
/-- FXE_RDMSTAT (R327). -/
def fxeRdmstat (i : Nat) : Nat := 0xA00614 + i * 0x40
/-- FXE_RDMUID_LO (R327). -/
def fxeRdmuidLo (i : Nat) : Nat := 0xA00618 + i * 0x40
/-- FXE_RDMUID_HI (R327). -/
def fxeRdmuidHi (i : Nat) : Nat := 0xA0061C + i * 0x40
/-- SCH_STATUS (R351). -/
def schStatus : Nat := 0xB00000
/-- SCH_TICK_LO (R351). -/
def schTickLo : Nat := 0xB00008
/-- SCH_TICK_HI (R351). -/
def schTickHi : Nat := 0xB0000C
/-- SCH_PARKMAP (R351). -/
def schParkmap : Nat := 0xB00010
/-- SCH_CORE (R351). -/
def schCore (i : Nat) : Nat := 0xB00100 + i * 0x8
/-- SCH_CORE_REC (R351). -/
def schCoreRec (i : Nat) : Nat := 0xB00104 + i * 0x8
/-- SCH_DCFG (R351). -/
def schDcfg (i : Nat) : Nat := 0xB00400 + i * 0x80
/-- SCH_DAGE (R351). -/
def schDage (i : Nat) : Nat := 0xB00404 + i * 0x80
/-- SCH_DSTAT (R351). -/
def schDstat (i : Nat) : Nat := 0xB00408 + i * 0x80
/-- SCH_DREADY_LO (R351). -/
def schDreadyLo (i : Nat) : Nat := 0xB0040C + i * 0x80
/-- SCH_DREADY_HI (R351). -/
def schDreadyHi (i : Nat) : Nat := 0xB00410 + i * 0x80
/-- SCH_TRC_SET (R351). -/
def schTrcSet (i : Nat) : Nat := 0xB00414 + i * 0x80
/-- SCH_TRC_OFF_LO (R351). -/
def schTrcOffLo (i : Nat) : Nat := 0xB00418 + i * 0x80
/-- SCH_TRC_OFF_HI (R351). -/
def schTrcOffHi (i : Nat) : Nat := 0xB0041C + i * 0x80
/-- SCH_TRC_CTL (R351). -/
def schTrcCtl (i : Nat) : Nat := 0xB00420 + i * 0x80
/-- SCH_TRC_LOST (R351). -/
def schTrcLost (i : Nat) : Nat := 0xB00428 + i * 0x80
/-- SCH_DDEF (R351). -/
def schDdef (i j : Nat) : Nat := 0xB00440 + i * 0x80 + j * 0x4
/-- SCH_DCNT (R351). -/
def schDcnt (i j : Nat) : Nat := 0xB00460 + i * 0x80 + j * 0x4
/-- SCH_TRC_WP (R351). -/
def schTrcWp (i : Nat) : Nat := 0xB00424 + i * 0x80
/-- SCH_TRC_RP (R351). -/
def schTrcRp (i : Nat) : Nat := 0xB0042C + i * 0x80
/-- QUE_STATUS (R371). -/
def queStatus (i : Nat) : Nat := 0xC00000 + i * 0x10000
/-- QUE_REJCNT (R371). -/
def queRejcnt (i : Nat) : Nat := 0xC00004 + i * 0x10000
/-- QUE_SQ_PTR (R371). -/
def queSqPtr (i j : Nat) : Nat := 0xC00100 + i * 0x10000 + j * 0x4
/-- QUE_CQ_POP (R371). -/
def queCqPop (i : Nat) : Nat := 0xC00200 + i * 0x10000
/-- QUE_CQ_DATA (R371). -/
def queCqData (i j : Nat) : Nat := 0xC00204 + i * 0x10000 + j * 0x4
/-- QUE_CQ_PTR (R371). -/
def queCqPtr (i j : Nat) : Nat := 0xC00240 + i * 0x10000 + j * 0x4
/-- QUE_CQ_MARK (R371). -/
def queCqMark (i : Nat) : Nat := 0xC00260 + i * 0x10000
/-- QUE_SQ_WIN (R371). -/
def queSqWin (i j k : Nat) : Nat := 0xC01000 + i * 0x10000 + j * 0x40 + k * 0x4
/-- MBX_TX (R371). -/
def mbxTx (i j : Nat) : Nat := 0xD00000 + i * 0x1000 + j * 0x4
/-- MBX_POP (R371). -/
def mbxPop (i : Nat) : Nat := 0xD00040 + i * 0x1000
/-- MBX_DATA (R371). -/
def mbxData (i j : Nat) : Nat := 0xD00044 + i * 0x1000 + j * 0x4
/-- MBX_STATUS (R371). -/
def mbxStatus (i : Nat) : Nat := 0xD00080 + i * 0x1000
/-- MBX_FIRE (R371). -/
def mbxFire : Nat := 0xD08000
/-- MBX_HOSTHB (R371). -/
def mbxHosthb (i : Nat) : Nat := 0xD00084 + i * 0x1000
/-- MBX_FWHB (R371). -/
def mbxFwhb (i : Nat) : Nat := 0xD00088 + i * 0x1000
/-- XNG_CTL (R401). -/
def xngCtl : Nat := 0xE00000
/-- XNG_STOPPED (R401). -/
def xngStopped : Nat := 0xE00008
/-- XNG_PFDROP (R401). -/
def xngPfdrop : Nat := 0xE0000C
/-- XNG_PFLAST_ADDR (R401). -/
def xngPflastAddr : Nat := 0xE00010
/-- XNG_PFLAST_INIT (R401). -/
def xngPflastInit : Nat := 0xE00014
/-- XNG_SEMLOG (R401). -/
def xngSemlog : Nat := 0xE00018
/-- XNG_RETRY (R401). -/
def xngRetry : Nat := 0xE0001C
/-- XNG_RGN_LO (R401). -/
def xngRgnLo (i : Nat) : Nat := 0xE00100 + i * 0x8
/-- XNG_RGN_HI (R401). -/
def xngRgnHi (i : Nat) : Nat := 0xE00104 + i * 0x8
/-- XNG_SEM (R401). -/
def xngSem (i : Nat) : Nat := 0xE01000 + i * 0x4
/-- XNG_DSTATUS (R401). -/
def xngDstatus (i : Nat) : Nat := 0xE00400 + i * 0x40
/-- XNG_ERRLOG (R401). -/
def xngErrlog (i j : Nat) : Nat := 0xE00410 + i * 0x40 + j * 0x4
/-- XNG_ERROVF (R401). -/
def xngErrovf (i : Nat) : Nat := 0xE00420 + i * 0x40
/-- XNG_LOST (R401). -/
def xngLost (i j : Nat) : Nat := 0xE00424 + i * 0x40 + j * 0x4
/-- KRB_STATUS (R420). -/
def krbStatus : Nat := 0xF00000
/-- KRB_MINP (R420). -/
def krbMinp : Nat := 0xF00004
/-- KRB_FAULTSUM (R420). -/
def krbFaultsum : Nat := 0xF00008
/-- KRB_CHFAULT_LO (R420). -/
def krbChfaultLo : Nat := 0xF00010
/-- KRB_CHFAULT_HI (R420). -/
def krbChfaultHi : Nat := 0xF00014
/-- KRB_CHLEVEL (R420). -/
def krbChlevel (i : Nat) : Nat := 0xF00100 + i * 0x20
/-- KRB_CHSTAT (R420). -/
def krbChstat (i : Nat) : Nat := 0xF00104 + i * 0x20
/-- KRB_CHMEAS (R420). -/
def krbChmeas (i : Nat) : Nat := 0xF00108 + i * 0x20
/-- KRB_CHDERATE (R420). -/
def krbChderate (i : Nat) : Nat := 0xF0010C + i * 0x20
/-- KRB_CHCLR (R420). -/
def krbChclr (i : Nat) : Nat := 0xF00110 + i * 0x20
/-- KRB_GCMD (R420). -/
def krbGcmd (i : Nat) : Nat := 0xF00800 + i * 0x20
/-- KRB_GSTAT (R420). -/
def krbGstat (i : Nat) : Nat := 0xF00804 + i * 0x20
/-- KRB_GSTEPA (R420). -/
def krbGstepa (i : Nat) : Nat := 0xF00808 + i * 0x20
/-- KRB_GSTEPB (R420). -/
def krbGstepb (i : Nat) : Nat := 0xF0080C + i * 0x20
/-- KRB_GCLR (R420). -/
def krbGclr (i : Nat) : Nat := 0xF00810 + i * 0x20
/-- KRB_GFAULTS (R420). -/
def krbGfaults (i : Nat) : Nat := 0xF00814 + i * 0x20
/-- KRB_NTEMP (R420). -/
def krbNtemp (i : Nat) : Nat := 0xF00C00 + i * 0x10
/-- KRB_NLIMIT (R420). -/
def krbNlimit (i : Nat) : Nat := 0xF00C04 + i * 0x10
/-- KRB_NPARAM (R420). -/
def krbNparam (i : Nat) : Nat := 0xF00C08 + i * 0x10
/-- KRB_CKOCFG (R471). -/
def krbCkocfg (i : Nat) : Nat := 0xF00E00 + i * 0x4
/-- KRB_CKOSTAT (R471). -/
def krbCkostat : Nat := 0xF00E10
/-- MET_STATUS (R439). -/
def metStatus : Nat := 0x1000000
/-- MET_PAIR (R439). -/
def metPair : Nat := 0x1000004
/-- MET_START (R439). -/
def metStart : Nat := 0x1000008
/-- MET_CLEAR (R439). -/
def metClear : Nat := 0x100000C
/-- MET_WRAP (R439). -/
def metWrap : Nat := 0x1000010
/-- MET_TEMP (R439). -/
def metTemp : Nat := 0x1000014
/-- MET_PCONST (R439). -/
def metPconst : Nat := 0x1000020
/-- MET_PCFG (R439). -/
def metPcfg : Nat := 0x1000024
/-- MET_PSTAT (R439). -/
def metPstat : Nat := 0x1000028
/-- MET_PCOUNT (R439). -/
def metPcount : Nat := 0x100002C
/-- MET_VFS (R439). -/
def metVfs (i : Nat) : Nat := 0x1000040 + i * 0x4
/-- MET_IFS (R439). -/
def metIfs (i : Nat) : Nat := 0x1000050 + i * 0x4
/-- MET_TCOMP (R439). -/
def metTcomp (i : Nat) : Nat := 0x1000100 + i * 0x4
/-- MET_EVRMS (R439). -/
def metEvrms (i : Nat) : Nat := 0x1000200 + i * 0x20
/-- MET_EIRMS (R439). -/
def metEirms (i : Nat) : Nat := 0x1000204 + i * 0x20
/-- MET_EPMEAN (R439). -/
def metEpmean (i : Nat) : Nat := 0x1000208 + i * 0x20
/-- MET_ECREEP (R439). -/
def metEcreep (i : Nat) : Nat := 0x100020C + i * 0x20
/-- MET_SNAPSEQ (R439). -/
def metSnapseq (i : Nat) : Nat := 0x1001004 + i * 0x100
/-- MET_SNAPWRAP (R439). -/
def metSnapwrap (i : Nat) : Nat := 0x1001008 + i * 0x100
/-- MET_SNAPT_NS (R439). -/
def metSnaptNs (i : Nat) : Nat := 0x100100C + i * 0x100
/-- MET_SNAPT_SEC (R439). -/
def metSnaptSec (i : Nat) : Nat := 0x1001010 + i * 0x100
/-- MET_ACC_LO (R439). -/
def metAccLo (i j : Nat) : Nat := 0x1001040 + i * 0x100 + j * 0x8
/-- MET_ACC_HI (R439). -/
def metAccHi (i j : Nat) : Nat := 0x1001044 + i * 0x100 + j * 0x8
/-- MET_SNAP (R439). -/
def metSnap (i : Nat) : Nat := 0x1001000 + i * 0x100
/-- CAL_CTL (R450). -/
def calCtl : Nat := 0x1100000
/-- CAL_STATUS (R450). -/
def calStatus : Nat := 0x1100004
/-- CAL_CFG (R450). -/
def calCfg : Nat := 0x1100008
/-- CAL_REF (R450). -/
def calRef : Nat := 0x110000C
/-- CAL_OPID (R450). -/
def calOpid : Nat := 0x1100010
/-- CAL_MEAS_A (R450). -/
def calMeasA : Nat := 0x1100014
/-- CAL_MEAS_B (R450). -/
def calMeasB : Nat := 0x1100018
/-- CAL_COEFSEL (R450). -/
def calCoefsel : Nat := 0x1100020
/-- CAL_COEF_G (R450). -/
def calCoefG : Nat := 0x1100024
/-- CAL_COEF_O (R450). -/
def calCoefO : Nat := 0x1100028
/-- CAL_COEF_P (R450). -/
def calCoefP : Nat := 0x110002C
/-- CAL_RECSEL (R450). -/
def calRecsel : Nat := 0x1100030
/-- CAL_REC (R450). -/
def calRec (i : Nat) : Nat := 0x1100040 + i * 0x4
/-- CKG_STATUS (R471). -/
def ckgStatus : Nat := 0x1200000
/-- CKG_REFMON (R471). -/
def ckgRefmon : Nat := 0x1200004
/-- CKG_REFFAILS (R471). -/
def ckgReffails : Nat := 0x1200008
/-- CKG_RSTCTL (R471). -/
def ckgRstctl : Nat := 0x1200010
/-- CKG_RSTSTAT (R471). -/
def ckgRststat : Nat := 0x1200014
/-- CKG_WDCFG (R471). -/
def ckgWdcfg : Nat := 0x1200018
/-- CKG_WDKICK (R471). -/
def ckgWdkick : Nat := 0x120001C
/-- CKG_GATECMD (R471). -/
def ckgGatecmd : Nat := 0x1200020
/-- CKG_GATESTAT (R471). -/
def ckgGatestat : Nat := 0x1200024
/-- CKG_GATED_LO (R471). -/
def ckgGatedLo : Nat := 0x1200028
/-- CKG_GATED_HI (R471). -/
def ckgGatedHi : Nat := 0x120002C
/-- CKG_WOKEN_LO (R471). -/
def ckgWokenLo : Nat := 0x1200030
/-- CKG_WOKEN_HI (R471). -/
def ckgWokenHi : Nat := 0x1200034
/-- CKG_STRAP (R471). -/
def ckgStrap : Nat := 0x1200040
/-- CKG_BOOT (R471). -/
def ckgBoot : Nat := 0x1200044
/-- CKG_BOOTTIME (R471). -/
def ckgBoottime : Nat := 0x1200048
/-- CKG_BOOTSTEP (R471). -/
def ckgBootstep : Nat := 0x120004C
/-- CSW_STATUS (R491). -/
def cswStatus : Nat := 0x1300000
/-- CSW_CMD (R491). -/
def cswCmd : Nat := 0x1300004
/-- CSW_RENEW (R491). -/
def cswRenew : Nat := 0x1300008
/-- CSW_EPOCH (R491). -/
def cswEpoch : Nat := 0x130000C
/-- CSW_VER (R491). -/
def cswVer : Nat := 0x1300010
/-- CSW_DIAG (R491). -/
def cswDiag : Nat := 0x1300014
/-- CSW_SYNC (R491). -/
def cswSync : Nat := 0x1300018
/-- CSW_CNT (R491). -/
def cswCnt (i : Nat) : Nat := 0x1300020 + i * 0x4
/-- LCS_STATE (R515). -/
def lcsState : Nat := 0x1400000
/-- LCS_SERIAL_LO (R515). -/
def lcsSerialLo : Nat := 0x1400004
/-- LCS_SERIAL_HI (R515). -/
def lcsSerialHi : Nat := 0x1400008
/-- LCS_SVN (R515). -/
def lcsSvn : Nat := 0x140000C
/-- LCS_KEYS (R515). -/
def lcsKeys : Nat := 0x1400010
/-- LCS_KSEQ (R515). -/
def lcsKseq : Nat := 0x1400014
/-- UPD_STATUS (R516). -/
def updStatus : Nat := 0x1500000
/-- UPD_BLOCKS (R516). -/
def updBlocks : Nat := 0x1500004
/-- UPD_BOOTPTR (R516). -/
def updBootptr : Nat := 0x1500008
/-- UPD_BOOTSEQ (R516). -/
def updBootseq : Nat := 0x150000C
/-- UPD_SVER (R516). -/
def updSver (i : Nat) : Nat := 0x1500010 + i * 0x8
/-- UPD_SINFO (R516). -/
def updSinfo (i : Nat) : Nat := 0x1500014 + i * 0x8
/-- UPD_IFVER (R516). -/
def updIfver : Nat := 0x1500030
/-- UPD_IFRUN (R516). -/
def updIfrun : Nat := 0x1500034
/-- UPD_MISMATCH (R516). -/
def updMismatch : Nat := 0x1500038
/-- UPD_MMRANGE (R516). -/
def updMmrange : Nat := 0x150003C
/-- UPD_SPCNT (R516). -/
def updSpcnt (i : Nat) : Nat := 0x1500040 + i * 0x4
/-- PMC_STATUS (R531). -/
def pmcStatus : Nat := 0x1600000
/-- PMC_PERM (R531). -/
def pmcPerm : Nat := 0x1600004
/-- PMC_SEL (R531). -/
def pmcSel : Nat := 0x1600010
/-- PMC_VAL_LO (R531). -/
def pmcValLo : Nat := 0x1600014
/-- PMC_VAL_HI (R531). -/
def pmcValHi : Nat := 0x1600018
/-- PMC_BWCFG (R531). -/
def pmcBwcfg : Nat := 0x1600020
/-- PMC_BWSEQ (R531). -/
def pmcBwseq : Nat := 0x1600024
/-- PMC_BW_PORT (R531). -/
def pmcBwPort (i j : Nat) : Nat := 0x1601000 + i * 0x8 + j * 0x4
/-- PMC_BW_HOST (R531). -/
def pmcBwHost (i j : Nat) : Nat := 0x1601400 + i * 0x8 + j * 0x4
/-- PMC_BW_CHAN (R531). -/
def pmcBwChan (i j : Nat) : Nat := 0x1601800 + i * 0x8 + j * 0x4
/-- PMC_PIN (R531). -/
def pmcPin (i j : Nat) : Nat := 0x1602000 + i * 0x200 + j * 0x4
/-- PMC_UVAL_LO (R531). -/
def pmcUvalLo (i j : Nat) : Nat := 0x1610000 + i * 0x1000 + j * 0x8
/-- PMC_UVAL_HI (R531). -/
def pmcUvalHi (i j : Nat) : Nat := 0x1610004 + i * 0x1000 + j * 0x8
/-- ERR_SEQ (R532). -/
def errSeq : Nat := 0x1700000
/-- ERR_NMISRC (R532). -/
def errNmisrc : Nat := 0x1700004
/-- ERR_INJECT (R532). -/
def errInject : Nat := 0x1700008
/-- ERR_LASTFATAL (R532). -/
def errLastfatal (i : Nat) : Nat := 0x1700040 + i * 0x4
/-- ERR_DSTATUS (R532). -/
def errDstatus (i : Nat) : Nat := 0x1700100 + i * 0x40
/-- ERR_POP (R532). -/
def errPop (i : Nat) : Nat := 0x1700104 + i * 0x40
/-- ERR_REC (R532). -/
def errRec (i j : Nat) : Nat := 0x1700108 + i * 0x40 + j * 0x4

end Reg

/-- The registers of block HST, part 0. -/
def regsHST0 : List RegDef := [
  ⟨"MODE_STATUS", 0x100, 1, 0x4, 1, 0x4, 0x0, 0x0, 0x0, 0x0, 0x0, .district, false⟩,
  ⟨"MODE_REQ", 0x104, 1, 0x4, 1, 0x4, 0x0, 0x0, 0x0, 0x0, 0x0, .common, false⟩,
  ⟨"MODE_FRAME", 0x108, 1, 0x4, 1, 0x4, 0x0, 0x0, 0x0, 0x0, 0x0, .common, false⟩,
  ⟨"HST_MBX_TX", 0x200, 16, 0x4, 1, 0x4, 0x0, 0x0, 0x0, 0x0, 0x0, .initiator, false⟩,
  ⟨"HST_MBX_POP", 0x240, 1, 0x4, 1, 0x4, 0x0, 0x0, 0x0, 0x0, 0x0, .district, false⟩,
  ⟨"HST_MBX_DATA", 0x244, 15, 0x4, 1, 0x4, 0x0, 0x0, 0x0, 0x0, 0x0, .initiator, false⟩,
  ⟨"HST_MBX_STATUS", 0x280, 1, 0x4, 1, 0x4, 0x0, 0x0, 0xE, 0x0, 0x0, .district, false⟩,
  ⟨"HST_MBX_REJCNT", 0x284, 1, 0x4, 1, 0x4, 0x0, 0x0, 0x0, 0x0, 0x0, .district, false⟩,
  ⟨"HST_FIRE", 0x2A0, 1, 0x4, 1, 0x4, 0x0, 0x0, 0x0, 0x0, 0x0, .district, false⟩,
  ⟨"HST_FIRE_STAT", 0x2A4, 1, 0x4, 1, 0x4, 0x0, 0x0, 0x0, 0x0, 0x0, .district, false⟩,
  ⟨"HST_ID", 0x0, 1, 0x4, 1, 0x4, 0xA100, 0x0, 0x0, 0x0, 0x0, .district, false⟩,
  ⟨"HST_EVT", 0x300, 8, 0x4, 1, 0x4, 0x0, 0x0, 0xFFFFFFFF, 0x0, 0x0, .district, false⟩,
  ⟨"DMA_CTL", 0x400, 4, 0x40, 1, 0x4, 0x0, 0x8000FFFF, 0x0, 0x0, 0x0, .district, false⟩,
  ⟨"DMA_SET", 0x404, 4, 0x40, 1, 0x4, 0xFFFF, 0xFFFF, 0x0, 0x0, 0x0, .district, false⟩,
  ⟨"DMA_OFF_LO", 0x408, 4, 0x40, 1, 0x4, 0x0, 0xFFFFFFFF, 0x0, 0x0, 0x0, .district, true⟩,
  ⟨"DMA_OFF_HI", 0x40C, 4, 0x40, 1, 0x4, 0x0, 0xFFFFFFFF, 0x0, 0x0, 0x0, .district, false⟩]
/-- The registers of block HST, part 1. -/
def regsHST1 : List RegDef := [
  ⟨"DMA_ENTRIES", 0x410, 4, 0x40, 1, 0x4, 0x0, 0xFFFF, 0x0, 0x0, 0x0, .district, false⟩,
  ⟨"DMA_TAIL", 0x414, 4, 0x40, 1, 0x4, 0x0, 0xFFFF, 0x0, 0x0, 0x0, .district, false⟩,
  ⟨"DMA_HEAD", 0x418, 4, 0x40, 1, 0x4, 0x0, 0x0, 0x0, 0x0, 0x0, .district, false⟩,
  ⟨"DMA_STATUS", 0x420, 4, 0x40, 1, 0x4, 0x0, 0x0, 0x0, 0x0, 0x0, .district, false⟩,
  ⟨"HST_FW_HB", 0x290, 1, 0x4, 1, 0x4, 0x0, 0x0, 0x0, 0x0, 0x0, .district, false⟩,
  ⟨"HST_HOST_HB", 0x294, 1, 0x4, 1, 0x4, 0x0, 0xFFFFFFFF, 0x0, 0x0, 0x0, .district, false⟩]
/-- The registers of block TPL, part 0. -/
def regsTPL0 : List RegDef := [
  ⟨"TPL_CTL", 0x100000, 1, 0x4, 1, 0x4, 0x0, 0x0, 0x0, 0x0, 0x0, .common, false⟩,
  ⟨"TPL_STATUS", 0x100004, 1, 0x4, 1, 0x4, 0xF00000, 0x0, 0x0, 0x0, 0x0, .district, false⟩,
  ⟨"TPL_LEN", 0x100008, 1, 0x4, 1, 0x4, 0x0, 0xFFFFFFFF, 0x0, 0x0, 0x0, .common, false⟩,
  ⟨"TPL_ERRLOC", 0x10000C, 1, 0x4, 1, 0x4, 0x0, 0x0, 0x0, 0x0, 0x0, .common, false⟩,
  ⟨"TPL_ERRREC", 0x100010, 1, 0x4, 1, 0x4, 0x0, 0x0, 0x0, 0x0, 0x0, .common, false⟩,
  ⟨"TPL_PLAN_ID", 0x100014, 1, 0x4, 1, 0x4, 0x0, 0x0, 0x0, 0x0, 0x0, .common, false⟩,
  ⟨"TPL_PLAN_REV", 0x100018, 1, 0x4, 1, 0x4, 0x0, 0x0, 0x0, 0x0, 0x0, .common, false⟩,
  ⟨"TPL_APPLY_FRAME", 0x10001C, 1, 0x4, 1, 0x4, 0x0, 0x0, 0x0, 0x0, 0x0, .common, false⟩,
  ⟨"TPL_SIGPOL", 0x100020, 1, 0x4, 1, 0x4, 0x0, 0x0, 0x0, 0x1, 0x0, .common, false⟩,
  ⟨"TPL_DEMAND_DRAM", 0x100024, 1, 0x4, 1, 0x4, 0x0, 0x0, 0x0, 0x0, 0x0, .common, false⟩,
  ⟨"TPL_DEMAND_SQ", 0x100028, 1, 0x4, 1, 0x4, 0x0, 0x0, 0x0, 0x0, 0x0, .common, false⟩]
/-- The registers of block LOT, part 0. -/
def regsLOT0 : List RegDef := [
  ⟨"LOT_CTL", 0x200000, 1, 0x4, 1, 0x4, 0xF0, 0xFFFF, 0x0, 0x0, 0x0, .common, false⟩,
  ⟨"LOT_STATUS", 0x200004, 1, 0x4, 1, 0x4, 0x1FFC0040, 0x0, 0x0, 0x0, 0x0, .common, false⟩,
  ⟨"LOT_DSEL", 0x200008, 1, 0x4, 1, 0x4, 0x7, 0x7, 0x0, 0x0, 0x0, .initiator, false⟩,
  ⟨"LOT_DHELD", 0x20000C, 1, 0x4, 1, 0x4, 0x0, 0x0, 0x0, 0x0, 0x0, .common, false⟩,
  ⟨"LOT_DCREDIT", 0x200010, 1, 0x4, 1, 0x4, 0x0, 0x0, 0x0, 0x0, 0x0, .common, false⟩,
  ⟨"LOT_REQ", 0x200020, 1, 0x4, 1, 0x4, 0x0, 0x0, 0x0, 0x0, 0x0, .common, false⟩,
  ⟨"LOT_REQ_LAST", 0x200024, 1, 0x4, 1, 0x4, 0x4, 0x0, 0x0, 0x0, 0x0, .district, false⟩,
  ⟨"LOT_RSTAT", 0x200030, 4, 0x4, 1, 0x4, 0xFFFF0000, 0x0, 0x8, 0x0, 0x0, .district, false⟩,
  ⟨"LOT_FREE", 0x200040, 1, 0x4, 1, 0x4, 0x0, 0x0, 0x0, 0x0, 0x0, .common, false⟩,
  ⟨"LOT_ERR", 0x200044, 1, 0x4, 1, 0x4, 0x0, 0x0, 0x0, 0x0, 0x0, .district, false⟩,
  ⟨"LOT_SSEL", 0x200050, 1, 0x4, 1, 0x4, 0x0, 0x3FFFFFFF, 0x0, 0x0, 0x0, .initiator, false⟩,
  ⟨"LOT_SINFO", 0x200054, 1, 0x4, 1, 0x4, 0x0, 0x0, 0x0, 0x0, 0x0, .common, false⟩,
  ⟨"LOT_SBASE", 0x200058, 1, 0x4, 1, 0x4, 0xFFFF, 0x0, 0x0, 0x0, 0x0, .common, false⟩,
  ⟨"LOT_SHANDLE", 0x20005C, 1, 0x4, 1, 0x4, 0xFFFF, 0x0, 0x0, 0x0, 0x0, .common, false⟩,
  ⟨"LOT_ISO", 0x200060, 1, 0x4, 1, 0x4, 0x0, 0x0, 0x0, 0x0, 0x0, .common, false⟩,
  ⟨"LOT_LAT", 0x200064, 1, 0x4, 1, 0x4, 0x8000FFFF, 0x0, 0x0, 0x0, 0x0, .common, false⟩]
/-- The registers of block LOT, part 1. -/
def regsLOT1 : List RegDef := [
  ⟨"LOT_LTCFG", 0x200068, 1, 0x4, 1, 0x4, 0x640014, 0xFFFFFFFF, 0x0, 0x0, 0x0, .common, false⟩,
  ⟨"LOT_ECC_CE", 0x200070, 1, 0x4, 1, 0x4, 0x0, 0x0, 0x0, 0x0, 0xFFFFFFFF, .common, false⟩,
  ⟨"LOT_ECC_UE", 0x200074, 1, 0x4, 1, 0x4, 0x0, 0x0, 0x0, 0x0, 0xFFFFFFFF, .common, false⟩,
  ⟨"LOT_SPARE", 0x200078, 1, 0x4, 1, 0x4, 0x0, 0x0, 0x0, 0x0, 0x0, .common, false⟩]
/-- The registers of block ING, part 0. -/
def regsING0 : List RegDef := [
  ⟨"ING_SUMMARY", 0x300000, 1, 0x4, 1, 0x4, 0x0, 0x0, 0x0, 0x0, 0x0, .common, false⟩,
  ⟨"ING_CFG", 0x301000, 16, 0x100, 1, 0x4, 0x8, 0x1B, 0x0, 0x0, 0x0, .common, false⟩,
  ⟨"ING_STATUS", 0x301004, 16, 0x100, 1, 0x4, 0x30000, 0x0, 0x0, 0x0, 0x0, .common, false⟩,
  ⟨"ING_SSRC", 0x301008, 16, 0x100, 1, 0x4, 0x0, 0x0, 0x0, 0x0, 0x0, .common, false⟩,
  ⟨"ING_PERIOD", 0x30100C, 16, 0x100, 1, 0x4, 0x0, 0x0, 0x0, 0x0, 0x0, .common, false⟩,
  ⟨"ING_PRES_TS", 0x301010, 16, 0x100, 1, 0x4, 0x0, 0x0, 0x0, 0x0, 0x0, .common, false⟩,
  ⟨"ING_CNT", 0x301020, 16, 0x100, 10, 0x4, 0x0, 0x0, 0x0, 0x0, 0x0, .common, false⟩,
  ⟨"ING_HD_SET", 0x302040, 16, 0x100, 1, 0x4, 0xFFFF, 0xFFFF, 0x0, 0x0, 0x0, .initiator, false⟩,
  ⟨"ING_HD_OFF_LO", 0x302044, 16, 0x100, 1, 0x4, 0x0, 0xFFFFFFFF, 0x0, 0x0, 0x0, .initiator, true⟩,
  ⟨"ING_HD_OFF_HI", 0x302048, 16, 0x100, 1, 0x4, 0x0, 0xFFFFFFFF, 0x0, 0x0, 0x0, .initiator, false⟩,
  ⟨"ING_HD_PITCH", 0x30204C, 16, 0x100, 1, 0x4, 0x0, 0xFFFFFFFF, 0x0, 0x0, 0x0, .initiator, false⟩,
  ⟨"ING_HD_POST", 0x302050, 16, 0x100, 1, 0x4, 0x0, 0x0, 0x0, 0x0, 0x0, .common, false⟩,
  ⟨"ING_HD_STATUS", 0x302054, 16, 0x100, 1, 0x4, 0x4, 0x0, 0x0, 0x0, 0x0, .common, false⟩]
/-- The registers of block PLZ, part 0. -/
def regsPLZ0 : List RegDef := [
  ⟨"PLZ_STATUS", 0x400000, 4, 0x10000, 1, 0x4, 0x0, 0x0, 0x0, 0x0, 0x0, .common, false⟩,
  ⟨"PLZ_FRAME", 0x400004, 4, 0x10000, 1, 0x4, 0x0, 0x0, 0x0, 0x0, 0x0, .common, false⟩,
  ⟨"PLZ_DONE", 0x400008, 4, 0x10000, 1, 0x4, 0x0, 0x0, 0x0, 0x0, 0x0, .common, false⟩,
  ⟨"PLZ_COMMIT", 0x400010, 4, 0x10000, 1, 0x4, 0x0, 0x0, 0x0, 0x0, 0x0, .common, false⟩,
  ⟨"PLZ_LPENDING", 0x400014, 4, 0x10000, 1, 0x4, 0x0, 0x0, 0x0, 0x0, 0x0, .common, false⟩,
  ⟨"PLZ_BG_LO", 0x400018, 4, 0x10000, 1, 0x4, 0x0, 0xFFFFFFFF, 0x0, 0x0, 0x0, .common, true⟩,
  ⟨"PLZ_BG_HI", 0x40001C, 4, 0x10000, 1, 0x4, 0x0, 0xFFFFFFFF, 0x0, 0x0, 0x0, .common, false⟩,
  ⟨"PLZ_BGACT_LO", 0x400020, 4, 0x10000, 1, 0x4, 0x0, 0x0, 0x0, 0x0, 0x0, .common, true⟩,
  ⟨"PLZ_BGACT_HI", 0x400024, 4, 0x10000, 1, 0x4, 0x0, 0x0, 0x0, 0x0, 0x0, .common, false⟩,
  ⟨"PLZ_WBCTL", 0x400030, 4, 0x10000, 1, 0x4, 0x0, 0x1, 0x0, 0x0, 0x0, .common, false⟩,
  ⟨"PLZ_WBSTATUS", 0x400034, 4, 0x10000, 1, 0x4, 0x0, 0x0, 0x0, 0x0, 0x0, .common, false⟩,
  ⟨"PLZ_WBFRAME", 0x400038, 4, 0x10000, 1, 0x4, 0x0, 0x0, 0x0, 0x0, 0x0, .common, false⟩,
  ⟨"PLZ_WBDROP", 0x40003C, 4, 0x10000, 1, 0x4, 0x0, 0x0, 0x0, 0x0, 0x0, .common, false⟩,
  ⟨"PLZ_UNDERRUN", 0x400040, 4, 0x10000, 1, 0x4, 0x0, 0x0, 0x0, 0x0, 0x8F007FFF, .common, false⟩,
  ⟨"PLZ_URCNT", 0x400044, 4, 0x10000, 1, 0x4, 0x0, 0x0, 0x0, 0x0, 0x0, .common, false⟩,
  ⟨"PLZ_URMASK", 0x400048, 4, 0x10000, 1, 0x4, 0x0, 0x0, 0xFFFF, 0x0, 0x0, .common, false⟩]
/-- The registers of block PLZ, part 1. -/
def regsPLZ1 : List RegDef := [
  ⟨"PLZ_POISONCNT", 0x40004C, 4, 0x10000, 1, 0x4, 0x0, 0x0, 0x0, 0x0, 0x0, .common, false⟩,
  ⟨"PLZ_LAPPLIED", 0x400080, 4, 0x10000, 17, 0x4, 0x0, 0x0, 0x0, 0x0, 0x0, .common, false⟩,
  ⟨"PLZ_LSRC", 0x401000, 4, 0x10000, 16, 0x40, 0xFF, 0x1FFF, 0x0, 0x0, 0x0, .common, false⟩,
  ⟨"PLZ_LCROP_XY", 0x401004, 4, 0x10000, 16, 0x40, 0x0, 0xFFFFFFFF, 0x0, 0x0, 0x0, .common, false⟩,
  ⟨"PLZ_LCROP_WH", 0x401008, 4, 0x10000, 16, 0x40, 0x0, 0xFFFFFFFF, 0x0, 0x0, 0x0, .common, false⟩,
  ⟨"PLZ_LDST_XY", 0x40100C, 4, 0x10000, 16, 0x40, 0x0, 0xFFFFFFFF, 0x0, 0x0, 0x0, .common, false⟩,
  ⟨"PLZ_LDST_WH", 0x401010, 4, 0x10000, 16, 0x40, 0x0, 0xFFFFFFFF, 0x0, 0x0, 0x0, .common, false⟩,
  ⟨"PLZ_LALPHA", 0x401014, 4, 0x10000, 16, 0x40, 0x0, 0xFFFF, 0x0, 0x0, 0x0, .common, false⟩,
  ⟨"PLZ_LSTATUS", 0x401018, 4, 0x10000, 16, 0x40, 0x1F1F00, 0x0, 0x0, 0x0, 0x0, .common, false⟩,
  ⟨"PLZ_WCRC", 0x440000, 64, 0x10, 1, 0x4, 0x0, 0x0, 0x0, 0x0, 0x0, .common, true⟩,
  ⟨"PLZ_WFRAME", 0x440004, 64, 0x10, 1, 0x4, 0x0, 0x0, 0x0, 0x0, 0x0, .common, false⟩,
  ⟨"PLZ_WSTAT", 0x440008, 64, 0x10, 1, 0x4, 0x0, 0x0, 0x80000000, 0x0, 0x0, .common, false⟩,
  ⟨"PLZ_WEXPECT", 0x44000C, 64, 0x10, 1, 0x4, 0x0, 0xFFFFFFFF, 0x0, 0x0, 0x0, .common, false⟩,
  ⟨"PLZ_LACT_SRC", 0x401020, 4, 0x10000, 16, 0x40, 0xFF, 0x0, 0x0, 0x0, 0x0, .common, false⟩,
  ⟨"PLZ_LACT_CROP_XY", 0x401024, 4, 0x10000, 16, 0x40, 0x0, 0x0, 0x0, 0x0, 0x0, .common, false⟩,
  ⟨"PLZ_LACT_CROP_WH", 0x401028, 4, 0x10000, 16, 0x40, 0x0, 0x0, 0x0, 0x0, 0x0, .common, false⟩]
/-- The registers of block PLZ, part 2. -/
def regsPLZ2 : List RegDef := [
  ⟨"PLZ_LACT_DST_XY", 0x40102C, 4, 0x10000, 16, 0x40, 0x0, 0x0, 0x0, 0x0, 0x0, .common, false⟩,
  ⟨"PLZ_LACT_DST_WH", 0x401030, 4, 0x10000, 16, 0x40, 0x0, 0x0, 0x0, 0x0, 0x0, .common, false⟩,
  ⟨"PLZ_LACT_ALPHA", 0x401034, 4, 0x10000, 16, 0x40, 0x0, 0x0, 0x0, 0x0, 0x0, .common, false⟩]
/-- The registers of block BLV, part 0. -/
def regsBLV0 : List RegDef := [
  ⟨"BLV_BLOAD", 0x500100, 16, 0x20, 1, 0x4, 0x0, 0x0, 0x0, 0x0, 0x0, .common, false⟩,
  ⟨"BLV_BRUNS", 0x500104, 16, 0x20, 1, 0x4, 0x0, 0x0, 0x0, 0x0, 0x0, .common, false⟩,
  ⟨"BLV_BFRAME", 0x500108, 16, 0x20, 1, 0x4, 0x0, 0x0, 0x0, 0x0, 0x0, .common, false⟩,
  ⟨"BLV_BLATE", 0x50010C, 16, 0x20, 1, 0x4, 0x0, 0x0, 0x0, 0x0, 0x0, .common, false⟩,
  ⟨"BLV_BPOISON", 0x500110, 16, 0x20, 1, 0x4, 0x0, 0x0, 0x0, 0x0, 0x0, .common, false⟩,
  ⟨"BLV_BBUSY", 0x500114, 16, 0x20, 1, 0x4, 0x0, 0x0, 0x0, 0x0, 0x0, .common, false⟩,
  ⟨"BLV_GMASTER", 0x500400, 4, 0x10, 1, 0x4, 0x1000, 0xFFFF, 0x0, 0x0, 0x0, .common, false⟩,
  ⟨"BLV_GMASTER_ACT", 0x500404, 4, 0x10, 1, 0x4, 0x1000, 0x0, 0x0, 0x0, 0x0, .common, false⟩,
  ⟨"BLV_GAPPLIED", 0x500408, 4, 0x10, 1, 0x4, 0x0, 0x0, 0x0, 0x0, 0x0, .common, false⟩,
  ⟨"BLV_TMASTER", 0x510000, 4096, 0x40, 1, 0x4, 0x0, 0xFFFF, 0x0, 0x0, 0x0, .common, false⟩,
  ⟨"BLV_TWHITE", 0x510004, 4096, 0x40, 1, 0x4, 0x10001000, 0xFFFFFFFF, 0x0, 0x0, 0x0, .common, false⟩,
  ⟨"BLV_TSEL", 0x510008, 4096, 0x40, 1, 0x4, 0x0, 0x7, 0x0, 0x0, 0x0, .common, false⟩,
  ⟨"BLV_TCOMMIT", 0x51000C, 4096, 0x40, 1, 0x4, 0x0, 0x0, 0x0, 0x0, 0x0, .common, false⟩,
  ⟨"BLV_TSTATUS", 0x510010, 4096, 0x40, 1, 0x4, 0x0, 0x0, 0x60000, 0x0, 0x0, .common, false⟩,
  ⟨"BLV_TACT_MASTER", 0x510014, 4096, 0x40, 1, 0x4, 0x0, 0x0, 0x0, 0x0, 0x0, .common, false⟩,
  ⟨"BLV_TACT_WHITE", 0x510018, 4096, 0x40, 1, 0x4, 0x10001000, 0x0, 0x0, 0x0, 0x0, .common, false⟩]
/-- The registers of block BLV, part 1. -/
def regsBLV1 : List RegDef := [
  ⟨"BLV_TAPPLIED", 0x51001C, 4096, 0x40, 1, 0x4, 0x0, 0x0, 0x0, 0x0, 0x0, .common, false⟩,
  ⟨"BLV_TLCTOFF", 0x510020, 4096, 0x40, 1, 0x4, 0x0, 0x0, 0x0, 0x0, 0x0, .common, false⟩,
  ⟨"BLV_TLCTBANK", 0x510024, 4096, 0x40, 1, 0x4, 0x0, 0x0, 0x0, 0x0, 0x0, .common, false⟩,
  ⟨"BLV_TOUTOFF", 0x510028, 4096, 0x40, 1, 0x4, 0xFFFFFFFF, 0x0, 0x0, 0x0, 0x0, .common, false⟩,
  ⟨"BLV_TOUTBUF", 0x51002C, 4096, 0x40, 1, 0x4, 0x0, 0x0, 0x0, 0x0, 0x0, .common, false⟩,
  ⟨"BLV_TRUNS_LO", 0x510030, 4096, 0x40, 1, 0x4, 0x0, 0x0, 0x0, 0x0, 0x0, .common, true⟩,
  ⟨"BLV_TRUNS_HI", 0x510034, 4096, 0x40, 1, 0x4, 0x0, 0x0, 0x0, 0x0, 0x0, .common, false⟩]
/-- The registers of block AVE, part 0. -/
def regsAVE0 : List RegDef := [
  ⟨"AVE_LOCKED_LO", 0x600000, 1, 0x4, 1, 0x4, 0x0, 0x0, 0x0, 0x0, 0x0, .common, true⟩,
  ⟨"AVE_LOCKED_HI", 0x600004, 1, 0x4, 1, 0x4, 0x0, 0x0, 0x0, 0x0, 0x0, .common, false⟩,
  ⟨"AVE_URMASK0", 0x600008, 1, 0x4, 1, 0x4, 0x0, 0x0, 0xFFFFFFFF, 0x0, 0x0, .common, false⟩,
  ⟨"AVE_URMASK1", 0x60000C, 1, 0x4, 1, 0x4, 0x0, 0x0, 0xFFFFFFFF, 0x0, 0x0, .common, false⟩,
  ⟨"AVE_CSTATUS", 0x600400, 4, 0x10, 1, 0x4, 0x0, 0x0, 0x0, 0x0, 0x0, .common, false⟩,
  ⟨"AVE_CPRES_LO", 0x600404, 4, 0x10, 1, 0x4, 0x0, 0x0, 0x0, 0x0, 0x0, .common, true⟩,
  ⟨"AVE_CPRES_HI", 0x600408, 4, 0x10, 1, 0x4, 0x0, 0x0, 0x0, 0x0, 0x0, .common, false⟩,
  ⟨"AVE_CFRAME", 0x60040C, 4, 0x10, 1, 0x4, 0x0, 0x0, 0x0, 0x0, 0x0, .common, false⟩,
  ⟨"AVE_STATUS", 0x601000, 64, 0x40, 1, 0x4, 0x0, 0x0, 0x0, 0x0, 0x0, .common, false⟩,
  ⟨"AVE_TILES", 0x601004, 64, 0x40, 1, 0x4, 0x0, 0x0, 0x0, 0x0, 0x0, .common, false⟩,
  ⟨"AVE_FRAME", 0x601008, 64, 0x40, 1, 0x4, 0x0, 0x0, 0x0, 0x0, 0x0, .common, false⟩,
  ⟨"AVE_LT", 0x60100C, 64, 0x40, 1, 0x4, 0x8000FFFF, 0x0, 0x0, 0x0, 0x0, .common, false⟩,
  ⟨"AVE_MARGIN", 0x601010, 64, 0x40, 1, 0x4, 0xFFFFFFFF, 0x0, 0x0, 0x0, 0x0, .common, false⟩,
  ⟨"AVE_LATE", 0x601014, 64, 0x40, 1, 0x4, 0x0, 0x0, 0x0, 0x0, 0x0, .common, false⟩,
  ⟨"AVE_UNDERRUN", 0x601018, 64, 0x40, 1, 0x4, 0x0, 0x0, 0x0, 0x0, 0x8FFFFFFF, .common, false⟩,
  ⟨"AVE_UFRAME", 0x60101C, 64, 0x40, 1, 0x4, 0x0, 0x0, 0x0, 0x0, 0x0, .common, false⟩]
/-- The registers of block AVE, part 1. -/
def regsAVE1 : List RegDef := [
  ⟨"AVE_SLICES", 0x601020, 64, 0x40, 1, 0x4, 0x0, 0x0, 0x0, 0x0, 0x0, .common, false⟩,
  ⟨"AVE_HB", 0x601024, 64, 0x40, 1, 0x4, 0x0, 0x0, 0x0, 0x0, 0x0, .common, false⟩,
  ⟨"AVE_NOTICE", 0x601028, 64, 0x40, 1, 0x4, 0x0, 0x0, 0x0, 0x0, 0x0, .common, false⟩,
  ⟨"AVE_CTSLIP", 0x60102C, 64, 0x40, 1, 0x4, 0x0, 0x0, 0x0, 0x0, 0x0, .common, false⟩,
  ⟨"AVE_HOLDBACK", 0x601030, 64, 0x40, 1, 0x4, 0x0, 0x0, 0x0, 0x0, 0x0, .common, false⟩]
/-- The registers of block LMS, part 0. -/
def regsLMS0 : List RegDef := [
  ⟨"LMS_CFG", 0x700000, 1, 0x4, 1, 0x4, 0x88B5, 0xFFFF, 0x0, 0x0, 0x0, .common, false⟩,
  ⟨"LMS_HBMAC_LO", 0x700004, 1, 0x4, 1, 0x4, 0xFFFFFFFF, 0xFFFFFFFF, 0x0, 0x0, 0x0, .common, true⟩,
  ⟨"LMS_HBMAC_HI", 0x700008, 1, 0x4, 1, 0x4, 0xFFFF, 0xFFFF, 0x0, 0x0, 0x0, .common, false⟩,
  ⟨"LMS_EPOCH", 0x70000C, 1, 0x4, 1, 0x4, 0x0, 0x0, 0x0, 0x0, 0x0, .common, false⟩,
  ⟨"LMS_BLACKOUT", 0x700010, 1, 0x4, 1, 0x4, 0xF0000, 0x0, 0x0, 0x0, 0x0, .common, false⟩,
  ⟨"LMS_BLACK_REL", 0x700014, 1, 0x4, 1, 0x4, 0x0, 0x0, 0x0, 0x0, 0x0, .common, false⟩,
  ⟨"LMS_BLACKCNT", 0x700018, 1, 0x4, 1, 0x4, 0x0, 0x0, 0x0, 0x0, 0x0, .common, false⟩,
  ⟨"LMS_TIMING", 0x70001C, 1, 0x4, 1, 0x4, 0x303E8, 0xFFFFF, 0x0, 0x0, 0x0, .common, false⟩,
  ⟨"LMS_PSTATUS", 0x710000, 64, 0x100, 1, 0x4, 0x0, 0x0, 0x10000, 0x0, 0x0, .common, false⟩,
  ⟨"LMS_CQ_PTR", 0x710004, 64, 0x100, 1, 0x4, 0x0, 0x0, 0x0, 0x0, 0x0, .common, false⟩,
  ⟨"LMS_CQ_STAGE", 0x710010, 64, 0x100, 8, 0x4, 0x0, 0xFFFFFFFF, 0x0, 0x0, 0x0, .initiator, false⟩,
  ⟨"LMS_CQ_POST", 0x710030, 64, 0x100, 1, 0x4, 0x0, 0x0, 0x0, 0x0, 0x0, .common, false⟩,
  ⟨"LMS_CPL_LO", 0x710038, 64, 0x100, 1, 0x4, 0x0, 0x0, 0x0, 0x0, 0x0, .common, true⟩,
  ⟨"LMS_CPL_HI", 0x71003C, 64, 0x100, 1, 0x4, 0x0, 0x0, 0x0, 0x0, 0x0, .common, false⟩,
  ⟨"LMS_CPL_LEVEL", 0x710040, 64, 0x100, 1, 0x4, 0x0, 0x0, 0x0, 0x0, 0x0, .common, false⟩,
  ⟨"LMS_PRX", 0x710044, 64, 0x100, 1, 0x4, 0x0, 0x0, 0x0, 0x0, 0x0, .common, false⟩]
/-- The registers of block LMS, part 1. -/
def regsLMS1 : List RegDef := [
  ⟨"LMS_PRXDROP", 0x710048, 64, 0x100, 1, 0x4, 0x0, 0x0, 0x0, 0x0, 0x0, .common, false⟩,
  ⟨"LMS_TSTAT", 0x720000, 4096, 0x20, 1, 0x4, 0x0, 0x0, 0x30000, 0x0, 0x0, .common, false⟩,
  ⟨"LMS_TTSN", 0x720004, 4096, 0x20, 1, 0x4, 0x0, 0x0, 0x0, 0x0, 0x0, .common, false⟩,
  ⟨"LMS_TMARK", 0x720008, 4096, 0x20, 1, 0x4, 0x0, 0x0, 0x0, 0x0, 0x0, .common, false⟩,
  ⟨"LMS_TREPLAY", 0x72000C, 4096, 0x20, 1, 0x4, 0x0, 0x0, 0x0, 0x0, 0x0, .common, false⟩,
  ⟨"LMS_TRESYNC", 0x720010, 4096, 0x20, 1, 0x4, 0x0, 0x0, 0x0, 0x0, 0x0, .common, false⟩,
  ⟨"LMS_TFEND", 0x720014, 4096, 0x20, 1, 0x4, 0x0, 0x0, 0x0, 0x0, 0x0, .common, false⟩,
  ⟨"LMS_TSEQ", 0x720018, 4096, 0x20, 1, 0x4, 0x0, 0x0, 0x0, 0x0, 0x0, .common, false⟩,
  ⟨"LMS_TRSEQ", 0x72001C, 4096, 0x20, 1, 0x4, 0x0, 0x0, 0x0, 0x0, 0x0, .common, false⟩]
/-- The registers of block PRT, part 0. -/
def regsPRT0 : List RegDef := [
  ⟨"PRT_CFG", 0x800000, 64, 0x1000, 1, 0x4, 0x0, 0x0, 0x0, 0x0, 0x0, .common, false⟩,
  ⟨"PRT_STATUS", 0x800004, 64, 0x1000, 1, 0x4, 0x0, 0x0, 0x10000, 0x0, 0x0, .common, false⟩,
  ⟨"PRT_RXCFG", 0x800008, 64, 0x1000, 1, 0x4, 0x0, 0x1, 0x0, 0x0, 0x0, .common, false⟩,
  ⟨"PRT_PREEMPT", 0x80000C, 64, 0x1000, 1, 0x4, 0x0, 0x1, 0x0, 0x0, 0x0, .common, false⟩,
  ⟨"PRT_LAT_RX", 0x800010, 64, 0x1000, 1, 0x4, 0x0, 0x0, 0x0, 0x0, 0x0, .common, false⟩,
  ⟨"PRT_LAT_TX", 0x800014, 64, 0x1000, 1, 0x4, 0x0, 0x0, 0x0, 0x0, 0x0, .common, false⟩,
  ⟨"PRT_LATADJ", 0x800018, 64, 0x1000, 1, 0x4, 0x0, 0xFFFFFFFF, 0x0, 0x0, 0x0, .common, false⟩,
  ⟨"PRT_SERDES", 0x80001C, 64, 0x1000, 1, 0x4, 0x0, 0xC01F3F1F, 0x0, 0x0, 0x0, .common, false⟩,
  ⟨"PRT_CNT_LO", 0x800100, 64, 0x1000, 24, 0x8, 0x0, 0x0, 0x0, 0x0, 0x0, .common, true⟩,
  ⟨"PRT_CNT_HI", 0x800104, 64, 0x1000, 24, 0x8, 0x0, 0x0, 0x0, 0x0, 0x0, .common, false⟩,
  ⟨"RXR_CTL", 0x800400, 64, 0x1000, 4, 0x40, 0x0, 0x8000FFFF, 0x0, 0x0, 0x0, .common, false⟩,
  ⟨"TXR_CTL", 0x800600, 64, 0x1000, 4, 0x40, 0x0, 0x8000FFFF, 0x0, 0x0, 0x0, .common, false⟩,
  ⟨"RXR_SET", 0x800404, 64, 0x1000, 4, 0x40, 0xFFFF, 0xFFFF, 0x0, 0x0, 0x0, .common, false⟩,
  ⟨"TXR_SET", 0x800604, 64, 0x1000, 4, 0x40, 0xFFFF, 0xFFFF, 0x0, 0x0, 0x0, .common, false⟩,
  ⟨"RXR_OFF_LO", 0x800408, 64, 0x1000, 4, 0x40, 0x0, 0xFFFFFFFF, 0x0, 0x0, 0x0, .common, true⟩,
  ⟨"TXR_OFF_LO", 0x800608, 64, 0x1000, 4, 0x40, 0x0, 0xFFFFFFFF, 0x0, 0x0, 0x0, .common, true⟩]
/-- The registers of block PRT, part 1. -/
def regsPRT1 : List RegDef := [
  ⟨"RXR_OFF_HI", 0x80040C, 64, 0x1000, 4, 0x40, 0x0, 0xFFFFFFFF, 0x0, 0x0, 0x0, .common, false⟩,
  ⟨"TXR_OFF_HI", 0x80060C, 64, 0x1000, 4, 0x40, 0x0, 0xFFFFFFFF, 0x0, 0x0, 0x0, .common, false⟩,
  ⟨"RXR_ENTRIES", 0x800410, 64, 0x1000, 4, 0x40, 0x0, 0xFFFF, 0x0, 0x0, 0x0, .common, false⟩,
  ⟨"TXR_ENTRIES", 0x800610, 64, 0x1000, 4, 0x40, 0x0, 0xFFFF, 0x0, 0x0, 0x0, .common, false⟩,
  ⟨"RXR_TAIL", 0x800414, 64, 0x1000, 4, 0x40, 0x0, 0xFFFF, 0x0, 0x0, 0x0, .common, false⟩,
  ⟨"TXR_TAIL", 0x800614, 64, 0x1000, 4, 0x40, 0x0, 0xFFFF, 0x0, 0x0, 0x0, .common, false⟩,
  ⟨"RXR_HEAD", 0x800418, 64, 0x1000, 4, 0x40, 0x0, 0x0, 0x0, 0x0, 0x0, .common, false⟩,
  ⟨"TXR_HEAD", 0x800618, 64, 0x1000, 4, 0x40, 0x0, 0x0, 0x0, 0x0, 0x0, .common, false⟩,
  ⟨"RXR_STATUS", 0x800420, 64, 0x1000, 4, 0x40, 0x0, 0x0, 0x0, 0x0, 0x0, .common, false⟩,
  ⟨"TXR_STATUS", 0x800620, 64, 0x1000, 4, 0x40, 0x0, 0x0, 0x0, 0x0, 0x0, .common, false⟩,
  ⟨"RXR_FILTER", 0x80041C, 64, 0x1000, 4, 0x40, 0x0, 0x3FFFF, 0x0, 0x0, 0x0, .common, false⟩]
/-- The registers of block CLT, part 0. -/
def regsCLT0 : List RegDef := [
  ⟨"CLT_STATUS", 0x900000, 1, 0x4, 1, 0x4, 0x7F0000, 0x0, 0x100, 0x0, 0x0, .common, false⟩,
  ⟨"CLT_TNS", 0x900004, 1, 0x4, 1, 0x4, 0x0, 0x0, 0x0, 0x0, 0x0, .common, false⟩,
  ⟨"CLT_TSEC_LO", 0x900008, 1, 0x4, 1, 0x4, 0x0, 0x0, 0x0, 0x0, 0x0, .initiator, false⟩,
  ⟨"CLT_TSEC_HI", 0x90000C, 1, 0x4, 1, 0x4, 0x0, 0x0, 0x0, 0x0, 0x0, .initiator, false⟩,
  ⟨"CLT_TFRAC", 0x900010, 1, 0x4, 1, 0x4, 0x0, 0x0, 0x0, 0x0, 0x0, .initiator, false⟩,
  ⟨"CLT_INCR_LO", 0x900014, 1, 0x4, 1, 0x4, 0x80000000, 0xFFFFFFFF, 0x0, 0x0, 0x0, .common, true⟩,
  ⟨"CLT_INCR_HI", 0x900018, 1, 0x4, 1, 0x4, 0x2, 0xFF, 0x0, 0x0, 0x0, .common, false⟩,
  ⟨"CLT_ADJ", 0x90001C, 1, 0x4, 1, 0x4, 0x0, 0x0, 0x0, 0x0, 0x0, .common, false⟩,
  ⟨"CLT_ADJ_LEFT", 0x900020, 1, 0x4, 1, 0x4, 0x0, 0x0, 0x0, 0x0, 0x0, .common, false⟩,
  ⟨"CLT_STEP_NS", 0x900024, 1, 0x4, 1, 0x4, 0x0, 0xFFFFFFFF, 0x0, 0x0, 0x0, .initiator, false⟩,
  ⟨"CLT_STEP_SEC_LO", 0x900028, 1, 0x4, 1, 0x4, 0x0, 0xFFFFFFFF, 0x0, 0x0, 0x0, .initiator, false⟩,
  ⟨"CLT_STEP_SEC_HI", 0x90002C, 1, 0x4, 1, 0x4, 0x0, 0xFFFF, 0x0, 0x0, 0x0, .initiator, false⟩,
  ⟨"CLT_STEP_CTL", 0x900030, 1, 0x4, 1, 0x4, 0x0, 0x0, 0x0, 0x0, 0x0, .common, false⟩,
  ⟨"CLT_FRAME", 0x900040, 1, 0x4, 1, 0x4, 0x0, 0x0, 0x0, 0x0, 0x0, .common, false⟩,
  ⟨"CLT_FT_NS", 0x900044, 1, 0x4, 1, 0x4, 0x0, 0x0, 0x0, 0x0, 0x0, .common, false⟩,
  ⟨"CLT_FT_SEC_LO", 0x900048, 1, 0x4, 1, 0x4, 0x0, 0x0, 0x0, 0x0, 0x0, .initiator, false⟩]
/-- The registers of block CLT, part 1. -/
def regsCLT1 : List RegDef := [
  ⟨"CLT_FT_SEC_HI", 0x90004C, 1, 0x4, 1, 0x4, 0x0, 0x0, 0x0, 0x0, 0x0, .initiator, false⟩,
  ⟨"CLT_FOFFSET", 0x900050, 1, 0x4, 1, 0x4, 0x0, 0xFFFFFFFF, 0x0, 0x0, 0x0, .common, false⟩,
  ⟨"CLT_FDISC", 0x900054, 1, 0x4, 1, 0x4, 0x0, 0x0, 0x0, 0x0, 0x0, .common, false⟩,
  ⟨"CLT_PTPDS", 0x900060, 1, 0x4, 1, 0x4, 0x8080F8FE, 0xFFFFFFFF, 0x0, 0x0, 0x0, .common, false⟩,
  ⟨"CLT_OFFSET", 0x900064, 1, 0x4, 1, 0x4, 0x0, 0x0, 0x0, 0x0, 0x0, .common, false⟩,
  ⟨"CLT_MPD", 0x900068, 1, 0x4, 1, 0x4, 0x0, 0x0, 0x0, 0x0, 0x0, .common, false⟩,
  ⟨"CLT_UTCOFF", 0x90006C, 1, 0x4, 1, 0x4, 0x25, 0x0, 0x0, 0x0, 0x0, .common, false⟩,
  ⟨"CLT_LTC_CFG", 0x900080, 1, 0x4, 1, 0x4, 0x0, 0xFF01, 0x0, 0x0, 0x0, .common, false⟩,
  ⟨"CLT_LTC_JAM", 0x900084, 1, 0x4, 1, 0x4, 0x0, 0x1FFFF, 0x0, 0x0, 0x0, .common, false⟩,
  ⟨"CLT_LTC_OUT", 0x900088, 1, 0x4, 1, 0x4, 0x0, 0x0, 0x0, 0x0, 0x0, .common, false⟩,
  ⟨"CLT_LTCIN", 0x90008C, 1, 0x4, 1, 0x4, 0x0, 0x0, 0x0, 0x0, 0x0, .common, false⟩,
  ⟨"CLT_LTCIN_STAT", 0x900090, 1, 0x4, 1, 0x4, 0x0, 0x0, 0x0, 0x0, 0x0, .common, false⟩,
  ⟨"CLT_LTCIN_UB", 0x900094, 1, 0x4, 1, 0x4, 0x0, 0x0, 0x0, 0x0, 0x0, .common, false⟩,
  ⟨"CLT_LTCIN_TNS", 0x900098, 1, 0x4, 1, 0x4, 0x0, 0x0, 0x0, 0x0, 0x0, .common, false⟩,
  ⟨"CLT_LTCIN_TSEC", 0x90009C, 1, 0x4, 1, 0x4, 0x0, 0x0, 0x0, 0x0, 0x0, .initiator, false⟩,
  ⟨"CLT_PPORT", 0x900100, 64, 0x4, 1, 0x4, 0x3, 0xC0, 0x0, 0x0, 0x0, .common, false⟩]
/-- The registers of block FXE, part 0. -/
def regsFXE0 : List RegDef := [
  ⟨"FXE_STATUS", 0xA00000, 1, 0x4, 1, 0x4, 0x0, 0x0, 0x0, 0x0, 0x0, .common, false⟩,
  ⟨"FXE_FRAME", 0xA00004, 1, 0x4, 1, 0x4, 0x0, 0x0, 0x0, 0x0, 0x0, .common, false⟩,
  ⟨"FXE_LATE", 0xA00008, 1, 0x4, 1, 0x4, 0x0, 0x0, 0x0, 0x0, 0x0, .common, false⟩,
  ⟨"FXE_CID", 0xA00010, 4, 0x4, 1, 0x4, 0x0, 0x0, 0x0, 0x0, 0x0, .common, false⟩,
  ⟨"FXE_IPCFG", 0xA00020, 1, 0x4, 1, 0x4, 0x10, 0xFF, 0x0, 0x0, 0x0, .common, false⟩,
  ⟨"FXE_DSET", 0xA00100, 5, 0x20, 1, 0x4, 0xFFFF, 0xFFFF, 0x0, 0x0, 0x0, .common, false⟩,
  ⟨"FXE_DRANGE", 0xA00104, 5, 0x20, 1, 0x4, 0x1, 0xFFFFFFFF, 0x0, 0x0, 0x0, .common, false⟩,
  ⟨"FXE_DCOMMIT", 0xA00108, 5, 0x20, 1, 0x4, 0x0, 0x0, 0x0, 0x0, 0x0, .common, false⟩,
  ⟨"FXE_DSTATUS", 0xA0010C, 5, 0x20, 1, 0x4, 0x0, 0x0, 0x0, 0x0, 0x0, .common, false⟩,
  ⟨"FXE_DAPPLIED", 0xA00110, 5, 0x20, 1, 0x4, 0x0, 0x0, 0x0, 0x0, 0x0, .common, false⟩,
  ⟨"FXE_DSTALE", 0xA00114, 5, 0x20, 1, 0x4, 0x0, 0x0, 0x0, 0x0, 0x0, .common, false⟩,
  ⟨"FXE_SRCIP", 0xA00400, 64, 0x4, 1, 0x4, 0x0, 0xFFFFFFFF, 0x0, 0x0, 0x0, .common, false⟩,
  ⟨"FXE_DMXCFG", 0xA00600, 4, 0x40, 1, 0x4, 0xB00C07, 0x3FF7F07, 0x0, 0x0, 0x0, .common, false⟩,
  ⟨"FXE_DMXSTAT", 0xA00604, 4, 0x40, 1, 0x4, 0x0, 0x0, 0x0, 0x0, 0x0, .common, false⟩,
  ⟨"FXE_DMXPKT", 0xA00608, 4, 0x40, 1, 0x4, 0x0, 0x0, 0x0, 0x0, 0x0, .common, false⟩,
  ⟨"FXE_DMXSKIP", 0xA0060C, 4, 0x40, 1, 0x4, 0x0, 0x0, 0x0, 0x0, 0x0, .common, false⟩]
/-- The registers of block FXE, part 1. -/
def regsFXE1 : List RegDef := [
  ⟨"FXE_RDMCTL", 0xA00610, 4, 0x40, 1, 0x4, 0x0, 0x0, 0x0, 0x0, 0x0, .common, false⟩,
  ⟨"FXE_RDMSTAT", 0xA00614, 4, 0x40, 1, 0x4, 0x0, 0x0, 0x0, 0x0, 0x0, .common, false⟩,
  ⟨"FXE_RDMUID_LO", 0xA00618, 4, 0x40, 1, 0x4, 0x0, 0x0, 0x0, 0x0, 0x0, .common, true⟩,
  ⟨"FXE_RDMUID_HI", 0xA0061C, 4, 0x40, 1, 0x4, 0x0, 0x0, 0x0, 0x0, 0x0, .common, false⟩]
/-- The registers of block SCH, part 0. -/
def regsSCH0 : List RegDef := [
  ⟨"SCH_STATUS", 0xB00000, 1, 0x4, 1, 0x4, 0x0, 0x0, 0x0, 0x0, 0x0, .common, false⟩,
  ⟨"SCH_TICK_LO", 0xB00008, 1, 0x4, 1, 0x4, 0x0, 0x0, 0x0, 0x0, 0x0, .common, true⟩,
  ⟨"SCH_TICK_HI", 0xB0000C, 1, 0x4, 1, 0x4, 0x0, 0x0, 0x0, 0x0, 0x0, .common, false⟩,
  ⟨"SCH_PARKMAP", 0xB00010, 1, 0x4, 1, 0x4, 0x0, 0x0, 0x0, 0x0, 0x0, .common, false⟩,
  ⟨"SCH_CORE", 0xB00100, 16, 0x8, 1, 0x4, 0x0, 0x0, 0x0, 0x0, 0x0, .common, false⟩,
  ⟨"SCH_CORE_REC", 0xB00104, 16, 0x8, 1, 0x4, 0x0, 0x0, 0x0, 0x0, 0x0, .common, false⟩,
  ⟨"SCH_DCFG", 0xB00400, 5, 0x80, 1, 0x4, 0x1000604, 0xF, 0x0, 0x0, 0x0, .common, false⟩,
  ⟨"SCH_DAGE", 0xB00404, 5, 0x80, 1, 0x4, 0x61A80, 0x0, 0x0, 0x0, 0x0, .common, false⟩,
  ⟨"SCH_DSTAT", 0xB00408, 5, 0x80, 1, 0x4, 0x0, 0x0, 0x0, 0x0, 0x0, .common, false⟩,
  ⟨"SCH_DREADY_LO", 0xB0040C, 5, 0x80, 1, 0x4, 0x0, 0x0, 0x0, 0x0, 0x0, .common, true⟩,
  ⟨"SCH_DREADY_HI", 0xB00410, 5, 0x80, 1, 0x4, 0x0, 0x0, 0x0, 0x0, 0x0, .common, false⟩,
  ⟨"SCH_TRC_SET", 0xB00414, 5, 0x80, 1, 0x4, 0xFFFF, 0xFFFF, 0x0, 0x0, 0x0, .common, false⟩,
  ⟨"SCH_TRC_OFF_LO", 0xB00418, 5, 0x80, 1, 0x4, 0x0, 0xFFFFFFFF, 0x0, 0x0, 0x0, .common, true⟩,
  ⟨"SCH_TRC_OFF_HI", 0xB0041C, 5, 0x80, 1, 0x4, 0x0, 0xFFFFFFFF, 0x0, 0x0, 0x0, .common, false⟩,
  ⟨"SCH_TRC_CTL", 0xB00420, 5, 0x80, 1, 0x4, 0x0, 0xD001FFFF, 0x20000000, 0x0, 0x0, .common, false⟩,
  ⟨"SCH_TRC_LOST", 0xB00428, 5, 0x80, 1, 0x4, 0x0, 0x0, 0x0, 0x0, 0x0, .common, false⟩]
/-- The registers of block SCH, part 1. -/
def regsSCH1 : List RegDef := [
  ⟨"SCH_DDEF", 0xB00440, 5, 0x80, 8, 0x4, 0x0, 0x0, 0x0, 0x0, 0x0, .common, false⟩,
  ⟨"SCH_DCNT", 0xB00460, 5, 0x80, 6, 0x4, 0x0, 0x0, 0x0, 0x0, 0x0, .common, false⟩,
  ⟨"SCH_TRC_WP", 0xB00424, 5, 0x80, 1, 0x4, 0x0, 0x0, 0x0, 0x0, 0x0, .common, false⟩,
  ⟨"SCH_TRC_RP", 0xB0042C, 5, 0x80, 1, 0x4, 0x0, 0x1FFFF, 0x0, 0x0, 0x0, .common, false⟩]
/-- The registers of block QUE, part 0. -/
def regsQUE0 : List RegDef := [
  ⟨"QUE_STATUS", 0xC00000, 5, 0x10000, 1, 0x4, 0x0, 0x0, 0x30300, 0x0, 0x0, .common, false⟩,
  ⟨"QUE_REJCNT", 0xC00004, 5, 0x10000, 1, 0x4, 0x0, 0x0, 0x0, 0x0, 0x0, .common, false⟩,
  ⟨"QUE_SQ_PTR", 0xC00100, 5, 0x10000, 8, 0x4, 0x0, 0x0, 0x0, 0x0, 0x0, .common, false⟩,
  ⟨"QUE_CQ_POP", 0xC00200, 5, 0x10000, 1, 0x4, 0x0, 0x0, 0x0, 0x0, 0x0, .common, false⟩,
  ⟨"QUE_CQ_DATA", 0xC00204, 5, 0x10000, 8, 0x4, 0x0, 0x0, 0x0, 0x0, 0x0, .initiator, false⟩,
  ⟨"QUE_CQ_PTR", 0xC00240, 5, 0x10000, 8, 0x4, 0x0, 0x0, 0x0, 0x0, 0x0, .common, false⟩,
  ⟨"QUE_CQ_MARK", 0xC00260, 5, 0x10000, 1, 0x4, 0x0, 0x0, 0x0, 0x0, 0x0, .common, false⟩,
  ⟨"QUE_SQ_WIN", 0xC01000, 5, 0x10000, 128, 0x4, 0x0, 0x0, 0x0, 0x0, 0x0, .initiator, false⟩]
/-- The registers of block MBX, part 0. -/
def regsMBX0 : List RegDef := [
  ⟨"MBX_TX", 0xD00000, 4, 0x1000, 16, 0x4, 0x0, 0x0, 0x0, 0x0, 0x0, .initiator, false⟩,
  ⟨"MBX_POP", 0xD00040, 4, 0x1000, 1, 0x4, 0x0, 0x0, 0x0, 0x0, 0x0, .common, false⟩,
  ⟨"MBX_DATA", 0xD00044, 4, 0x1000, 15, 0x4, 0x0, 0x0, 0x0, 0x0, 0x0, .initiator, false⟩,
  ⟨"MBX_STATUS", 0xD00080, 4, 0x1000, 1, 0x4, 0x0, 0x0, 0xC, 0x0, 0x0, .common, false⟩,
  ⟨"MBX_FIRE", 0xD08000, 1, 0x4, 1, 0x4, 0x0, 0x0, 0x0, 0x0, 0x0, .common, false⟩,
  ⟨"MBX_HOSTHB", 0xD00084, 4, 0x1000, 1, 0x4, 0x0, 0x0, 0x0, 0x0, 0x0, .common, false⟩,
  ⟨"MBX_FWHB", 0xD00088, 4, 0x1000, 1, 0x4, 0x0, 0xFFFFFFFF, 0x0, 0x0, 0x0, .common, false⟩]
/-- The registers of block XNG, part 0. -/
def regsXNG0 : List RegDef := [
  ⟨"XNG_CTL", 0xE00000, 1, 0x4, 1, 0x4, 0x0, 0x1, 0x0, 0x0, 0x0, .common, false⟩,
  ⟨"XNG_STOPPED", 0xE00008, 1, 0x4, 1, 0x4, 0x0, 0x0, 0x3FFFFF, 0x0, 0x0, .common, false⟩,
  ⟨"XNG_PFDROP", 0xE0000C, 1, 0x4, 1, 0x4, 0x0, 0x0, 0x0, 0x0, 0x0, .common, false⟩,
  ⟨"XNG_PFLAST_ADDR", 0xE00010, 1, 0x4, 1, 0x4, 0x0, 0x0, 0x0, 0x0, 0x0, .common, false⟩,
  ⟨"XNG_PFLAST_INIT", 0xE00014, 1, 0x4, 1, 0x4, 0x0, 0x0, 0x0, 0x0, 0x0, .common, false⟩,
  ⟨"XNG_SEMLOG", 0xE00018, 1, 0x4, 1, 0x4, 0x0, 0x0, 0x0, 0x0, 0x80FF3FFF, .common, false⟩,
  ⟨"XNG_RETRY", 0xE0001C, 1, 0x4, 1, 0x4, 0x0, 0x0, 0x0, 0x0, 0x0, .common, false⟩,
  ⟨"XNG_RGN_LO", 0xE00100, 16, 0x8, 1, 0x4, 0x0, 0xC007FFFF, 0x0, 0x0, 0x0, .common, false⟩,
  ⟨"XNG_RGN_HI", 0xE00104, 16, 0x8, 1, 0x4, 0x0, 0x7FFFF, 0x0, 0x0, 0x0, .common, false⟩,
  ⟨"XNG_SEM", 0xE01000, 64, 0x4, 1, 0x4, 0x0, 0xFFFFFFFF, 0x0, 0x0, 0x0, .common, false⟩,
  ⟨"XNG_DSTATUS", 0xE00400, 5, 0x40, 1, 0x4, 0x0, 0x0, 0x0, 0x0, 0x0, .common, false⟩,
  ⟨"XNG_ERRLOG", 0xE00410, 5, 0x40, 4, 0x4, 0x0, 0x0, 0x0, 0x0, 0x0, .initiator, false⟩,
  ⟨"XNG_ERROVF", 0xE00420, 5, 0x40, 1, 0x4, 0x0, 0x0, 0x0, 0x0, 0x0, .common, false⟩,
  ⟨"XNG_LOST", 0xE00424, 5, 0x40, 4, 0x4, 0x0, 0x0, 0x0, 0x0, 0x0, .initiator, false⟩]
/-- The registers of block KRB, part 0. -/
def regsKRB0 : List RegDef := [
  ⟨"KRB_STATUS", 0xF00000, 1, 0x4, 1, 0x4, 0x0, 0x0, 0x0, 0x0, 0x0, .common, false⟩,
  ⟨"KRB_MINP", 0xF00004, 1, 0x4, 1, 0x4, 0x0, 0x1FF, 0x0, 0x0, 0x0, .common, false⟩,
  ⟨"KRB_FAULTSUM", 0xF00008, 1, 0x4, 1, 0x4, 0x0, 0x0, 0x0, 0x0, 0x0, .common, false⟩,
  ⟨"KRB_CHFAULT_LO", 0xF00010, 1, 0x4, 1, 0x4, 0x0, 0x0, 0x0, 0x0, 0x0, .common, true⟩,
  ⟨"KRB_CHFAULT_HI", 0xF00014, 1, 0x4, 1, 0x4, 0x0, 0x0, 0x0, 0x0, 0x0, .common, false⟩,
  ⟨"KRB_CHLEVEL", 0xF00100, 48, 0x20, 1, 0x4, 0x0, 0xFFFF, 0x0, 0x0, 0x0, .common, false⟩,
  ⟨"KRB_CHSTAT", 0xF00104, 48, 0x20, 1, 0x4, 0x0, 0x0, 0x0, 0x0, 0x0, .common, false⟩,
  ⟨"KRB_CHMEAS", 0xF00108, 48, 0x20, 1, 0x4, 0x0, 0x0, 0x0, 0x0, 0x0, .common, false⟩,
  ⟨"KRB_CHDERATE", 0xF0010C, 48, 0x20, 1, 0x4, 0x1000, 0xF0000, 0x0, 0x0, 0x0, .common, false⟩,
  ⟨"KRB_CHCLR", 0xF00110, 48, 0x20, 1, 0x4, 0x0, 0x0, 0x0, 0x0, 0x0, .common, false⟩,
  ⟨"KRB_GCMD", 0xF00800, 16, 0x20, 1, 0x4, 0x0, 0x0, 0x0, 0x0, 0x0, .common, false⟩,
  ⟨"KRB_GSTAT", 0xF00804, 16, 0x20, 1, 0x4, 0x3F0000, 0x0, 0x0, 0x0, 0x0, .common, false⟩,
  ⟨"KRB_GSTEPA", 0xF00808, 16, 0x20, 1, 0x4, 0x0, 0x7FFF7FFF, 0x0, 0x0, 0x0, .common, false⟩,
  ⟨"KRB_GSTEPB", 0xF0080C, 16, 0x20, 1, 0x4, 0x0, 0x37FFF, 0x0, 0x0, 0x0, .common, false⟩,
  ⟨"KRB_GCLR", 0xF00810, 16, 0x20, 1, 0x4, 0x0, 0x0, 0x0, 0x0, 0x0, .common, false⟩,
  ⟨"KRB_GFAULTS", 0xF00814, 16, 0x20, 1, 0x4, 0x0, 0x0, 0x0, 0x0, 0x0, .common, false⟩]
/-- The registers of block KRB, part 1. -/
def regsKRB1 : List RegDef := [
  ⟨"KRB_NTEMP", 0xF00C00, 8, 0x10, 1, 0x4, 0x0, 0x0, 0x0, 0x0, 0x0, .common, false⟩,
  ⟨"KRB_NLIMIT", 0xF00C04, 8, 0x10, 1, 0x4, 0x0, 0xFFFF, 0x0, 0x0, 0x0, .common, false⟩,
  ⟨"KRB_NPARAM", 0xF00C08, 8, 0x10, 1, 0x4, 0x0, 0xFFFFFFFF, 0x0, 0x0, 0x0, .common, false⟩,
  ⟨"KRB_CKOCFG", 0xF00E00, 4, 0x4, 1, 0x4, 0x0, 0xC0070007, 0x0, 0x0, 0x0, .common, false⟩,
  ⟨"KRB_CKOSTAT", 0xF00E10, 1, 0x4, 1, 0x4, 0x0, 0x0, 0x0, 0x0, 0x0, .common, false⟩]
/-- The registers of block MET, part 0. -/
def regsMET0 : List RegDef := [
  ⟨"MET_STATUS", 0x1000000, 1, 0x4, 1, 0x4, 0x0, 0x0, 0x4, 0x0, 0x0, .common, false⟩,
  ⟨"MET_PAIR", 0x1000004, 1, 0x4, 1, 0x4, 0x0, 0xFFFFFFFF, 0x0, 0x0, 0x0, .common, false⟩,
  ⟨"MET_START", 0x1000008, 1, 0x4, 1, 0x4, 0x0, 0xFFFF, 0x0, 0x0, 0x0, .common, false⟩,
  ⟨"MET_CLEAR", 0x100000C, 1, 0x4, 1, 0x4, 0x0, 0x0, 0x0, 0x0, 0x0, .common, false⟩,
  ⟨"MET_WRAP", 0x1000010, 1, 0x4, 1, 0x4, 0x0, 0x0, 0xFFFF, 0x0, 0x0, .common, false⟩,
  ⟨"MET_TEMP", 0x1000014, 1, 0x4, 1, 0x4, 0x0, 0x0, 0x0, 0x0, 0x0, .common, false⟩,
  ⟨"MET_PCONST", 0x1000020, 1, 0x4, 1, 0x4, 0x0, 0x1FFFF, 0x0, 0x0, 0x0, .common, false⟩,
  ⟨"MET_PCFG", 0x1000024, 1, 0x4, 1, 0x4, 0x0, 0x3FFFF, 0x0, 0x0, 0x0, .common, false⟩,
  ⟨"MET_PSTAT", 0x1000028, 1, 0x4, 1, 0x4, 0x0, 0x0, 0x0, 0x0, 0x0, .common, false⟩,
  ⟨"MET_PCOUNT", 0x100002C, 1, 0x4, 1, 0x4, 0x0, 0x0, 0x0, 0x0, 0x0, .common, false⟩,
  ⟨"MET_VFS", 0x1000040, 4, 0x4, 1, 0x4, 0x0, 0xFFFFFFFF, 0x0, 0x0, 0x0, .common, false⟩,
  ⟨"MET_IFS", 0x1000050, 8, 0x4, 1, 0x4, 0x0, 0xFFFFFFFF, 0x0, 0x0, 0x0, .common, false⟩,
  ⟨"MET_TCOMP", 0x1000100, 17, 0x4, 1, 0x4, 0x0, 0xFFFFFFFF, 0x0, 0x0, 0x0, .common, false⟩,
  ⟨"MET_EVRMS", 0x1000200, 8, 0x20, 1, 0x4, 0x0, 0x0, 0x0, 0x0, 0x0, .common, false⟩,
  ⟨"MET_EIRMS", 0x1000204, 8, 0x20, 1, 0x4, 0x0, 0x0, 0x0, 0x0, 0x0, .common, false⟩,
  ⟨"MET_EPMEAN", 0x1000208, 8, 0x20, 1, 0x4, 0x0, 0x0, 0x0, 0x0, 0x0, .common, false⟩]
/-- The registers of block MET, part 1. -/
def regsMET1 : List RegDef := [
  ⟨"MET_ECREEP", 0x100020C, 8, 0x20, 1, 0x4, 0x0, 0x0, 0x0, 0x0, 0x0, .common, false⟩,
  ⟨"MET_SNAPSEQ", 0x1001004, 5, 0x100, 1, 0x4, 0x0, 0x0, 0x0, 0x0, 0x0, .common, false⟩,
  ⟨"MET_SNAPWRAP", 0x1001008, 5, 0x100, 1, 0x4, 0x0, 0x0, 0x0, 0x0, 0x0, .common, false⟩,
  ⟨"MET_SNAPT_NS", 0x100100C, 5, 0x100, 1, 0x4, 0x0, 0x0, 0x0, 0x0, 0x0, .common, false⟩,
  ⟨"MET_SNAPT_SEC", 0x1001010, 5, 0x100, 1, 0x4, 0x0, 0x0, 0x0, 0x0, 0x0, .common, false⟩,
  ⟨"MET_ACC_LO", 0x1001040, 5, 0x100, 16, 0x8, 0x0, 0x0, 0x0, 0x0, 0x0, .common, true⟩,
  ⟨"MET_ACC_HI", 0x1001044, 5, 0x100, 16, 0x8, 0x0, 0x0, 0x0, 0x0, 0x0, .common, false⟩,
  ⟨"MET_SNAP", 0x1001000, 5, 0x100, 1, 0x4, 0x0, 0x0, 0x0, 0x0, 0x0, .common, false⟩]
/-- The registers of block CAL, part 0. -/
def regsCAL0 : List RegDef := [
  ⟨"CAL_CTL", 0x1100000, 1, 0x4, 1, 0x4, 0x0, 0x0, 0x0, 0x0, 0x0, .common, false⟩,
  ⟨"CAL_STATUS", 0x1100004, 1, 0x4, 1, 0x4, 0x7800, 0x0, 0x0, 0x0, 0x0, .common, false⟩,
  ⟨"CAL_CFG", 0x1100008, 1, 0x4, 1, 0x4, 0x0, 0x3FFFF, 0x0, 0x0, 0x0, .initiator, false⟩,
  ⟨"CAL_REF", 0x110000C, 1, 0x4, 1, 0x4, 0x0, 0xFFFFFFFF, 0x0, 0x0, 0x0, .initiator, false⟩,
  ⟨"CAL_OPID", 0x1100010, 1, 0x4, 1, 0x4, 0x0, 0xFFFFFFFF, 0x0, 0x0, 0x0, .initiator, false⟩,
  ⟨"CAL_MEAS_A", 0x1100014, 1, 0x4, 1, 0x4, 0x0, 0x0, 0x0, 0x0, 0x0, .common, false⟩,
  ⟨"CAL_MEAS_B", 0x1100018, 1, 0x4, 1, 0x4, 0x0, 0x0, 0x0, 0x0, 0x0, .common, false⟩,
  ⟨"CAL_COEFSEL", 0x1100020, 1, 0x4, 1, 0x4, 0x0, 0xFF, 0x0, 0x0, 0x0, .initiator, false⟩,
  ⟨"CAL_COEF_G", 0x1100024, 1, 0x4, 1, 0x4, 0x0, 0x0, 0x0, 0x0, 0x0, .common, false⟩,
  ⟨"CAL_COEF_O", 0x1100028, 1, 0x4, 1, 0x4, 0x0, 0x0, 0x0, 0x0, 0x0, .common, false⟩,
  ⟨"CAL_COEF_P", 0x110002C, 1, 0x4, 1, 0x4, 0x0, 0x0, 0x0, 0x0, 0x0, .common, false⟩,
  ⟨"CAL_RECSEL", 0x1100030, 1, 0x4, 1, 0x4, 0x0, 0xFF, 0x0, 0x0, 0x0, .initiator, false⟩,
  ⟨"CAL_REC", 0x1100040, 8, 0x4, 1, 0x4, 0x0, 0x0, 0x0, 0x0, 0x0, .common, false⟩]
/-- The registers of block CKG, part 0. -/
def regsCKG0 : List RegDef := [
  ⟨"CKG_STATUS", 0x1200000, 1, 0x4, 1, 0x4, 0x0, 0x0, 0x8, 0x0, 0x0, .common, false⟩,
  ⟨"CKG_REFMON", 0x1200004, 1, 0x4, 1, 0x4, 0x64000000, 0x0, 0x0, 0x0, 0x0, .common, false⟩,
  ⟨"CKG_REFFAILS", 0x1200008, 1, 0x4, 1, 0x4, 0x0, 0x0, 0x0, 0x0, 0x0, .common, false⟩,
  ⟨"CKG_RSTCTL", 0x1200010, 1, 0x4, 1, 0x4, 0x0, 0x0, 0x0, 0x0, 0x0, .common, false⟩,
  ⟨"CKG_RSTSTAT", 0x1200014, 1, 0x4, 1, 0x4, 0x0, 0x0, 0x0, 0x0, 0x0, .common, false⟩,
  ⟨"CKG_WDCFG", 0x1200018, 1, 0x4, 1, 0x4, 0x7D0, 0xFFFF, 0x0, 0x0, 0x0, .common, false⟩,
  ⟨"CKG_WDKICK", 0x120001C, 1, 0x4, 1, 0x4, 0x0, 0x0, 0x0, 0x0, 0x0, .common, false⟩,
  ⟨"CKG_GATECMD", 0x1200020, 1, 0x4, 1, 0x4, 0x0, 0x0, 0x0, 0x0, 0x0, .common, false⟩,
  ⟨"CKG_GATESTAT", 0x1200024, 1, 0x4, 1, 0x4, 0x0, 0x0, 0x0, 0x0, 0x0, .common, false⟩,
  ⟨"CKG_GATED_LO", 0x1200028, 1, 0x4, 1, 0x4, 0x0, 0x0, 0x0, 0x0, 0x0, .common, true⟩,
  ⟨"CKG_GATED_HI", 0x120002C, 1, 0x4, 1, 0x4, 0x0, 0x0, 0x0, 0x0, 0x0, .common, false⟩,
  ⟨"CKG_WOKEN_LO", 0x1200030, 1, 0x4, 1, 0x4, 0x0, 0x0, 0xFFFFFFFF, 0x0, 0x0, .common, false⟩,
  ⟨"CKG_WOKEN_HI", 0x1200034, 1, 0x4, 1, 0x4, 0x0, 0x0, 0xFF, 0x0, 0x0, .common, false⟩,
  ⟨"CKG_STRAP", 0x1200040, 1, 0x4, 1, 0x4, 0x0, 0x0, 0x0, 0x0, 0x0, .common, false⟩,
  ⟨"CKG_BOOT", 0x1200044, 1, 0x4, 1, 0x4, 0x30000, 0x0, 0x0, 0x0, 0x0, .common, false⟩,
  ⟨"CKG_BOOTTIME", 0x1200048, 1, 0x4, 1, 0x4, 0x0, 0x0, 0x0, 0x0, 0x0, .common, false⟩]
/-- The registers of block CKG, part 1. -/
def regsCKG1 : List RegDef := [
  ⟨"CKG_BOOTSTEP", 0x120004C, 1, 0x4, 1, 0x4, 0x0, 0x0, 0x0, 0x0, 0x0, .common, false⟩]
/-- The registers of block CSW, part 0. -/
def regsCSW0 : List RegDef := [
  ⟨"CSW_STATUS", 0x1300000, 1, 0x4, 1, 0x4, 0x70000, 0x0, 0xC00, 0x0, 0x0, .common, false⟩,
  ⟨"CSW_CMD", 0x1300004, 1, 0x4, 1, 0x4, 0x0, 0x0, 0x0, 0x0, 0x0, .common, false⟩,
  ⟨"CSW_RENEW", 0x1300008, 1, 0x4, 1, 0x4, 0x0, 0x0, 0x0, 0x0, 0x0, .common, false⟩,
  ⟨"CSW_EPOCH", 0x130000C, 1, 0x4, 1, 0x4, 0x0, 0x0, 0x0, 0x0, 0x0, .common, false⟩,
  ⟨"CSW_VER", 0x1300010, 1, 0x4, 1, 0x4, 0x100, 0x0, 0x0, 0x0, 0x0, .common, false⟩,
  ⟨"CSW_DIAG", 0x1300014, 1, 0x4, 1, 0x4, 0x0, 0x3F07, 0x0, 0x0, 0x0, .common, false⟩,
  ⟨"CSW_SYNC", 0x1300018, 1, 0x4, 1, 0x4, 0x0, 0x0, 0x80000000, 0x0, 0x0, .common, false⟩,
  ⟨"CSW_CNT", 0x1300020, 6, 0x4, 1, 0x4, 0x0, 0x0, 0x0, 0x0, 0x0, .common, false⟩]
/-- The registers of block LCS, part 0. -/
def regsLCS0 : List RegDef := [
  ⟨"LCS_STATE", 0x1400000, 1, 0x4, 1, 0x4, 0x0, 0x0, 0x0, 0x0, 0x0, .common, false⟩,
  ⟨"LCS_SERIAL_LO", 0x1400004, 1, 0x4, 1, 0x4, 0x0, 0x0, 0x0, 0x0, 0x0, .common, true⟩,
  ⟨"LCS_SERIAL_HI", 0x1400008, 1, 0x4, 1, 0x4, 0x0, 0x0, 0x0, 0x0, 0x0, .common, false⟩,
  ⟨"LCS_SVN", 0x140000C, 1, 0x4, 1, 0x4, 0x0, 0x0, 0x0, 0x0, 0x0, .common, false⟩,
  ⟨"LCS_KEYS", 0x1400010, 1, 0x4, 1, 0x4, 0x0, 0x0, 0x0, 0x0, 0x0, .common, false⟩,
  ⟨"LCS_KSEQ", 0x1400014, 1, 0x4, 1, 0x4, 0x0, 0x0, 0x0, 0x0, 0x0, .common, false⟩]
/-- The registers of block UPD, part 0. -/
def regsUPD0 : List RegDef := [
  ⟨"UPD_STATUS", 0x1500000, 1, 0x4, 1, 0x4, 0x0, 0x0, 0x0, 0x0, 0x0, .common, false⟩,
  ⟨"UPD_BLOCKS", 0x1500004, 1, 0x4, 1, 0x4, 0x0, 0x0, 0x0, 0x0, 0x0, .common, false⟩,
  ⟨"UPD_BOOTPTR", 0x1500008, 1, 0x4, 1, 0x4, 0x0, 0x0, 0x0, 0x0, 0x0, .common, false⟩,
  ⟨"UPD_BOOTSEQ", 0x150000C, 1, 0x4, 1, 0x4, 0x0, 0x0, 0x0, 0x0, 0x0, .common, false⟩,
  ⟨"UPD_SVER", 0x1500010, 4, 0x8, 1, 0x4, 0x0, 0x0, 0x0, 0x0, 0x0, .common, false⟩,
  ⟨"UPD_SINFO", 0x1500014, 4, 0x8, 1, 0x4, 0x0, 0x0, 0x0, 0x0, 0x0, .common, false⟩,
  ⟨"UPD_IFVER", 0x1500030, 1, 0x4, 1, 0x4, 0x1000000, 0x0, 0x0, 0x0, 0x0, .common, false⟩,
  ⟨"UPD_IFRUN", 0x1500034, 1, 0x4, 1, 0x4, 0x0, 0x0, 0x0, 0x0, 0x0, .common, false⟩,
  ⟨"UPD_MISMATCH", 0x1500038, 1, 0x4, 1, 0x4, 0x0, 0x0, 0x0, 0x0, 0x0, .common, false⟩,
  ⟨"UPD_MMRANGE", 0x150003C, 1, 0x4, 1, 0x4, 0x0, 0x0, 0x0, 0x0, 0x0, .common, false⟩,
  ⟨"UPD_SPCNT", 0x1500040, 4, 0x4, 1, 0x4, 0x0, 0x0, 0x0, 0x0, 0x0, .common, false⟩]
/-- The registers of block PMC, part 0. -/
def regsPMC0 : List RegDef := [
  ⟨"PMC_STATUS", 0x1600000, 1, 0x4, 1, 0x4, 0x0, 0x0, 0x0, 0x0, 0x0, .district, false⟩,
  ⟨"PMC_PERM", 0x1600004, 1, 0x4, 1, 0x4, 0x0, 0xF, 0x0, 0x0, 0x0, .common, false⟩,
  ⟨"PMC_SEL", 0x1600010, 1, 0x4, 1, 0x4, 0x0, 0x1F7F00FF, 0x0, 0x0, 0x0, .initiator, false⟩,
  ⟨"PMC_VAL_LO", 0x1600014, 1, 0x4, 1, 0x4, 0x0, 0x0, 0x0, 0x0, 0x0, .common, true⟩,
  ⟨"PMC_VAL_HI", 0x1600018, 1, 0x4, 1, 0x4, 0x0, 0x0, 0x0, 0x0, 0x0, .common, false⟩,
  ⟨"PMC_BWCFG", 0x1600020, 1, 0x4, 1, 0x4, 0x3E8, 0x8000FFFF, 0x0, 0x0, 0x0, .common, false⟩,
  ⟨"PMC_BWSEQ", 0x1600024, 1, 0x4, 1, 0x4, 0x0, 0x0, 0x0, 0x0, 0x0, .common, false⟩,
  ⟨"PMC_BW_PORT", 0x1601000, 64, 0x8, 2, 0x4, 0x0, 0x0, 0x0, 0x0, 0x0, .common, false⟩,
  ⟨"PMC_BW_HOST", 0x1601400, 4, 0x8, 2, 0x4, 0x0, 0x0, 0x0, 0x0, 0x0, .common, false⟩,
  ⟨"PMC_BW_CHAN", 0x1601800, 32, 0x8, 2, 0x4, 0x0, 0x0, 0x0, 0x0, 0x0, .common, false⟩,
  ⟨"PMC_PIN", 0x1602000, 5, 0x200, 64, 0x4, 0x0, 0x9F7F00FF, 0x0, 0x0, 0x0, .common, false⟩,
  ⟨"PMC_UVAL_LO", 0x1610000, 5, 0x1000, 64, 0x8, 0x0, 0x0, 0x0, 0x0, 0x0, .common, true⟩,
  ⟨"PMC_UVAL_HI", 0x1610004, 5, 0x1000, 64, 0x8, 0x0, 0x0, 0x0, 0x0, 0x0, .common, false⟩]
/-- The registers of block ERR, part 0. -/
def regsERR0 : List RegDef := [
  ⟨"ERR_SEQ", 0x1700000, 1, 0x4, 1, 0x4, 0x0, 0x0, 0x0, 0x0, 0x0, .common, false⟩,
  ⟨"ERR_NMISRC", 0x1700004, 1, 0x4, 1, 0x4, 0x0, 0x0, 0x3, 0x0, 0x0, .common, false⟩,
  ⟨"ERR_INJECT", 0x1700008, 1, 0x4, 1, 0x4, 0x0, 0x0, 0x0, 0x0, 0x0, .common, false⟩,
  ⟨"ERR_LASTFATAL", 0x1700040, 8, 0x4, 1, 0x4, 0x0, 0x0, 0x0, 0x0, 0x0, .common, false⟩,
  ⟨"ERR_DSTATUS", 0x1700100, 5, 0x40, 1, 0x4, 0x0, 0x0, 0x100, 0x0, 0x0, .common, false⟩,
  ⟨"ERR_POP", 0x1700104, 5, 0x40, 1, 0x4, 0x0, 0x0, 0x0, 0x0, 0x0, .common, false⟩,
  ⟨"ERR_REC", 0x1700108, 5, 0x40, 7, 0x4, 0x0, 0x0, 0x0, 0x0, 0x0, .initiator, false⟩]

/-- The registers of the block with number `b` (block base divided by 0x010_0000, R518). -/
def blockRegs : Nat → List RegDef
  | 0 => regsHST0 ++ regsHST1
  | 1 => regsTPL0
  | 2 => regsLOT0 ++ regsLOT1
  | 3 => regsING0
  | 4 => regsPLZ0 ++ regsPLZ1 ++ regsPLZ2
  | 5 => regsBLV0 ++ regsBLV1
  | 6 => regsAVE0 ++ regsAVE1
  | 7 => regsLMS0 ++ regsLMS1
  | 8 => regsPRT0 ++ regsPRT1
  | 9 => regsCLT0 ++ regsCLT1
  | 10 => regsFXE0 ++ regsFXE1
  | 11 => regsSCH0 ++ regsSCH1
  | 12 => regsQUE0
  | 13 => regsMBX0
  | 14 => regsXNG0
  | 15 => regsKRB0 ++ regsKRB1
  | 16 => regsMET0 ++ regsMET1
  | 17 => regsCAL0
  | 18 => regsCKG0 ++ regsCKG1
  | 19 => regsCSW0
  | 20 => regsLCS0
  | 21 => regsUPD0
  | 22 => regsPMC0
  | 23 => regsERR0
  | _ => []

/-- True when offset `a` is one of the registers of row `d`. -/
def RegDef.hits (d : RegDef) (a : Nat) : Bool :=
  d.lo ≤ a && (a - d.lo) / d.s1 < d.n1 && ((a - d.lo) % d.s1) / d.s2 < d.n2 && ((a - d.lo) % d.s1) % d.s2 == 0

/-- The row of the register map that holds offset `a`; none at a reserved offset. -/
def regAt (a : Nat) : Option RegDef := (blockRegs (a / 0x100000)).find? (fun d => d.hits a)

/-- The reset value of the register under key `k` (R25); 0 at a reserved offset (R23). -/
def regReset (k : Nat) : Word32 :=
  match regAt (k % 0x4000000) with
  | some d => BitVec.ofNat 32 d.reset
  | none => 0

end Sys2Proof.Machine
end

