-- ==== Sys2Proof/Machine/Blocks.lean ====
section
/-! DEFINITION. The plain-data types of the device's engines: what each block holds beside its register words. -/

namespace Sys2Proof.Machine

/-! ### Error records and counters (Counters, Trace and Error Reporting) -/

/-- An error record (R522). `sev` holds bits [2:0] and ALL of the SEV byte as `sev`, `device` and `all`. -/
structure ErrRec where
  block : Nat := 0
  code : Nat := 0
  init : Nat := 0xFF
  sev : Nat := 0
  device : Bool := false
  all : Bool := false
  more : Bool := false
  seq : Nat := 0
  ns : Nat := 0
  sec : Nat := 0
  dist : Nat := 0xFF
  addr : Nat := 0
deriving DecidableEq, Repr

/-- The error collector and the event counters. -/
structure ErrState where
  /-- record buffers of the blocks, oldest first (R523) -/
  bufs : Tab (List ErrRec) := []
  /-- the district logs, oldest first (R525) -/
  logs : Tab (List ErrRec) := []
  /-- block of the last record taken (R523) -/
  last : Nat := 23
  /-- the time of a device-fatal event whose reset is due (R526) -/
  fatalAt : Option Nat := none
deriving DecidableEq, Repr

/-- The performance counters. -/
structure PmcState where
  /-- the event counters, keyed by BLOCK, INST and EVENT (R517, R518) -/
  cnt : Tab Nat := []
  /-- bytes counted in the window under way, keyed by the register of the quantity (R521) -/
  bw : Tab Nat := []
  /-- the start of the window under way -/
  winStart : Nat := 0
  /-- the frame in which the window under way began -/
  winFrame : Word32 := 0
  /-- the configuration of the window under way (R521: a write takes effect at the next window end) -/
  cfg : Word32 := 0x3E8
deriving DecidableEq, Repr

/-! ### Queue Bank and mailboxes -/

/-- One lane of a queue (R353), with its mark (R358) and the shadow copies of its pointers (R360). -/
structure Lane where
  wp : Nat := 0
  rp : Nat := 0
  mark : Nat := 0
  wp' : Nat := 0
  rp' : Nat := 0
  mark' : Nat := 0
  markValid : Bool := false
  markEver : Bool := false
  slots : Tab (List Word32) := []
deriving DecidableEq, Repr

/-- The Queue Bank and the firmware end of the mailboxes. -/
structure QueState where
  /-- the lanes, keyed by 8 × queue ID + lane (R352) -/
  lanes : Tab Lane := []
  /-- posted entries that the peer has mirrored, by lane and pointer: their completions are discarded (R484) -/
  mirrored : List (Nat × Nat) := []
  /-- F2H replies that firmware keeps pending, oldest first, by district (R365) -/
  replies : Tab (List (List Word32)) := []
  /-- the count firmware wrote last to each MBX_FWHB since Reset (R366) -/
  beat : Tab Word32 := []
deriving DecidableEq, Repr

/-! ### Host ports and the Crossing -/

/-- One PCI Express function and its link (R372 to R378). -/
structure HostPort where
  /-- the link is trained -/
  link : Bool := false
  /-- the function is in D3hot -/
  d3 : Bool := false
  /-- Bus Master Enable -/
  bme : Bool := false
  /-- MSI-X Enable -/
  msixEn : Bool := false
  /-- MSI-X Function Mask -/
  fmask : Bool := false
  /-- Max Payload Size and Max Read Request Size, in bytes -/
  mps : Nat := 128
  mrrs : Nat := 512
  /-- vectors whose mask bit is 0 -/
  unmasked : Tab Bool := []
  /-- vectors whose pending bit is 1 -/
  pend : Tab Bool := []
  /-- the MSI-X table's address and data dwords, by byte offset in BAR4 -/
  table : Tab Word32 := []
  /-- the AER uncorrectable error status -/
  aer : Word32 := 0
  /-- negotiated link width and generation -/
  width : Nat := 0
  gen : Nat := 0
  /-- BAR0 accesses received and not performed, oldest first: the first is a write that the Crossing answers with retry
  (R375) -/
  queue : List Acc := []
  /-- BAR0 reads of Crossing blocks not completed, oldest first: the first is presented (R387) -/
  reads : List Nat := []
  /-- the DMA engine that made the last transfer (R382) -/
  last : Nat := 3
deriving DecidableEq, Repr

/-- A descriptor ring's engine beside its registers: event timing (R284, R379) and the descriptor in hand. -/
structure RingState where
  /-- time of the last event raised -/
  lastEvt : Option Nat := none
  /-- an event waits for the interval to pass -/
  evtDue : Bool := false
deriving DecidableEq, Repr

/-- A DMA engine's descriptor in progress (R381 to R383). -/
structure DmaState where
  busy : Bool := false
  /-- the descriptor's bytes as posted -/
  desc : List Byte := []
  /-- bytes whose transfers have been made: read requests issued, or writes sent (R382) -/
  asked : Nat := 0
  /-- bytes moved so far -/
  moved : Nat := 0
  /-- poisoned data has been moved -/
  poison : Bool := false
  /-- read requests not completed, oldest first: bytes still due, and whether their completions are discarded since the
  descriptor has ended or the engine has been reset (R383, R384) -/
  due : List (Nat × Bool) := []
deriving DecidableEq, Repr

/-- What an input's read slot in the Crossing holds (R388). -/
inductive XSlotSt where
  /-- no read open, no copy held -/
  | empty
  /-- the far-side fetch is under way -/
  | waiting
  /-- the data has come -/
  | held
  /-- the read ended in an error of this code (R390, R396) -/
  | failed (code : Nat)
deriving DecidableEq, Repr

/-- An input's read slot (R388, R392). -/
structure XSlot where
  st : XSlotSt := .empty
  /-- the address asked for -/
  addr : Nat := 0
  /-- a whole line was fetched (PREFETCHABLE) -/
  line : Bool := false
  /-- the dword or the sixteen dwords of the line -/
  data : List Word32 := []
  /-- for each dword of a line, whether it has been returned -/
  used : List Bool := []
  /-- when the data arrived -/
  since : Nat := 0
  /-- the requested dword has been returned, or its reader has been reset; the line is only held -/
  answered : Bool := false
deriving DecidableEq, Repr

/-- An access in a far-side queue (R389). -/
structure FarReq where
  input : Nat
  write : Bool
  addr : Nat
  data : Word32 := 0
  line : Bool := false
  /-- when it came to the front of its queue -/
  since : Nat := 0
  /-- the read's initiator has been reset (R393) -/
  orphan : Bool := false
deriving DecidableEq, Repr

/-- A record of an XNG error log or lost-read log. -/
structure XRec where
  w0 : Word32 := 0
  w1 : Word32 := 0
  w2 : Word32 := 0
  w3 : Word32 := 0
deriving DecidableEq, Repr

/-- The Crossing. -/
structure XngState where
  /-- the last granted input (R386) -/
  last : Nat := 21
  slots : Tab XSlot := []
  /-- accesses in the Kerb link's queue, oldest first -/
  kerb : List FarReq := []
  /-- accesses in the external service bus's queue, oldest first -/
  esb : List FarReq := []
  /-- the far sides each stopped input is stopped towards (true: Kerb link) (R396) -/
  stoppedSide : Tab (List Bool) := []
  /-- semaphore owners, by semaphore (R397) -/
  sems : Tab InitId := []
  /-- the error logs and the lost-read logs of the slots, oldest first (R393, R396) -/
  logs : Tab (List XRec) := []
  lost : Tab (List XRec) := []
deriving DecidableEq, Repr

/-! ### Operating modes (Architecture and Operating Modes) -/

/-- The six operating modes (R5). -/
inductive Mode where
  | reset
  | boot
  | standby
  | active
  | maintenance
  | safe
deriving DecidableEq, Repr

/-- A transition accepted and not yet in effect (R36). -/
structure PendMode where
  target : Mode
  cause : Nat
  /-- frame boundaries still to come before it takes effect -/
  bounds : Nat
  /-- it waits for a pending full apply first (R83) -/
  afterApply : Bool := false
deriving DecidableEq, Repr

/-- The mode controller. -/
structure ModeState where
  mode : Mode := .reset
  prev : Mode := .reset
  cause : Nat := 0
  pend : Option PendMode := none
deriving DecidableEq, Repr

/-! ### The Town Plan's loading (The Town Plan) -/

/-- TPL_STATUS.STATE (R88). -/
inductive TplSt where
  | idle
  | opened
  | validating
  | valid
  | invalid
  | applying
deriving DecidableEq, Repr

/-- Lots an apply needs for a set that is new, replaced or moved (R82, R98). -/
structure Want where
  id : Nat
  dist : Nat
  sq : Bool
  lots : Nat
  /-- the set is kept and its contents are copied into the new lots (R82) -/
  move : Bool := false
deriving DecidableEq, Repr

/-- A plan found valid: the plan in the form in which it takes effect (a live plan merged with the plan in force), the
canvases, universes and sets that a live plan touches, and its image in clear, without envelope. -/
structure Checked where
  plan : Plan := {}
  live : Bool := false
  touched : List Nat := []
  unis : List Nat := []
  newSets : List Nat := []
  image : List Byte := []
deriving DecidableEq, Repr

/-- An apply under way (R82 to R85). -/
structure PendApply where
  chk : Checked
  /-- district that issued the APPLY -/
  dist : Nat
  /-- the resident plan of the start (R554) -/
  resident : Bool := false
  /-- allocation is complete -/
  allocated : Bool := false
  /-- the allocations the apply makes, in ascending (DIST, SET_ID) (R98) -/
  wants : List Want := []
  /-- sets that wait to be copied into the other memory (R82) -/
  moves : List Nat := []
  /-- handles newly allocated, by set -/
  grants : List (Nat × List Nat) := []
  /-- base slots of the new sets (R107) -/
  bases : List (Nat × Nat) := []
  /-- frame boundaries still to come once allocation and copies are complete -/
  bounds : Nat := 1
deriving DecidableEq, Repr

/-- A lot set in existence. -/
structure LotSet where
  id : Nat
  dist : Nat
  cls : Nat
  place : Nat
  inSq : Bool
  handles : List Nat
  /-- base slot of its BAR2 window; 0xFFFF for none (R105, R107) -/
  base : Nat
  /-- promoted to Square by migration (R113, R115) -/
  promoted : Bool := false
deriving DecidableEq, Repr

/-- What governs the frames that were under way when a live apply took effect (R110, R219): the frame that the new plan
first governs, the plan before it, its sets and the active settings of the tiles. -/
structure Hist where
  frame : Word32
  plan : Plan
  sets : List LotSet
  tiles : Tab (List Word32) := []
  /-- MGENs of all canvases before the apply (R237) -/
  mgens : Tab Nat := []
deriving DecidableEq, Repr

/-- The TPL block beside its registers. -/
structure TplState where
  st : TplSt := .idle
  owner : Option Nat := none
  /-- the zero-fill of the released staging set is under way (R80) -/
  zeroFill : Bool := false
  /-- the house district holds the staging set for the resident plan (R554) -/
  houseHold : Bool := false
  /-- the plan found valid by the last VALIDATE -/
  checked : Option Checked := none
  pend : Option PendApply := none

deriving DecidableEq, Repr

/-! ### The Lot Manager (Lots, Districts and Placement) -/

/-- Why an allocation request waits. -/
inductive WaitFor where
  /-- the shared pool (R101) -/
  | pool
  /-- zero-fill of lots freed earlier (R95) -/
  | zeroFill
  /-- demotion of the district's own promoted sets (R115) -/
  | demotion
deriving DecidableEq, Repr

/-- A waiting allocation request (R98 to R101). -/
structure WaitReq where
  dist : Nat
  /-- request slot of a run-time request; none for a live apply -/
  slot : Option Nat
  lots : Nat
  sq : Bool
  base : Nat
  why : WaitFor
  /-- for a live apply: lots of each (district, Square?) -/
  parts : List (Nat × Bool × Nat) := []
  /-- the request is head (R101) -/
  isHead : Bool := false
deriving DecidableEq, Repr

/-- What the one copy path is copying (R114, R124, R125). -/
inductive CopyKind where
  /-- promotion of a set into Square -/
  | promote
  /-- demotion of a set into DRAM -/
  | demote
  /-- retirement of the frame of one handle into a spare frame -/
  | retire (handle spare : Nat)
deriving DecidableEq, Repr

/-- A copy in progress. -/
structure Copy where
  kind : CopyKind
  setId : Nat := 0
  newHandles : List Nat := []
  /-- the copy is complete and waits for the frame boundary -/
  done : Bool := false
  /-- a frame boundary has come since the copy completed -/
  ready : Bool := false
deriving DecidableEq, Repr

/-- The Lot Manager. -/
structure LotState where
  /-- the sets in existence, by rising SET_ID -/
  sets : List LotSet := []
  /-- free, zero-filled handles as ranges [lo, hi), DRAM and Square -/
  freeD : List (Nat × Nat) := [(0, 0x1FFC)]
  freeQ : List (Nat × Nat) := [(0x8000, 0x8040)]
  /-- handles being zero-filled (R104) -/
  scrub : List Nat := []
  /-- frame of each handle where it is not the one of its number (R91, R124) -/
  frame : Tab Nat := []
  /-- waiting requests, oldest first -/
  waiting : List WaitReq := []
  credit : Tab Nat := []
  last : Nat := 7
  copy : Option Copy := none
  /-- DRAM frames due for retirement, oldest first (R124, R125) -/
  retireQ : List Nat := []
  /-- spare frames used since manufacture -/
  spares : Nat := 0
  /-- frame boundaries since the last migration evaluation -/
  sinceEval : Nat := 0
  /-- 64-byte blocks corrected in this patrol cycle, per frame (R124) -/
  corrected : Tab (List Nat) := []
  /-- poisoned 64-byte blocks: frame × 32,768 + block (R122, R123) -/
  poison : List Nat := []
  /-- refreshes owed, per DRAM channel (R121) -/
  owed : Tab Nat := []
  /-- end of the refresh under way, per channel -/
  refreshEnd : Tab Nat := []
  powerDown : Tab Bool := []
deriving DecidableEq, Repr

/-! ### Network ports: transmit sources -/

/-- What a preemptable frame carries (R269, R271). -/
inductive TxTag where
  /-- slice `i` of frame `n` of a tile -/
  | slice (tile : Nat) (n : Word32) (i : Nat)
  | frameEnd (tile : Nat) (n : Word32)
  | heartbeat
  | notice
  /-- a segment of the control-queue item of a tile; `last` on its final segment -/
  | control (tile tsn : Nat) (last : Bool)
  /-- a session message (RESYNC) -/
  | session (tile : Nat)
  | sacn (uni : Nat)
  | internal
  /-- a frame of transmit ring `r`; `last` on the descriptor's final frame -/
  | ring (r : Nat) (last : Bool)
  /-- a frame of a transmit ring that has been disabled or reset since it started (R274, R283) -/
  | orphan
deriving DecidableEq, Repr

/-- A frame waiting for or in transmission, without its FCS. -/
structure TxFrame where
  tag : TxTag
  bytes : List Byte
deriving DecidableEq, Repr

/-- A packet of the Fixture Engine that waits for a port (R315): the data packet of a universe, or the synchronisation
packet of a group. -/
structure SacnItem where
  /-- the universe, or the synchronisation universe -/
  uni : Nat
  sync : Bool := false
  vals : List Byte := []
  /-- from the zero set (R320) -/
  zero : Bool := false
  /-- Stream_Terminated (R319) -/
  term : Bool := false
  /-- the frame the packet belongs to -/
  n : Word32 := 0
deriving DecidableEq, Repr

/-- An express frame (R269): a BLACKOUT as pre-staged, or an event message of the PTP engine, built as it leaves. -/
inductive ExpItem where
  | blackout (bytes : List Byte)
  | sync
  | delayReq
deriving DecidableEq, Repr

/-- The descriptor a transmit ring has in hand (R279 to R282). -/
structure RingTx where
  busy : Bool := false
  desc : List Byte := []
  frames : List TxFrame := []
  sent : Nat := 0
  /-- status of the write-back: a later segment's data may be poisoned (R280) -/
  endCode : Nat := 0
  /-- transmit timestamp of the first frame: seconds and nanoseconds -/
  tsSec : Nat := 0
  tsNs : Nat := 0
deriving DecidableEq, Repr

/-- One port's transmitter beside its registers. -/
structure PortTx where
  /-- the preemptable frame in transmission; its bytes sent before the last express frame, and when it starts or goes on
  (R270) -/
  cur : Option TxFrame := none
  gone : Nat := 0
  since : Nat := 0
  /-- zero sets, ahead of every other preemptable frame (R320) -/
  zeros : List SacnItem := []
  /-- waiting packets of the Fixture Engine, and frames of the internal sources -/
  fxe : List SacnItem := []
  internal : List TxFrame := []
  rings : Tab RingTx := []
  /-- Avenue frames in a row since the last frame of another source (R271) -/
  aveRun : Nat := 0
  /-- source served last among Fixture Engine, internal, rings 0 to 3 -/
  rr : Nat := 5
  /-- express frames that wait for a frame boundary (R269) -/
  expQ : List ExpItem := []
  /-- end of the express frame in transmission, and which it is -/
  expEnd : Nat := 0
  expCur : Option ExpItem := none
deriving DecidableEq, Repr

/-! ### Video ingress -/

/-- A host-written frame descriptor (R143). -/
structure HdDesc where
  setId : Nat
  off : Nat
  pitch : Nat
  tag : Nat
deriving DecidableEq, Repr

/-- A packet held in the reconstruction window (R141). -/
structure HeldPkt where
  seq : Nat
  at_ : Nat
  /-- RTP timestamp, marker and the payload after the extended sequence number -/
  ts : Nat
  marker : Bool
  payload : List Byte
deriving DecidableEq, Repr

/-- A sequence number received within the last millisecond, and the paths it came on (R141). -/
structure SeenSeq where
  seq : Nat
  at_ : Nat
  a : Bool
  b : Bool
  /-- its window has passed; its packet still waits (R141) -/
  aged : Bool := false
deriving DecidableEq, Repr

/-- One video input beside its registers. -/
structure IngIn where
  /-- the newest complete frame not yet presented, its timestamp or TAG (R151) -/
  newest : Option Nat := none
  newestTs : Nat := 0
  /-- frames completed since the last boundary -/
  done : Nat := 0
  writing : Nat := 0
  /-- RTP timestamp of the frame being assembled; none between frames (R139) -/
  ts : Option Nat := none
  /-- timestamp of the last frame that ended -/
  lastTs : Option Nat := none
  /-- next sequence number expected -/
  next : Option Nat := none
  /-- a sequence gap lies in the frame (R139) -/
  gap : Bool := false
  /-- pixels written in the frame, as disjoint ranges of y × WIDTH + x -/
  written : List (Nat × Nat) := []
  /-- sequence numbers taken in the frame (R138) -/
  taken : List Nat := []
  /-- chroma and luma codes of the frame's 4:2:2 pgroups, for the pixels between two chroma samples (R146) -/
  raw : Tab (Nat × Nat × Nat × Nat) := []
  held : List HeldPkt := []
  seen : List SeenSeq := []
  /-- time of the last valid packet on each path -/
  lastA : Option Nat := none
  lastB : Option Nat := none
  /-- completion times of the last complete frames, newest first, in TICK cycles -/
  times : List Nat := []
  /-- ROOT time of the last complete frame, or of enabling -/
  lastDone : Nat := 0
  hd : List HdDesc := []
  /-- memberships reported: port and group (R135) -/
  joined : List (Nat × Nat) := []
  /-- timestamps of frames to come that have lost a packet at a full buffer (R140) -/
  hurt : List Nat := []
  /-- a frame has started since the flag was cleared (R212) -/
  fresh : Bool := false
  /-- layers that use the input are transparent (R153), as of the last boundary -/
  blank : Bool := true
deriving DecidableEq, Repr

/-! ### Plaza Composition -/

/-- One Plaza beside its registers. Layer settings are the six words of a layer's register group; key 16 stands for the
two words of the background. -/
structure PlzState where
  /-- pending copies (R165) -/
  pend : Tab (List Word32) := []
  /-- partners reserved by pending copies and lent to active ones, by ganged layer (R162) -/
  resv : Tab Nat := []
  lent : Tab Nat := []
  /-- layers disabled because their partner was withdrawn (R170) -/
  off : List Nat := []
  /-- copies latched for the next frame of a cut-through canvas, whose number is not known yet (R167) -/
  due : List Nat := []
  /-- the settings that govern the frame in progress (R167) -/
  cur : Tab (List Word32) := []
  /-- a frame is being composed, its number, and the next row -/
  composing : Bool := false
  frame : Word32 := 0
  next : Nat := 0
  /-- the frame in progress is the re-timing gap (R219) -/
  gap : Bool := false
  /-- layers that have underrun in the frame, and the pixel index from which they are transparent (R172) -/
  under : Tab Nat := []
  /-- poisoned source blocks met in the frame, by layer (R173) -/
  poisoned : List (Nat × Nat) := []
  /-- writeback is on for the frame; its rows are dropped from here on (R174, R175) -/
  wbOn : Bool := false
  wbDrop : Bool := false
  /-- composed rows of the writeback row under way -/
  wbRows : List (List Byte) := []
deriving DecidableEq, Repr

/-- One witness window beside its registers (R176). -/
structure WitState where
  /-- CRC register over the pixels so far -/
  crc : Nat := 0xFFFFFFFF
  /-- the expected value that governs the frame in progress -/
  expect : Word32 := 0
deriving DecidableEq, Repr

/-! ### Boulevards -/

/-- A run that a Boulevard has to process for a frame (R193). -/
structure RunJob where
  n : Word32
  tile : Nat
  k : Nat
  blv : Nat
  plaza : Nat
deriving DecidableEq, Repr

/-- The Boulevards beside their registers. -/
structure BlvState where
  /-- the last frame of each canvas handed to the Boulevards -/
  frame : Tab Word32 := []
  /-- eligible runs not finished -/
  todo : List RunJob := []
  /-- the run each Boulevard is processing -/
  cur : Tab RunJob := []
  /-- pending copies of tiles: the words of MASTER, WHITE and SEL (R196) -/
  pend : Tab (List Word32) := []
  /-- canvases with a global master written since the last sample point (R198) -/
  gpend : Tab Bool := []
deriving DecidableEq, Repr

/-! ### Avenues -/

/-- A slice held in the slice buffer. -/
structure HeldSlice where
  i : Nat
  bytes : List Byte
  at_ : Nat := 0
  /-- a cut-through slice's hold-back is over (R213) -/
  go : Bool := true
deriving DecidableEq, Repr

/-- A tile's frame being sent. -/
structure TileJob where
  tile : Nat
  n : Word32
  cut : Bool
  total : Nat
  /-- next slice to start, and next framed slice to fetch -/
  next : Nat := 0
  fetch : Nat := 0
  sent : Nat := 0
  held : List HeldSlice := []
  dropped : List Nat := []
  /-- slices from this one on are abandoned: it is poisoned (R217) -/
  stop : Option Nat := none
deriving DecidableEq, Repr

/-- Slices of the job that can still be sent end here. -/
def TileJob.limit (j : TileJob) : Nat := j.stop.getD j.total

/-- An item of the first class of R209, or a FRAME_END. -/
inductive AveItem where
  | heartbeat (n : Word32) (sec ns : Nat) (final : Bool)
  | notice (tile : Nat) (m : Word32)
  | frameEnd (tile : Nat) (n : Word32) (cause sent : Nat)
deriving DecidableEq, Repr

/-- A MODE_NOTICE. -/
def AveItem.isNotice : AveItem → Bool
  | .notice _ _ => true
  | _ => false

/-- A frame of a port whose slices are not yet all sent or abandoned. -/
structure AveFrame where
  n : Word32
  left : List Nat
  /-- a slice of the frame has been abandoned -/
  lost : Bool := false
  /-- the deadline of the tile finished last, in nanoseconds of PTP time -/
  due : Nat := 0
deriving DecidableEq, Repr

/-- One Avenue beside its registers. -/
structure AvePort where
  jobs : List TileJob := []
  items : List AveItem := []
  ends : List AveItem := []
  frames : List AveFrame := []
  /-- tile frames recorded as incomplete (R217: only the first cause counts) -/
  bad : List (Nat × Word32) := []
  /-- slices sent since the last control item (R249) -/
  sinceCtl : Nat := 0
  /-- frame ticks taken without a slip since the generator started (R208) -/
  ticks : Nat := 0
  /-- largest hold-back of the frame under way (R213) -/
  hold : Nat := 0
deriving DecidableEq, Repr

/-- The Avenues' view of a canvas. -/
structure AveCanvas where
  /-- number of the last frame of a cut-through canvas since enable or gap (R212) -/
  prev : Option Word32 := none
  /-- presentation times of the latest frames, in nanoseconds of PTP time (R205) -/
  pres : List (Word32 × Nat) := []
  mgen : Nat := 0
  /-- the next cut-through frame is the first after a gap or slip -/
  mark : Bool := false
deriving DecidableEq, Repr

/-- The Avenues. -/
structure AveState where
  ports : Tab AvePort := []
  canvases : Tab AveCanvas := []
  /-- first frame sent since Active was entered or a blackout released (R211, R236) -/
  first : Word32 := 0
  /-- next SEQ by port × 65,536 + destination (R228); 0xFFFF stands for the heartbeat address -/
  seq : Tab Nat := []
deriving DecidableEq, Repr

/-! ### Fixture Engine -/

/-- A district's buffer registration (R311). -/
structure FxeBuf where
  set : Nat
  base : Nat
  count : Nat
  bank : Nat
deriving DecidableEq, Repr

/-- An RDM exchange (R323, R324). -/
structure Rdm where
  expect : Nat
  bytes : List Byte
  /-- end of the request, once it has been sent -/
  sent : Option Nat := none
  /-- its district has been reset: the response is discarded (R325) -/
  discard : Bool := false
deriving DecidableEq, Repr

/-- One DMX port beside its registers. -/
structure DmxPort where
  /-- start of the packet on the line -/
  since : Option Nat := none
  /-- values of the packet on the line, or of the last one -/
  vals : List Byte := []
  /-- the packet on the line, or the one that waits, takes the merge of its frame when it completes (R322) -/
  awaits : Bool := false
  /-- frame of the packet -/
  n : Word32 := 0
  /-- a due packet waits for the end of an exchange; the merge of its frame, once complete -/
  wait : Bool := false
  got : Option (List Byte) := none
  /-- an exchange has taken place since the last packet -/
  exchanged : Bool := false
  rdm : Option Rdm := none
deriving DecidableEq, Repr

/-- The Fixture Engine beside its registers. -/
structure FxeState where
  /-- active and pending registrations, by district slot (R311) -/
  act : Tab FxeBuf := []
  pend : Tab FxeBuf := []
  /-- LTP owner of a universe, and the last CHANGE by 8 × universe + district (R314) -/
  owner : Tab Nat := []
  change : Tab Nat := []
  /-- last merged slot values of a universe -/
  vals : Tab (List Byte) := []
  /-- next sequence numbers of universes and of synchronisation universes (R318, R319) -/
  seq : Tab Nat := []
  syncSeq : Tab Nat := []
  /-- the frame whose universes are merged, those not yet queued, and those of them merged -/
  n : Word32 := 0
  due : List Nat := []
  merged : List Nat := []
  /-- the frame began, or has gone on, while BLACK was 1 -/
  zero : Bool := false
  /-- the frame and slots last sent for a universe (R346) -/
  sent : Tab (Word32 × List Byte) := []
  dmx : Tab DmxPort := []
deriving DecidableEq, Repr

/-! ### The Roundabout -/

/-- Where an item is. -/
inductive ItemSt where
  | ready
  | running (core : Nat)
  | parked (slot : Nat)
  /-- its completion waits for space in its lane (R340) -/
  | ended
deriving DecidableEq, Repr

/-- A work item in a record (R328, R329). Times are in ROOT cycles. -/
structure Item where
  dist : Nat
  handler : Nat
  level : Nat
  notify : Bool
  tag : Nat
  cost : Nat
  args : List Nat
  st : ItemSt := .ready
  /-- place in its list -/
  seq : Nat := 0
  /-- start of its time at its level, and its admission -/
  since : Nat := 0
  admitted : Nat := 0
  parkedOnce : Bool := false
  aged : Bool := false
  /-- level and time of its dispatch -/
  dispLevel : Option Nat := none
  dispAt : Nat := 0
  /-- when it was parked -/
  parkedAt : Nat := 0
  /-- core time used before the present stint, and the stint's start -/
  used : Nat := 0
  stint : Nat := 0
  /-- the handler has done its work: status, result, and the core time used -/
  done : Option (Nat × Nat × Nat) := none
  /-- completion as 32 bytes, and the order in which items ended -/
  completion : List Byte := []
  endSeq : Nat := 0
  /-- its district has been reset: the completion is discarded (R345) -/
  orphan : Bool := false
deriving DecidableEq, Repr

/-- The Roundabout beside its registers. -/
structure SchState where
  recs : Tab Item := []
  /-- the district pointer of each level (R333), and the last district admitted (R329) -/
  cur : Tab Nat := []
  last : Nat := 7
  /-- HANDLER of the item each core completed last -/
  lastHandler : Tab Nat := []
  /-- level-7 dispatches in the frame, by slot (R335) -/
  used7 : Tab Nat := []
  /-- FAB cycle of the last frame boundary, at whose end those counts return to 0 (R342) -/
  l7Due : Option Nat := none
  /-- records in each slot's trace path (R349) -/
  path : Tab Nat := []
  /-- order numbers given so far -/
  seq : Nat := 0
  /-- ROOT time of Reset's end, from which SCH_TICK counts, and SCH_TICK of the last aging point (R332) -/
  base : Nat := 0
  aged : Nat := 0
deriving DecidableEq, Repr

/-! ### Lamp Stream control sessions -/

/-- State of a tile's control session (R247). -/
inductive SessSt where
  | none
  | up
  | replay
  | resync
  | down
deriving DecidableEq, Repr

/-- An outstanding transaction (R243 to R246). -/
structure Outst where
  tsn : Nat
  tag : Nat
  /-- queue pointer value of its entry, and its shadow copy: the mark of the tile's oldest (R246, R360) -/
  qpos : Nat
  qpos' : Nat
  desc : List Word32
  /-- READ data segments written -/
  got : List Nat := []
  aborted : Bool := false
  /-- its last segment has left -/
  left : Bool := false
  /-- its completion is discarded (R251) -/
  mute : Bool := false
  /-- a post has overwritten its slot (R246) -/
  overwritten : Bool := false
deriving DecidableEq, Repr

/-- A tile's control session. -/
structure Session where
  st : SessSt := .none
  next : Nat := 0
  out : List Outst := []
  retries : Nat := 0
  /-- start of the response timer -/
  timer : Option Nat := none
  resends : Nat := 0
  /-- BASE_TSN of the RESYNC not yet acknowledged -/
  base : Option Nat := none
  /-- frame boundaries since DOWN or its last RESYNC -/
  ticks : Nat := 0
  /-- TSNs still to be resent by a replay -/
  again : List Nat := []
deriving DecidableEq, Repr

/-- The mark is invalid: the slot of an outstanding transaction has been overwritten (R246). -/
def Session.lost (x : Session) : Bool := x.out.any (·.overwritten)

/-- The transaction whose segments a port is sending. -/
structure CtlTx where
  tile : Nat
  tsn : Nat
  seg : Nat
  total : Nat
  replay : Bool
deriving DecidableEq, Repr

/-- A port's control queue and completion FIFO. -/
structure LmsPort where
  slots : Tab (List Word32) := []
  /-- shadow copies of WP and RP of LMS_CQ_PTR (R360) -/
  wp' : Nat := 0
  rp' : Nat := 0
  cpl : List (Word32 × Word32) := []
  cur : Option CtlTx := none
  /-- tiles that a RESYNC is to be sent to -/
  resync : List Nat := []
deriving DecidableEq, Repr

/-- Lamp Stream beside its registers. -/
structure LmsState where
  ports : Tab LmsPort := []
  sess : Tab Session := []
deriving DecidableEq, Repr

/-! ### The Clocktower -/

/-- The data set of an Announce message, and how it was received (IEEE 1588-2019). -/
structure Foreign where
  /-- identity of the sending port: clock identity and port number -/
  src : Nat
  /-- priority1, clockClass, accuracy, variance, priority2, grandmaster identity, steps removed -/
  prio1 : Nat
  cls : Nat
  acc : Nat
  var_ : Nat
  prio2 : Nat
  gm : Nat
  steps : Nat
  logInt : Nat := 0
  /-- arrival of its last Announce, and of the one before -/
  at_ : Nat := 0
  prev : Option Nat := none
  /-- identity of the port that heard it; flags of the time scale and timeSource of its Announce -/
  rcv : Nat := 0
  flags : Nat := 0x08
  source : Nat := 0xA0
deriving DecidableEq, Repr

/-- What a port of the PTP engine holds. -/
structure PtpPort where
  foreign : List Foreign := []
  /-- sequence IDs of Sync, Announce and Delay_Req -/
  seqSync : Nat := 0
  seqAnn : Nat := 0
  seqReq : Nat := 0
  /-- the transport in use (R296): true for UDP/IPv4 -/
  ipv4 : Bool := false
  /-- announce intervals until PRE_MASTER becomes MASTER -/
  qual : Nat := 0
deriving DecidableEq, Repr

/-- The PTP engine's measurements on the port in SLAVE state. Times are in nanoseconds, corrections in 2^-16 ns. -/
structure PtpSlave where
  /-- the Sync that waits for its Follow_Up: sequence ID, receive time, correction -/
  sync : Option (Nat × Nat × Int) := none
  /-- origin and receive time of the last whole Sync, in units of 2^-16 ns, corrections taken off -/
  t1 : Int := 0
  t2 : Int := 0
  fresh : Bool := false
  /-- the Delay_Req that waits for its answer: sequence ID and transmit time in units of 2^-16 ns -/
  req : Option (Nat × Int) := none
  /-- time of the last accepted pair, or of selection, and the Sync interval's logarithm as a byte -/
  lastPair : Nat := 0
  logSync : Nat := 0
  /-- consecutive pairs within 200 ns, and beyond 1 µs (R299) -/
  good : Nat := 0
  bad : Nat := 0
  /-- a pair of the selected master has been accepted: the port is SLAVE, not UNCALIBRATED (R295) -/
  cal : Bool := false
deriving DecidableEq, Repr

/-- The Clocktower's time, frame clock, timecode and PTP engine. -/
structure CltState where
  /-- the counter: seconds, nanoseconds and 2^-32 nanoseconds (R289) -/
  sec : Nat := 0
  ns : Nat := 0
  frac : Nat := 0
  /-- the slew's signed remainder, in 2^-32 nanoseconds (R291) -/
  slew : Int := 0
  /-- TICK cycles since the last tick (R302) -/
  elapsed : Nat := 0
  /-- TICK cycles of the last step and of the last accepted slew write (R293) -/
  stepAt : Option Nat := none
  adjAt : Option Nat := none
  /-- the grid index armed for the next tick, FOFFSET as it was computed with, and the index of the last tick (R302, R303) -/
  armed : Option Int := none
  off : Int := 0
  lastK : Option Int := none
  /-- grid index of the LTC word in progress, and the least at which the next one may begin (R304) -/
  ltcK : Option Int := none
  ltcMin : Int := 0
  /-- time of the last LTC input word -/
  ltcIn : Nat := 0
  /-- ports of the PTP engine, the master selected and the slave's measurements -/
  ptp : Tab PtpPort := []
  master : Option (Nat × Foreign) := none
  slave : PtpSlave := {}
  /-- an Announce has been heard since the engine started (R295) -/
  heard : Bool := false
deriving DecidableEq, Repr

/-! ### The Kerb drive -/

/-- A Kerb channel beside its registers. -/
structure KerbCh where
  /-- D of the dimming period under way, and the drive has governed the whole period so far (R403) -/
  d : Nat := 0
  live : Bool := false
  /-- D with which that period began -/
  duty : Nat := 0
  /-- ROOT times at which the timers of OPEN, OVER and STUCK_ON started, by code (R407) -/
  timers : Tab Nat := []
  /-- off because its NTC reached CUT (R414) -/
  cut : Bool := false
deriving DecidableEq, Repr

/-- A measurement of an NTC input with the limits in force at it (R414). -/
structure NtcMeas where
  /-- sixteenths of a degree -/
  temp : Int
  fault : Bool
  knee : Int
  cut : Int
deriving DecidableEq, Repr

/-- The Kerb drive beside its registers. -/
structure KrbState where
  chs : Tab KerbCh := []
  /-- the step that governs each group from the next period on (R410) -/
  step : Tab Nat := []
  /-- ROOT time of the last fault declared in each group or channel (R418), groups from key 64 on -/
  faultAt : Tab Nat := []
  /-- the pins are driven, from the first period that begins at or after a time on (R403, R481) -/
  driving : Bool := false
  from_ : Nat := 0
  /-- start of the dimming period under way -/
  start : Nat := 0
  ntc : Tab NtcMeas := []
  /-- clock outputs whose PLL relocks (R460) -/
  relock : List Nat := []
deriving DecidableEq, Repr

/-! ### Metering and Calibration -/

/-- An element's sums over a block, as exact numerators (R423, R427), and the residues of its accumulators (R428). -/
structure MetElem where
  imp : Nat := 0
  exp : Nat := 0
  v2 : Nat := 0
  i2 : Nat := 0
  /-- sums of the last blocks, newest first: v², i² and p (at most 20) -/
  past : List (Nat × Nat × Int) := []
deriving DecidableEq, Repr

/-- What is saved every second (R430). -/
structure MetSave where
  seq : Nat := 0
  acc : Tab Nat := []
  res : Tab Nat := []
  pulseRes : Nat := 0
  wrap : Word32 := 0
  clears : Nat := 0
deriving DecidableEq, Repr

/-- The pulse output (R437). -/
inductive PulseSt where
  | idle
  /-- low since -/
  | low (since : Nat)
  /-- high since -/
  | gap (since : Nat)
deriving DecidableEq, Repr

/-- Metering beside its registers. -/
structure MetState where
  /-- samples of the block under way, and the time of the last sample -/
  n : Nat := 0
  last : Option Nat := none
  /-- MET_PAIR as it governs the block under way (R422) -/
  pair : Option Word32 := none
  /-- codes of the last sample, if there has been one (R440) -/
  prev : List (List Int) := []
  elems : Tab MetElem := []
  /-- the temperature compensation in force, in units of 1/160 ppm (R426) -/
  tcv : Int := 0
  tci : Int := 0
  /-- the accumulators and their residues, by accumulator (R428) -/
  acc : Tab Nat := []
  res : Tab Nat := []
  pulseRes : Nat := 0
  pulse : PulseSt := .idle
  /-- the two copies in the settings store (R430) -/
  copies : Tab MetSave := []
deriving DecidableEq, Repr

/-- The coefficients of a calibration target (R440). -/
structure Coef where
  g : Int := 0x400000
  o : Int := 0
  ph : Int := 0
deriving DecidableEq, Repr

/-- A calibration procedure in progress (R442 to R446). -/
structure CalProc where
  dist : Nat
  target : Nat
  step : Nat
  blocks : Nat
  ref : Word32
  opid : Word32
  /-- blocks of the run under way that are over -/
  done : Nat := 0
  /-- samples of the run; sums of the code, of the target's value and of the values squared -/
  n : Nat := 0
  code : Int := 0
  sum : Int := 0
  sq : Nat := 0
  vsq : Nat := 0
  /-- the results of runs A and B, their frequencies, and whether the signals sufficed -/
  a : Int := 0
  b : Int := 0
  fA : Nat := 0
  fB : Nat := 0
  weak : Bool := false
  /-- the old and the new coefficient -/
  old : Int := 0
  new : Int := 0
deriving DecidableEq, Repr

/-- Calibration beside its registers. -/
structure CalState where
  /-- coefficients in force, and those in the settings store, by target -/
  coef : Tab Coef := []
  store : Tab Coef := []
  /-- the record ring, newest first, and the number of the last record (R447) -/
  recs : List (List Word32) := []
  seq : Nat := 0
  proc : Option CalProc := none
deriving DecidableEq, Repr

/-! ### Clocks, reset and start -/

/-- The clocks, the REFCLK monitor, the watchdog and the start beside their registers. -/
structure CkgState where
  /-- EXPECT, and REFCLK is qualified and has not failed (R453) -/
  expect : Nat := 0x6400
  ok : Bool := false
  /-- counts of the last windows of the qualification, newest first -/
  counts : List Nat := []
  /-- good windows in a row while REFCLK has failed (R455), and windows since EXPECT could last follow -/
  good : Nat := 0
  wins : Nat := 0
  /-- the root's reference is the internal oscillator -/
  osc : Bool := false
  /-- the switch in progress, to the oscillator or to REFCLK, and the request that waits for it (R456) -/
  switch : Option Bool := none
  again : Option Bool := none
  /-- start of the watchdog's time; none while disarmed (R469) -/
  wd : Option Nat := none
  /-- the gate request that waits: its unit and its time (R458) -/
  gate : Option (Nat × Nat) := none
  /-- units whose clock starts again, and when the access arrived (R459) -/
  waking : Tab Nat := []
  /-- start of the Reset mode in progress, and whether it is cold (R461) -/
  resetAt : Nat := 0
  cold : Bool := true
  /-- RESET_N is low until then (R462) -/
  heldUntil : Nat := 0
  /-- the first FAB cycle of Boot -/
  bootAt : Nat := 0
  /-- the boot flash runs in 8D-8D-8D (R466) -/
  xspi8D : Bool := false
deriving DecidableEq, Repr

/-! ### Life cycle and field update -/

/-- A region of the boot flash, or where a KEYS package is held: manifest and 1,024-byte blocks as stored (R500, R507). -/
structure Region where
  manifest : List Byte := []
  blocks : Tab (List Byte) := []
  /-- VERIFY has found it good -/
  verified : Bool := false
  /-- it carries a Solesk test signature (R494) -/
  test : Bool := false
deriving DecidableEq, Repr

/-- The manifest of a firmware image with the interface version, the two accepted ranges and the state-protocol version
given, everything else 0 (R501). -/
def plainManifest (cls ifVer accA accB csp : Nat) : List Byte :=
  beBytes 4 0x5658494D ++ [b8 cls, 0, 0, 0] ++ beBytes 4 0 ++ beBytes 2 ifVer ++ [0, 0] ++ beBytes 4 accA ++ beBytes 4 accB ++
    List.replicate 188 0 ++ beBytes 2 csp ++ List.replicate 298 0

/-- The boot flash as a device leaves manufacture: slot A holds a MAIN and a KERB image that agree. -/
def shippedFlash : Tab Region := [
  (0, { manifest := plainManifest 1 0x0100 0x01000100 0x01000100 0x0100, verified := true }),
  (1, { manifest := plainManifest 2 0x0100 0x01000100 0 0, verified := true })]

/-- A record of the boot pointer or of the plan pointer (R500, R509). -/
structure Pointer where
  seq : Word32 := 0
  slot : Nat := 0
  trial : Bool := false
  tries : Nat := 0
  confirmed : Nat := 0
deriving DecidableEq, Repr

/-- An update session (R506). -/
structure UpdSession where
  id : Word32
  mac : BitVec 48
  /-- time of its last valid request -/
  last : Nat
deriving DecidableEq, Repr

/-- Fuses, keys and the update protocol (R492 to R513). -/
structure LcsState where
  /-- life-cycle state in the fuses, and the one in force since the start (R492) -/
  fused : Nat := 2
  state : Nat := 2
  erased : Bool := false
  /-- internal debug has been opened by an unlock token -/
  intDbg : Bool := false
  /-- Solesk root key hashes, owner keys, Town Plan key slots, TPL_SIGPOL.REQUIRE and KSEQ (R497, R498) -/
  roots : Tab (List Byte) := []
  imageKey : List Byte := []
  owner : Tab (List Byte) := []
  slots : Tab (List Byte) := []
  require : Bool := false
  kseq : Word32 := 0
  /-- fuse counters 0 and 1 (R503) -/
  svn : Tab Nat := []
  /-- the service MAC in the manufacturing record (R504) -/
  mac : BitVec 48 := 0
  /-- the boot flash has 512 Mbit or more (R500) -/
  big : Bool := false
  /-- regions: 0 and 1 slot A MAIN and KERB, 2 and 3 slot B, 4 staging, 5 and 6 plan copies, 7 a KEYS package -/
  flash : Tab Region := shippedFlash
  /-- the two records of the boot pointer, and of the plan pointer -/
  ptr : List Pointer := [{}, {}]
  planPtr : List Pointer := []
  /-- consecutive failed starts of the slots (R467) -/
  cf : Tab Nat := []
  /-- stage, manifest and target slot of the package in progress -/
  stage : Nat := 0
  manifest : List Byte := []
  target : Nat := 0
  session : Option UpdSession := none
  /-- the BLOCK request whose block is being programmed, and the requests that wait behind it (R506, R507) -/
  prog : Option UpdReq := none
  waiting : List (UpdKind × UpdReq) := []
  /-- the slot that runs; 3 for none; and VERSION of its MAIN manifest (R362) -/
  running : Nat := 3
  version : Nat := 0
  /-- the service port's link is up (R285) -/
  link : Bool := false
deriving DecidableEq, Repr

/-- The temperature sensors (R547): what each last read, in thousandths of a degree Celsius, and whether the two pins are
driven low. -/
structure ThermState where
  temps : Tab Int := []
  alert : Bool := false
  trip : Bool := false
deriving DecidableEq, Repr

/-! ### The Causeway -/

/-- The claim of R477. -/
inductive Claim where
  | idle
  /-- the claim wait of collision count `k` -/
  | waiting (k since : Nat)
  /-- LEASE_OUT is asserted and the guard runs -/
  | guard (k since : Nat)
deriving DecidableEq, Repr

/-- A handover in progress (R480): boundary B by its grid index and its frame. -/
structure Handover where
  holder : Bool
  grid : Int
  frame : Word32
  /-- cause of the holder's exit -/
  cause : Nat := 0
deriving DecidableEq, Repr

/-- The Causeway beside its registers. -/
structure CswState where
  /-- this device holds the lease -/
  held : Bool := false
  /-- the level of LEASE_IN, and since when -/
  inHigh : Bool := false
  inSince : Nat := 0
  /-- last STATUS frame of the peer, and when it came; whether pairing agreed -/
  peer : Option StatusFrame := none
  peerAt : Nat := 0
  /-- time of the last valid LEASE frame, and of the first since LEASE_IN has been low -/
  leaseAt : Option Nat := none
  lowLease : Option Nat := none
  linkAt : Nat := 0
  /-- start of the disagreement for which PIN_FAULT was set last (R477) -/
  pinSince : Option Nat := none
  /-- time of the last doorbell rung here (R489) -/
  rang : Option Nat := none
  /-- CSW_RENEW has permitted the next renewal; times of the last renewal, renewal point and STATUS frame (R475) -/
  renew : Bool := false
  renewed : Nat := 0
  point : Nat := 0
  statusAt : Nat := 0
  claim : Claim := .idle
  handover : Option Handover := none
  /-- a fatal-class error record has been written since the last renewal point (R479) -/
  fatal : Bool := false
  /-- the exit or entry under way is a handover's (R481) -/
  byHandover : Bool := false
  /-- the peer's frame number less the own one, from its last STATUS frame (R486) -/
  peerOff : Word32 := 0
  /-- frame of the last FRAME record, and whether one has come since step 4 began (R485, R486) -/
  frameRec : Option Word32 := none
  snapshot : Bool := false
deriving DecidableEq, Repr

end Sys2Proof.Machine
end

