-- ==== Sys2Proof/Machine/State.lean ====
section
/-! DEFINITION. The state of the device as plain data, the state after reset, and the reasons a step can stop. -/

namespace Sys2Proof.Machine

/-- Everything the device holds. -/
structure State where
  /-- ROOT cycles since power-on (R15) -/
  now : Nat := 0
  /-- the register file: words of the registers that do not hold their reset value, by key -/
  regs : Tab Word32 := []
  /-- HI words latched by LO reads, by initiator key (R24) -/
  hiLatch : Tab Word32 := []
  /-- HI words staged for LO writes, by initiator key (R24) -/
  hiStage : Tab Word32 := []
  /-- the settings store's register words, by key (R25) -/
  nv : Tab Word32 := []
  mode : ModeState := {}
  /-- the Town Plan in force -/
  plan : Option Plan := none
  tpl : TplState := {}
  /-- the plan before the last live apply, for the frames that were under way (R110, R219) -/
  hist : List Hist := []
  lot : LotState := {}
  /-- the bytes of every frame; an unlisted address reads 0 (R104) -/
  mem : List Host.Cell := []
  err : ErrState := {}
  pmc : PmcState := {}
  que : QueState := {}
  host : Tab HostPort := []
  rings : Tab RingState := []
  dma : Tab DmaState := []
  xng : XngState := {}
  ports : Tab PortTx := []
  ing : Tab IngIn := []
  plz : Tab PlzState := []
  wit : Tab WitState := []
  blv : BlvState := {}
  ave : AveState := {}
  lms : LmsState := {}
  clt : CltState := {}
  fxe : FxeState := {}
  sch : SchState := {}
  krb : KrbState := {}
  met : MetState := {}
  cal : CalState := {}
  ckg : CkgState := {}
  csw : CswState := {}
  lcs : LcsState := {}
  therm : ThermState := {}
  /-- the number of free values drawn so far (a counter of the model, not of the device) -/
  free : Nat := 0
  /-- what the last command sent, in order -/
  out : List Out := []
  /-- the answer to the last command's access -/
  resp : Option Resp := none
  /-- the commands waiting, first in, first out -/
  pending : List Instr := []
deriving DecidableEq, Repr

/-- The reasons a command ends in a fault. No command of this device does: the type has the one reason the host asks a
closed type to hold and no meaning answers with it. -/
inductive Fault where
  /-- never raised; safe -/
  | none
deriving DecidableEq, Repr

/-- The reasons a command is refused by the model. -/
inductive Refusal where
  /-- raised by the dispatch for a command without a meaning; safe: the model stops where the device goes on -/
  | notModelled (mnemonic : String)
deriving DecidableEq, Repr

/-- The device right after a cold reset: every field at the value the specification gives, or the one its log entry names. -/
def State.reset : State := {}

end Sys2Proof.Machine
end

