-- ==== Sys2Proof/Machine/Ops.lean ====
section
/-! DEFINITION. The named operations over the state: register words, memory bytes, answers and sendings, event counters,
error records and events. Every meaning is written with them. -/

namespace Sys2Proof.Machine

/-! ### Answers and sendings -/

/-- The state at the start of a command: nothing sent, nothing answered. -/
def State.begin (s : State) : State := { s with out := [], resp := none }
/-- The state with one more thing sent. -/
def State.emit (s : State) (o : Out) : State := { s with out := s.out ++ [o] }
/-- The state with the access answered. -/
def State.reply (s : State) (r : Resp) : State := { s with resp := some r }

/-! ### Register words -/

/-- The register word under a key. -/
def State.rd (s : State) (k : Nat) : Word32 := (s.regs.find? k).getD (regReset k)
/-- The state with a register word written. -/
def State.wr (s : State) (k : Nat) (v : Word32) : State := { s with regs := s.regs.set k v }
/-- A field of a register word, as a number. -/
def State.fld (s : State) (k lo w : Nat) : Nat := field (s.rd k) lo w
/-- The state with a field of a register word set. -/
def State.setF (s : State) (k lo w x : Nat) : State := s.wr k (putField (s.rd k) lo w x)
/-- One bit of a register word. -/
def State.bitOf (s : State) (k i : Nat) : Bool := (s.rd k).getLsbD i
/-- The state with a counter register advanced by `n`, modulo 2^32. -/
def State.bump (s : State) (k : Nat) (n : Nat := 1) : State := s.wr k (s.rd k + w32 n)
/-- The state with the ERR field [31:24] of a status register set. -/
def State.setErr (s : State) (k code : Nat) : State := s.setF k 24 8 code
/-- The state with every register word whose key meets `p` back at its reset value, or at the value the settings store
holds for it (R25: entries P). -/
def State.resetRegs (s : State) (p : Nat → Bool) : State :=
  { s with regs := (s.nv.filter (fun e => p e.1)).foldl (fun t e => t.set e.1 e.2) (s.regs.drop p) }
/-- A 64-bit register pair whose HI word lies 4 above. -/
def State.rd64 (s : State) (k : Nat) : Nat := (s.rd (k + 4)).toNat * 2 ^ 32 + (s.rd k).toNat
/-- The state with a 64-bit register pair written. -/
def State.wr64 (s : State) (k v : Nat) : State := (s.wr k (w32 v)).wr (k + 4) (w32 (v / 2 ^ 32))
/-- The state with a 64-bit counter advanced. -/
def State.bump64 (s : State) (k : Nat) (n : Nat := 1) : State := s.wr64 k (s.rd64 k + n)

/-! ### Memory -/

/-- The byte that an address holds. -/
def Mem.read (m : List Host.Cell) (a : Nat) : Byte := Tab.get m 0 a

/-- The memory with one byte written. Its addresses rise and no entry is 0, the value an unlisted address reads. -/
def Mem.write : List Host.Cell → Nat → Byte → List Host.Cell
  | [], a, b => if b = 0 then [] else [(a, b)]
  | (a', b') :: m, a, b =>
    if a = a' then (if b = 0 then m else (a, b) :: m)
    else if a < a' then (if b = 0 then (a', b') :: m else (a, b) :: (a', b') :: m)
    else (a', b') :: Mem.write m a b

/-- The canonical form: addresses strictly rising and no entry equal to what an unlisted address reads. -/
def Memory.wf : List Host.Cell → Bool
  | [] => true
  | [(_, b)] => b != 0
  | (a, b) :: (a', b') :: m => b != 0 && a < a' && Memory.wf ((a', b') :: m)

/-- The memory with bytes written one after another from an address on. -/
def Mem.writeAll (m : List Host.Cell) (a : Nat) : List Byte → List Host.Cell
  | [] => m
  | b :: t => Mem.writeAll (Mem.write m a b) (a + 1) t

/-- The bytes from an address on. -/
def Mem.readAll (m : List Host.Cell) (a : Nat) : Nat → List Byte
  | 0 => []
  | n + 1 => Mem.read m a :: Mem.readAll m (a + 1) n

/-- The memory with the addresses that meet `p` reading 0. -/
def Mem.clear (m : List Host.Cell) (p : Nat → Bool) : List Host.Cell := List.filter (fun c => !p c.1) m

/-! ### Districts and the plan in force -/

/-- The plan in force, or an empty one. -/
def State.pl (s : State) : Plan := s.plan.getD {}
/-- True while a plan is in force. -/
def State.inForce (s : State) : Bool := s.plan.isSome
/-- Frames for which what governed a frame is kept: more than PRES_DELAY_NS of 100 ms and two frames at 240 Hz (R63, R64). -/
def historyFrames : Nat := 64
/-- What governed frame `n` before a live apply replaced it: the oldest apply after that frame. -/
def State.histOf (s : State) (n : Word32) : Option Hist := (s.hist.filter (fun h => frameLater h.frame n)).getLast?
/-- The state as it governs frame `n`: frames under way at a live apply keep the plan and the sets before it. -/
def State.asOf (s : State) (n : Word32) : State :=
  match s.histOf n with
  | some h => { s with plan := some h.plan, lot := { s.lot with sets := h.sets } }
  | none => s
/-- The frame number of the frame under way (R302). -/
def State.frame (s : State) : Word32 := s.rd Reg.cltFrame

/-- True when district `d` is granted block `n` (R33, R59); in Maintenance a host has the grant it has before any plan
and may read UPD (R34). -/
def State.granted (s : State) (d n : Nat) (write : Bool := true) : Bool :=
  d == houseDist || n == 0 ||
    (if s.mode.mode == .maintenance then n == 1 || n == 23 || (n == 21 && !write)
     else match s.plan with
      | none => n == 1 || n == 23
      | some p => (p.district? d).any (fun r => natBit r.blocks n))

/-- True when district `d` may reach the slot `j` (its own; the house district reaches every slot). -/
def slotAllowed (d j : Nat) : Bool := d == houseDist || slotOf d == j

/-- True when an access of this initiator to a register arrives: the initiators of engines never address registers
(R17), all logic is held in Reset (R34), and a host reaches the device only over a trained link in D0 (R372). -/
def State.arrives (s : State) (init : InitId) : Bool :=
  s.mode.mode != .reset &&
    (isCore init || init == 0x40#8 || init == 0x50#8 ||
     (isHost init && ((s.host.get {} (distOf init)).link && !(s.host.get {} (distOf init)).d3)))

/-- The key of an event counter (R518). -/
def evKey (block inst event : Nat) : Nat := (block * 256 + inst) * 256 + event

/-- CSW_STATUS.ROLE (R472). -/
def State.role (s : State) : Nat := s.fld Reg.cswStatus 0 3
/-- District `d` is mirrored: set in MIRROR, or the house district (R484). -/
def State.mirrors (s : State) (d : Nat) : Bool :=
  match s.pl.cw with | some c => d == houseDist || natBit c.mirror d | none => false
/-- Own host ports of district `d` cannot change mirrored state: the device is SYNCING or READY (R488). -/
def State.mirrorLocked (s : State) (d : Nat) : Bool := (s.role == 2 || s.role == 3) && d < 4 && s.mirrors d
/-- A write discarded by mirroring (R488). -/
def State.mirrorDrop (s : State) : State :=
  let s := (s.setErr Reg.cswStatus 0x0C).bump (Reg.cswCnt 5)
  { s with pmc := { s.pmc with cnt := s.pmc.cnt.upd 0 (evKey 19 0 5) (fun v => (v + 1) % 2 ^ 64) } }

/-- This device holds the lease and mirrors to a peer that is SYNCING or READY (R484). -/
def State.mirroring (s : State) : Bool :=
  s.csw.held && s.csw.peer.any (fun p => p.role == 2 || p.role == 3)
/-- A record goes to the peer if the device mirrors and district `d` is mirrored. -/
def State.mirrorTo (s : State) (d : Nat) (r : MirrorRec) : State :=
  if s.mirroring && s.mirrors d then s.emit (.causeway (.mirror r)) else s

/-- A register access of an initiator to block `n`: it may not arrive, may find the block not granted (R23), may be
discarded by mirroring (R488), or has the effect `f`. -/
def State.access (s : State) (init : InitId) (n : Nat) (f : State → State) (write : Bool := true) : State :=
  if !s.arrives init then s
  else if !s.granted (distOf init) n write then s.reply .unsupported
  else if write && isHost init && (n == 4 || n == 5 || n == 10 || n == 15) && s.mirrorLocked (distOf init) then s.mirrorDrop
  else f s

/-- True when district `d` holds the authority of a mask of the SYSTEM record (R57); `pre` says whether host districts
hold it while no plan is in force. -/
def State.auth (s : State) (pre : Bool) (mask : SysRec → Nat) (d : Nat) : Bool :=
  d == houseDist ||
    match s.plan with
    | none => pre
    | some p => natBit (mask p.sys) d

/-! ### Counters and error records -/

/-- The state with an event counted `n` times (R517). Counters count in every mode except Reset. -/
def State.count (s : State) (block inst event : Nat) (n : Nat := 1) : State :=
  if s.mode.mode == .reset then s
  else { s with pmc := { s.pmc with cnt := s.pmc.cnt.upd 0 (evKey block inst event) (fun v => (v + n) % 2 ^ 64) } }

/-- The state with `n` bytes counted for the bandwidth quantity of register `k` (R521). -/
def State.bw (s : State) (k n : Nat) : State :=
  { s with pmc := { s.pmc with bw := s.pmc.bw.upd 0 k (fun v => v + n) } }

/-- Mark MORE in the newest record waiting (R523). -/
def markMore (l : List ErrRec) : List ErrRec :=
  match l.getLast? with
  | none => []
  | some r => l.dropLast ++ [{ r with more := true }]

/-- The state with an error record detected by a block: it enters the block's buffer, or is lost (R523). -/
def State.report (s : State) (r : ErrRec) : State :=
  let r := { r with ns := s.clt.ns, sec := s.clt.sec }
  let s := if r.sev == 2 then { s with csw := { s.csw with fatal := true } } else s
  let b := s.err.bufs.get [] r.block
  let full := if r.sev == 2 then (b.filter (·.sev == 2)).length ≥ 1 else (b.filter (·.sev != 2)).length ≥ 3
  if full then
    { s with err := { s.err with bufs := s.err.bufs.set r.block (markMore b) } }.count 23 5 0
  else { s with err := { s.err with bufs := s.err.bufs.set r.block (b ++ [r]) } }

/-! ### Events of host districts (R377, R378) -/

/-- The host port `d`. -/
def State.hp (s : State) (d : Nat) : HostPort := s.host.get {} d
/-- The state with host port `d` replaced. -/
def State.setHp (s : State) (d : Nat) (h : HostPort) : State := { s with host := s.host.set d h }

/-- Send the message of a vector, clearing its pending bit. -/
def State.sendMsix (s : State) (d v : Nat) : State :=
  let h := s.hp d
  let addr := join64 (h.table.get 0 (16 * v + 4)) (h.table.get 0 (16 * v))
  (s.setHp d { h with pend := h.pend.set v false }).emit (.msix d v addr (h.table.get 0 (16 * v + 8)))

/-- True when a message of vector `v` can leave at once. -/
def HostPort.canSend (h : HostPort) (v : Nat) : Bool :=
  h.bme && !h.d3 && !h.fmask && h.unmasked.get false v

/-- The event of vector `v` of host district `d`. -/
def State.raiseVec (s : State) (d v : Nat) : State :=
  let k := distKey d (Reg.hstEvt (v / 32))
  let s := s.wr k (s.rd k ||| fieldMask (v % 32) 1)
  let h := s.hp d
  if !h.msixEn then s
  else if h.pend.get false v then s
  else if h.canSend v then s.sendMsix d v
  else s.setHp d { h with pend := h.pend.set v true }

/-- The event of block `block` of district `d`: vector `v` of a host district, the block's interrupt of the house
district; no district has none. -/
def State.raise (s : State) (d v block : Nat) : State :=
  if d < 4 then s.raiseVec d v
  else if d == houseDist then s.emit (.houseIrq block)
  else s

/-! ### Free values -/

/-- The state after one free value has been drawn, and the number that names it. -/
def State.draw (s : State) : Nat × State := (s.free, { s with free := s.free + 1 })

end Sys2Proof.Machine
end

