-- ==== Sys2Proof/Machine/Scaler.lean ====
section
/-! DEFINITION. The arithmetic of the Plaza's layers (R160 to R164): where a destination pixel lies in the crop, the
filter weights, and blending. Exact integers; one rounding per result. -/

namespace Sys2Proof.Machine

/-- The settings of a layer: the fields of its LAYER record (R65), read from the six words of its register group. -/
structure Lay where
  inId : Nat
  additive : Bool
  pixA : Bool
  gang : Bool
  filter : Nat
  cropX : Nat
  cropY : Nat
  cropW : Nat
  cropH : Nat
  dstX : Int
  dstY : Int
  dstW : Nat
  dstH : Nat
  alpha : Nat
deriving DecidableEq, Repr

/-- The layer settings in the words PLZ_LSRC, LCROP_XY, LCROP_WH, LDST_XY, LDST_WH and LALPHA. -/
def Lay.ofWords (l : List Word32) : Lay :=
  let w := fun k => l.getD k 0
  { inId := field (w 0) 0 8, additive := (w 0).getLsbD 8, pixA := (w 0).getLsbD 9, gang := (w 0).getLsbD 10,
    filter := field (w 0) 11 2, cropX := field (w 1) 0 16, cropY := field (w 1) 16 16, cropW := field (w 2) 0 16,
    cropH := field (w 2) 16 16, dstX := signed 16 (field (w 3) 0 16), dstY := signed 16 (field (w 3) 16 16),
    dstW := field (w 4) 0 16, dstH := field (w 4) 16 16, alpha := field (w 5) 0 16 }

/-- The words of a layer without a LAYER record: no input, every size 0. -/
def noLayerWords : List Word32 := [0xFF, 0, 0, 0, 0, 0]

/-- A layer with no input or a zero size is disabled (R160); its canvas's state comes beside. -/
def Lay.on (l : Lay) : Bool := l.inId != 0xFF && l.cropW != 0 && l.cropH != 0 && l.dstW != 0 && l.dstH != 0

/-- Source position along one axis: integer part and phase of destination coordinate `u` (the mapping before R163). -/
def axisPos (crop0 cropN dstN u : Nat) : Int × Nat :=
  let step := cropN * 65536 / dstN
  let s : Int := (crop0 * 65536 : Nat) + ((2 * u + 1) * step / 2 : Nat) - 32768
  (s / 65536, ((s % 65536) / 1024).toNat)

/-- One Taylor step of a sine or cosine: the term after `t`, for the squared angle `x2` in units of 2^-40. -/
def trigNext (x2 t : Nat) (k : Nat) : Nat := t * x2 / 2 ^ 40 / (k * (k + 1))

/-- An alternating sum of the terms that follow `t`. -/
def trigSum (x2 : Nat) : Nat → Nat → Nat → Int
  | 0, _, _ => 0
  | n + 1, t, k => (t : Int) - trigSum x2 n (trigNext x2 t k) (k + 2)

/-- The angle π p / 128 in units of 2^-40. -/
def angle40 (p : Nat) : Nat := 3454217652358 * p / 128
/-- sin(π p / 128) in units of 2^-40. -/
def sin40 (p : Nat) : Int := let x := angle40 p; trigSum (x * x / 2 ^ 40) 12 x 2
/-- cos(π p / 128) in units of 2^-40. -/
def cos40 (p : Nat) : Int := let x := angle40 p; trigSum (x * x / 2 ^ 40) 12 (2 ^ 40) 1

/-- The nearest integer to `n / d`, halves up. -/
def roundDiv (n : Int) (d : Nat) : Int := (2 * n + d) / (2 * d : Nat)

/-- Lanczos-2 kernel values of the four taps at phase `p`, up to one common factor (R163). With f = p / 64 the factor
sin(π f) is common to the four products sinc(d) × sinc(d / 2), and cancels when the weights are scaled to sum to 1. -/
def lanczosRaw (p : Nat) : List Int :=
  let s := sin40 p
  let c := cos40 p
  let q := fun (v : Int) (d : Nat) => v * 2 ^ 24 / (d * d : Nat)
  [-(q c (64 + p)), q s p, q c (64 - p), -(q s (128 - p))]

/-- Weights in units of 1/16,384: raw values scaled to sum to 1.0 and rounded, the remainder added to tap `at_` (R163). -/
def normWeights (at_ : Nat) (raw : List Int) : List Int :=
  let sum := raw.foldl (· + ·) 0
  let w := raw.map (fun v => roundDiv (v * 16384) sum.toNat)
  let rest := 16384 - w.foldl (· + ·) 0
  w.set at_ (w.getD at_ 0 + rest)

/-- The Keys cubic kernel with a = −0.5 at distance `n` / 64, in units of 1 / 524,288 (R163). -/
def keys (n : Nat) : Int :=
  let n : Int := n
  if n ≤ 64 then 3 * n * n * n - 5 * 64 * n * n + 2 * 262144
  else if n < 128 then -(n * n * n) + 5 * 64 * n * n - 8 * 4096 * n + 4 * 262144
  else 0

/-- Offset of the first tap from the integer part, and the weights of the taps (R163). -/
def kernel (filter p : Nat) : Int × List Int :=
  match filter with
  | 0 => (if p ≥ 32 then 1 else 0, [16384])
  | 1 => (0, [256 * (64 - (p : Int)), 256 * p])
  | 2 => (-1, normWeights 1 [keys (64 + p), keys p, keys (64 - p), keys (128 - p)])
  | _ => (-1, if p == 0 then [0, 16384, 0, 0] else normWeights 1 (lanczosRaw p))

/-- Taps of a destination coordinate: source coordinates, held inside the crop, with their weights (R163). -/
def taps (filter crop0 cropN dstN u : Nat) : List (Nat × Int) :=
  let (i, p) := axisPos crop0 cropN dstN u
  let (o, ws) := kernel filter p
  ws.zipIdx.map (fun (w, k) => ((clampI crop0 (crop0 + cropN - 1 : Nat) (i + o + k)).toNat, w))

/-- The rows of the crop that a destination row needs. -/
def Lay.needRows (l : Lay) (v : Nat) : List Nat := (taps l.filter l.cropY l.cropH l.dstH v).map (·.1)

/-- A scaled source pixel: components R, G, B, A and, in units of 2^-28, how much of it comes from blocks that are not
poisoned (R163, R173). `px` gives a source pixel's components, or none in a poisoned block. -/
def scaled (l : Lay) (px : Nat → Nat → Option (List Nat)) (u v : Nat) : List Nat × Nat :=
  let xs := taps l.filter l.cropX l.cropW l.dstW u
  let ys := taps l.filter l.cropY l.cropH l.dstH v
  let all := ys.flatMap (fun (y, wy) => xs.filterMap (fun (x, wx) => if wx * wy == 0 then none else (px x y).map (fun c => (wx * wy, c))))
  let comp := fun k => (clampI 0 0xFFFF (roundDiv (all.foldl (fun (a : Int) (w, c) => a + w * (c.getD k 0 : Nat)) 0) (2 ^ 28))).toNat
  ([comp 0, comp 1, comp 2, comp 3],
   (clampI 0 (2 ^ 28) (all.foldl (fun (a : Int) (w, _) => a + w) 0)).toNat)

/-- One rounding of a blend: units of 2^-36 to U4.12, halves up, limited (R164). -/
def roundBlend (n : Nat) : Nat := min 0xFFFF ((n + 2 ^ 23) / 2 ^ 24)

/-- A canvas pixel after a layer (R164): `src` is the scaled source, `cov` its coverage in units of 2^-28. -/
def blend (l : Lay) (src : List Nat) (cov : Nat) (d : List Nat) : List Nat :=
  let a24 := min (2 ^ 24) (if l.pixA then l.alpha * src.getD 3 0 else l.alpha * 4096 * cov / 2 ^ 28)
  let keep := if l.additive then 2 ^ 24 else 2 ^ 24 - a24
  let col := fun k => roundBlend (l.alpha * src.getD k 0 * 2 ^ 12 + keep * d.getD k 0)
  [col 0, col 1, col 2, roundBlend (a24 * 2 ^ 12 + (2 ^ 24 - a24) * d.getD 3 0)]

/-- The components of the pixel whose eight bytes these are (R12). -/
def p64Comps (b : List Byte) : List Nat := [leAt b 0 2, leAt b 2 2, leAt b 4 2, leAt b 6 2]

end Sys2Proof.Machine
end

