-- ==== Sys2Proof/Machine/Layers.lean ====
section
/-! DEFINITION. The layers in force: a Plaza's canvas, the shadow and active copies of its layers, and which layers are
enabled (R160, R165, R170). -/

namespace Sys2Proof.Machine

/-- Plaza `p` beside its registers. -/
def State.pz (s : State) (p : Nat) : PlzState := s.plz.get {} p
/-- The state with Plaza `p` replaced. -/
def State.setPz (s : State) (p : Nat) (x : PlzState) : State := { s with plz := s.plz.set p x }
/-- The CANVAS record of Plaza `p`, while the canvas is enabled. -/
def State.canvas? (s : State) (p : Nat) : Option CanRec := (s.pl.canvas? p).filter (·.enabled)
/-- The words of a layer's shadow copy. -/
def State.layShadow (s : State) (p l : Nat) : List Word32 := (List.range 6).map (fun k => s.rd (Reg.plzLsrc p l + 4 * k))
/-- The words of a layer's active copy. -/
def State.layActive (s : State) (p l : Nat) : List Word32 := (List.range 6).map (fun k => s.rd (Reg.plzLactSrc p l + 4 * k))

/-- A layer's active copy is enabled (R160, R170). -/
def State.layOn (s : State) (p l : Nat) : Bool :=
  (s.canvas? p).isSome && (Lay.ofWords (s.layActive p l)).on && !(s.pz p).off.contains l

/-- True when an enabled layer in force of a canvas in line cut-through mode uses the input (R154). -/
def State.cutInput (s : State) (i : Nat) : Bool :=
  (List.range 4).any (fun p => (s.canvas? p).any (·.cut) &&
    (List.range 16).any (fun l => s.layOn p l && (Lay.ofWords (s.layActive p l)).inId == i))

end Sys2Proof.Machine
end

