-- ==== Sys2Proof/Config.lean ====
section
/-! DEFINITION. What one implementation fixes and the specification leaves open: constants and functions without a body,
of which no proof can see a value. Each is named in the assumption log. -/

namespace Sys2Proof.Config

/-- The code of the error record of a corrected memory error (R122 gives the record's severity and no code). -/
opaque correctedEccCode : BitVec 8

/-- How far the device's conversion of a pixel component lies from the exact result, within the bound of R150; by the
colour setting and the exact result in units of 2^-32. -/
opaque conversionError (colour exact : Nat) : Int

/-- The bytes a DRAM channel has moved in a window beside those of the hosts' accesses (R521), by the number of the draw and the register. -/
opaque channelBytes (draw reg : Nat) : BitVec 32

/-- The increment the PTP engine's servo writes after an accepted pair (R298), as an offset from nominal in units of
2^-32 ns per TICK. -/
opaque servoIncrement (draw : Nat) : Int

/-- How many whole units a handler leaves behind when it ends early (R346), modulo the number it may leave at most plus
one. -/
opaque stoppedAt (draw : Nat) : Nat

/-- How many records have left a trace path since the last one was put into it (R349). -/
opaque traceDrained (draw : Nat) : Nat

/-- Whether a house firmware service fails (R351). -/
opaque serviceFails (draw : Nat) : Bool

/-- The RESULT of a house firmware service, or the reason of a handler that has failed (R351). -/
opaque handlerResult (draw : Nat) : BitVec 64

/-- The two bytes behind a UID that RDMDISC writes (R346). -/
opaque rdmPad (draw : Nat) : BitVec 16

/-- The UID of the device as an RDM controller (E1.20 gives every controller one). -/
opaque rdmUid : BitVec 48

/-- Whether EXPECT takes the step of one count that it may take in 64 windows (R453). -/
opaque refFollows (draw : Nat) : Bool

/-- The temperature, in sixteenths of a degree, that an NTC input shows where the formula of R413 gives none that the
field can hold. -/
opaque ntcTemp (draw : Nat) : BitVec 16

/-- The clock identity of the PTP engine (R295). -/
opaque clockIdentity : BitVec 64

/-- The offsetScaledLogVariance of the PTP engine's own data set (R295). -/
opaque clockVariance : BitVec 16

/-- The Solesk public key, X then Y, that travels with an image signed under a fused hash (R497, R501). -/
opaque rootKey (hash : List Byte) : List Byte

/-- Whether a Solesk root key is one of the test signatures of R494 rather than a production signature. -/
opaque rootIsTest (hash : List Byte) : Bool

/-- The value the device assigns to an update session (R505). -/
opaque sessionId (draw : Nat) : BitVec 32

/-- Whether the read of a district slot's block was outstanding when the merge of a group of frame `n` that holds universe
`uni` came late (R316). -/
opaque readOutstanding (n : BitVec 32) (uni slot : Nat) : Bool

/-- Whether a low on RESET_N of 100 ns to 1 µs is recognised (R462). -/
opaque shortReset (draw : Nat) : Bool

end Sys2Proof.Config
end

