-- ==== Sys2Proof/Machine/Budget.lean ====
section
/-! DEFINITION. What a Town Plan demands: the traffic of R77 by set, the Square placement of R62 and the assignment of
lamp runs to Boulevards of R110. Rates are exact fractions. -/

namespace Sys2Proof.Machine

/-- An exact rate, `n` divided by `d`. -/
structure Q where
  n : Nat
  d : Nat
deriving DecidableEq, Repr

/-- The rate in lowest terms. -/
def Q.norm (a : Q) : Q := let g := Nat.gcd a.n a.d; if g ≤ 1 then a else ⟨a.n / g, a.d / g⟩
/-- A whole number as a rate. -/
def Q.ofNat (n : Nat) : Q := ⟨n, 1⟩
/-- The sum of two rates. -/
def Q.add (a b : Q) : Q := if a.d == b.d then ⟨a.n + b.n, a.d⟩ else (Q.norm ⟨a.n * b.d + b.n * a.d, a.d * b.d⟩)
/-- A rate times a whole number. -/
def Q.mul (a : Q) (k : Nat) : Q := ⟨a.n * k, a.d⟩
/-- A rate divided by a whole number other than 0. -/
def Q.div (a : Q) (k : Nat) : Q := ⟨a.n, a.d * k⟩
/-- Comparison of rates. -/
def Q.le (a b : Q) : Bool := a.n * b.d ≤ b.n * a.d
/-- Strict comparison of rates. -/
def Q.lt (a b : Q) : Bool := a.n * b.d < b.n * a.d
/-- The sum of a list of rates. -/
def Q.sum (l : List Q) : Q := l.foldl Q.add ⟨0, 1⟩
/-- The least whole number not below the rate. -/
def Q.ceil (a : Q) : Nat := if a.d == 0 then 0 else ceilDiv a.n a.d

/-- The rate `num / den`; a zero denominator gives 0. -/
def rate (num den : Nat) : Q := if den == 0 then ⟨0, 1⟩ else ⟨num, den⟩

/-- The frame rate of the plan (R57). -/
def Plan.fps (p : Plan) : Q := rate p.sys.num p.sys.den

/-- The sets that R62 places in Square: PLACE 1 sets in ascending SET_ID order within each district's GUAR_SQ. -/
def Plan.squareSets (p : Plan) : List Nat :=
  let go := p.sets.foldl (fun (acc : List (Nat × Nat) × List Nat) r =>
    let used := Tab.get acc.1 0 r.dist
    let guar := ((p.district? r.dist).map (·.guarQ)).getD 0
    if r.place == 1 && used + r.lots ≤ guar then (Tab.set acc.1 r.dist (used + r.lots), r.id :: acc.2) else acc)
    ([], [])
  go.2.reverse

/-- Bytes per pixel times eight of an input format on the wire (R77): 20, 24, 30, 36 bits. -/
def wireBits (f : Nat) : Nat := match f with | 0 => 20 | 1 => 24 | 2 => 30 | 3 => 36 | _ => 64

/-- The line rate of a port in bit/s (R78). -/
def lineRate (speed : Nat) : Q :=
  if speed == 0 then ⟨10312500000 * 64, 66⟩ else ⟨25781250000 * 64, 66⟩

/-- Lamps of slice `i` of a tile with `lamps` lamps in slices of `per`. -/
def sliceLampCount (lamps per i : Nat) : Nat := min per (lamps - i * per)

/-- Slices of a tile (R78). -/
def sliceCount (lamps per : Nat) : Nat := if per == 0 then 0 else ceilDiv lamps per

/-- Bytes of `n` lamps of a layout, packed (R78). -/
def packedBytes (l : LoutRec) (n : Nat) : Nat := ceilDiv (n * l.channels * fmtBits l.format) 8

/-- packed_t of R78: the bytes of the tile's slices. -/
def tilePacked (l : LoutRec) (per : Nat) : Nat :=
  if per == 0 then 0
  else (l.lamps / per) * packedBytes l per + (if l.lamps % per == 0 then 0 else packedBytes l (l.lamps % per))

/-- Canvas reads per lamp (R77). -/
def sampleReads (t : TileRec) : Nat :=
  match t.sample with
  | 0 => 1
  | 1 => 4
  | _ => ceilDiv t.pitchX 256 * ceilDiv t.pitchY 256

/-- One term of the traffic of R77: section and record index it comes from, the set, bytes per second. -/
structure Traffic where
  ty : Nat
  idx : Nat
  setId : Nat
  bps : Q
deriving DecidableEq, Repr

/-- An input's port paths (R63): none if host-written, two with ST 2022-7. -/
def InRec.paths (i : InRec) : List Nat :=
  match i.kind with | 0 => [i.portA] | 1 => [i.portA, i.portB] | _ => []

/-- Pixels per second of an input. -/
def InRec.pixelRate (i : InRec) : Q := (rate i.num i.den).mul (i.width * i.height)

/-- A layer with a zero size or without a source is disabled (R65, R66). -/
def LayRec.enabled (l : LayRec) : Bool :=
  l.inId != 0xFF && l.cropW != 0 && l.cropH != 0 && l.dstW != 0 && l.dstH != 0

/-- The terms of the memory traffic of R77, in location order; a disabled canvas disables its layers and tiles (R64). -/
def Plan.traffic (p : Plan) : List Traffic :=
  let f := p.fps
  let ins := p.inputs.zipIdx.flatMap (fun (i, k) => i.paths.map (fun _ => ⟨4, k, i.setId, i.pixelRate.mul 8⟩))
  let on := fun z => (p.canvas? z).any (·.enabled)
  let cans := p.canvases.zipIdx.flatMap (fun (c, k) =>
    if !c.enabled then [] else
    let px := f.mul (c.width * c.height * 8)
    ⟨5, k, c.setId, px⟩ ::
      (if c.wbScale == 0 then [] else [⟨5, k, c.wbSet, px.div (wbDiv c.wbScale * wbDiv c.wbScale)⟩]))
  let lays := p.layers.zipIdx.flatMap (fun (l, k) =>
    match p.input? l.inId with
    | some i => if l.enabled && on l.plaza then [⟨6, k, i.setId, f.mul (l.cropW * l.cropH * 8)⟩] else []
    | none => [])
  let tiles := p.tiles.zipIdx.flatMap (fun (t, k) =>
    match p.layout? t.layout, p.canvas? t.plaza with
    | some l, some c =>
      if !c.enabled then [] else
      let per := ((p.sched? t.id).map (·.sliceLamps)).getD 0
      [⟨8, k, c.setId, f.mul (l.lamps * sampleReads t * 8)⟩, ⟨8, k, t.lctSet, f.mul (l.lamps * 24)⟩] ++
        (if l.kind == 1 then [⟨8, k, l.posSet, f.mul (l.lamps * 8)⟩] else []) ++
        (if c.egress == 0 then [⟨8, k, c.outSet, f.mul (2 * tilePacked l per)⟩] else [])
    | _, _ => [])
  ins ++ cans ++ lays ++ tiles

/-- True when the set is isochronous (R60). -/
def Plan.isIso (p : Plan) (id : Nat) : Bool := (p.set? id).any (·.cls == 1)

/-- The traffic of one set. -/
def Plan.setTraffic (p : Plan) (id : Nat) : Q :=
  Q.sum ((p.traffic.filter (·.setId == id)).map (·.bps))

/-- The isochronous demand of DRAM (`sq` false) or Square, in bytes per second. -/
def Plan.demand (p : Plan) (sq : Bool) : Q :=
  let q := p.squareSets
  Q.sum ((p.traffic.filter (fun t => p.isIso t.setId && q.contains t.setId == sq)).map (·.bps))

/-- A demand in units of 10^6 bytes per second, rounded up (R90). -/
def mbps (r : Q) : Nat := (r.div 1000000).ceil

/-- Bytes per second that tiles and universes put on port `n` (R77). -/
def Plan.portTerms (p : Plan) (n : Nat) : List (Nat × Nat × Q) :=
  let f := p.fps
  (p.tiles.zipIdx.filterMap (fun (t, k) =>
    if t.port != n || !((p.canvas? t.plaza).any (·.enabled)) then none
    else match p.layout? t.layout, p.sched? t.id with
      | some l, some c =>
        some (8, k, f.mul (sliceCount l.lamps c.sliceLamps * 128 + tilePacked l c.sliceLamps))
      | _, _ => none)) ++
  (p.universes.zipIdx.filterMap (fun (u, k) =>
    if u.out != n then none
    else some (11, k, (f.mul (u.slots + 196)).div (max u.rateDiv 1))))

/-! ### Boulevard runs (R110) -/

/-- A run: lamps [65,536 k, 65,536 k + lamps) of a tile on Boulevard `blv`. -/
structure BlvRun where
  tile : Nat
  k : Nat
  lamps : Nat
  blv : Nat
deriving DecidableEq, Repr

/-- Lamps per run (R110). -/
def runLamps : Nat := 65536

/-- The position of the least element of a list, the first of equals. -/
def argMin (l : List Nat) : Nat :=
  (l.zipIdx.foldl (fun (acc : Nat × Nat) (x : Nat × Nat) => if x.1 < acc.1 then (x.1, x.2) else acc) (l.headD 0, 0)).2

/-- The assignment of runs to Boulevards: runs in ascending (TILE_ID, k), each to the Boulevard with the fewest lamps so
far, the lowest-numbered of equals (R110). Tiles of a disabled canvas have no runs (R64). -/
def Plan.runs (p : Plan) : List BlvRun :=
  let all := p.tiles.flatMap (fun t =>
    if !((p.canvas? t.plaza).any (·.enabled)) then []
    else match p.layout? t.layout with
      | none => []
      | some l => (List.range (ceilDiv l.lamps runLamps)).map (fun k => (t.id, k, min runLamps (l.lamps - k * runLamps))))
  (all.foldl (fun (acc : List Nat × List BlvRun) (r : Nat × Nat × Nat) =>
    let b := argMin acc.1
    (acc.1.set b (acc.1.getD b 0 + r.2.2), ⟨r.1, r.2.1, r.2.2, b⟩ :: acc.2)) (List.replicate 16 0, [])).2.reverse

end Sys2Proof.Machine
end

