-- ==== Sys2Proof/Machine/Time.lean ====
section
/-! DEFINITION. The passage of time (R15, R289 to R302): the Clocktower counter, its slew, the arming of the next frame
tick, and the moves of time that an expiry brings with it. -/

namespace Sys2Proof.Machine

/-- Units of 2^-32 ns in a second. -/
def secUnits : Nat := 1000000000 * 2 ^ 32

/-- The counter as one number of units of 2^-32 ns. -/
def CltState.units (c : CltState) : Nat := c.sec * secUnits + c.ns * 2 ^ 32 + c.frac
/-- The counter set to a number of units; the seconds field has 48 bits (R289). -/
def CltState.setUnits (c : CltState) (v : Nat) : CltState :=
  { c with sec := v / secUnits % 2 ^ 48, ns := v / 2 ^ 32 % 1000000000, frac := v % 2 ^ 32 }

/-- The increment per TICK cycle in units (R290). -/
def State.incr (s : State) : Nat := s.fld Reg.cltIncrHi 0 8 * 2 ^ 32 + (s.rd Reg.cltIncrLo).toNat
/-- The slew term of a whole cycle (R291). -/
def slewStep : Nat := 0xA0000

/-- What `n` cycles take off a slew's remainder. -/
def slewUsed (rem : Int) (n : Nat) : Int :=
  let m : Int := (min rem.natAbs (n * slewStep) : Nat)
  if rem < 0 then -m else m

/-- The counter's advance in `n` TICK cycles (R289, R291). -/
def State.advanceBy (s : State) (n : Nat) : Nat := (((n * s.incr : Nat) : Int) + slewUsed s.clt.slew n).toNat

/-- `n` TICK cycles pass for the counter. -/
def State.runClock (s : State) (n : Nat) : State :=
  let c := s.clt
  let c' := c.setUnits (c.units + s.advanceBy n)
  let s := { s with clt := { c' with slew := c.slew - slewUsed c.slew n, elapsed := c.elapsed + n } }
  if c.slew == 0 then s else s.setF Reg.cltStatus 6 1 (bit (s.clt.slew != 0))

/-- FRAME_NUM and FRAME_DEN of the plan in force, 60/1 without one (R301, R83). -/
def State.frameRate (s : State) : Nat × Nat :=
  match s.plan with
  | some p => if p.sys.num == 0 then (60, 1) else (p.sys.num, p.sys.den)
  | none => (60, 1)

/-- CLT_FOFFSET in ns (R301). -/
def State.foffset (s : State) : Int := signed 32 (s.rd Reg.cltFoffset).toNat

/-- Grid point `k` of the grid shifted by `off` ns, times N, in units of 2^-32 ns / N: exact (R301). -/
def State.gridWith (s : State) (off : Int) (k : Int) : Int :=
  let (n, d) := s.frameRate
  k * ((d * secUnits : Nat) : Int) + off * ((2 ^ 32 * n : Nat) : Int)
/-- Grid point `k` times N, in units of 2^-32 ns / N: exact (R301). -/
def State.gridTimesN (s : State) (k : Int) : Int := s.gridWith s.foffset k

/-- The index of the smallest grid point not below a counter value in units (R302). -/
def State.gridFrom (s : State) (units : Nat) : Int :=
  let (n, d) := s.frameRate
  let a : Int := ((units * n : Nat) : Int) - s.foffset * ((2 ^ 32 * n : Nat) : Int)
  Int.neg ((-a) / ((d * secUnits : Nat) : Int))

/-- T of grid point `k`: rounded down to whole nanoseconds (R301). -/
def State.gridNs (s : State) (k : Int) : Nat :=
  let (n, _) := s.frameRate
  (s.gridTimesN k / ((2 ^ 32 * n : Nat) : Int)).toNat

/-- T of the grid point armed as `k`: a FOFFSET write takes effect at the next grid computation (R303). -/
def State.armedNs (s : State) (k : Int) : Nat :=
  let (n, _) := s.frameRate
  (s.gridWith s.clt.off k / ((2 ^ 32 * n : Nat) : Int)).toNat

/-- T of the current frame in nanoseconds, as CLT_FT holds it: the grid point of its boundary rounded down (R301, R205). -/
def State.frameT (s : State) : Nat :=
  (s.rd Reg.cltFtSecHi).toNat * 2 ^ 32 * 1000000000 + (s.rd Reg.cltFtSecLo).toNat * 1000000000 + (s.rd Reg.cltFtNs).toNat

/-- P_min in TICK cycles (R302). -/
def State.pMin (s : State) : Nat :=
  let (n, d) := s.frameRate
  ceilDiv (1000000000 * d * 4 * 4095) (n * 10 * 4096)

/-- `n` TICK cycles pass, with the arming of the next frame tick (R302). -/
def State.ticks (s : State) (n : Nat) : State :=
  let e := s.clt.elapsed
  if s.clt.armed.isSome || e + n < s.pMin then s.runClock n
  else
    let m := s.pMin - e
    let s := s.runClock m
    let s := { s with clt := { s.clt with armed := some (s.gridFrom s.clt.units), off := s.foffset } }
    s.runClock (n - m)

/-- `r` ROOT cycles pass; the counter stands still in Reset (R15, R289). -/
def State.elapse (s : State) (r : Nat) : State :=
  let n := (s.now + r) / 24 - s.now / 24
  let s := { s with now := s.now + r }
  if s.mode.mode == .reset || n == 0 then s else s.ticks n

/-- Time moves to a ROOT time that lies ahead: an expiry brings its instant with it. -/
def State.at_ (s : State) (t : Nat) : State := if s.now < t then s.elapse (t - s.now) else s

/-- The least number of cycles up to `2 ^ (k + 1)` beyond `base` whose advance reaches `goal`, bit by bit from above. -/
def State.cyclesBits (s : State) (goal : Nat) : Nat → Nat → Nat
  | 0, base => if s.advanceBy base ≥ goal then base else base + 1
  | k + 1, base => State.cyclesBits s goal k (if s.advanceBy (base + 2 ^ k) < goal then base + 2 ^ k else base)

/-- The number of TICK cycles until the counter reaches a value, 0 when it has. -/
def State.cyclesTo (s : State) (units : Nat) : Nat :=
  if units ≤ s.clt.units then 0 else s.cyclesBits (units - s.clt.units) 60 0

/-- `n` whole TICK cycles pass. -/
def State.passTicks (s : State) (n : Nat) : State := if n == 0 then s else s.elapse (24 * n - s.now % 24)

/-- Time moves until the next frame tick is armed and the counter has reached its grid point (R302). -/
def State.toTick (s : State) : State :=
  let s := if s.clt.armed.isSome then s else s.passTicks (max 1 (s.pMin - s.clt.elapsed))
  match s.clt.armed with
  | none => s
  | some k =>
    let (n, _) := s.frameRate
    let goal := (-((-(s.gridWith s.clt.off k)) / (n : Int))).toNat
    s.passTicks (s.cyclesTo goal)

/-- Microseconds in ROOT cycles. -/
def usRoot (n : Nat) : Nat := n * 9600
/-- Milliseconds in ROOT cycles. -/
def msRoot (n : Nat) : Nat := n * 9600000

end Sys2Proof.Machine
end

