-- ==== Sys2Proof/Machine/Lots.lean ====
section
/-! DEFINITION. The Lot Manager (R91 to R131): handles, frames and sets, quotas and the shared pool, allocation requests,
freeing and zero-fill, BAR2 windows, migration, poison and retirement. -/

namespace Sys2Proof.Machine

/-! ### Frames, handles and addresses -/

/-- Bytes of a lot (R4). -/
def lotBytes : Nat := 2097152
/-- 64-byte blocks of a lot. -/
def lotBlocks : Nat := 32768

/-- The frame a handle's lot lies in: frames 0 to 8,191 and spares 8,192 to 8,223 are DRAM, 8,224 on are Square
(R91, R92); the frame of a handle's number unless retirement moved it (R93). -/
def State.frameOf (s : State) (h : Nat) : Nat :=
  s.lot.frame.get (if h < 0x8000 then h else 8224 + (h - 0x8000)) h

/-- True for a frame of DRAM, spares included. -/
def isDramFrame (f : Nat) : Bool := f < 8224

/-- The memory address of byte `off` of the lot of handle `h`. -/
def State.cellAddr (s : State) (h off : Nat) : Nat := s.frameOf h * lotBytes + off

/-- The channel of an address: block k of 4 KiB of DRAM frame f lies in channel (f + k) mod 32; none of Square (R91). -/
def dramChannel (a : Nat) : Option Nat :=
  let f := a / lotBytes
  if isDramFrame f then some ((f + a % lotBytes / 4096) % 32) else none

/-- Alley traffic of a host: `n` bytes of a run of addresses, counted by their channels (R118, R521). -/
def State.alley (s : State) (f : Nat → Nat) (off n : Nat) : State :=
  (List.range n).foldl (fun s i => match dramChannel (f (off + i)) with
    | some c => s.bw (Reg.pmcBwChan c 1) 1
    | none => s) s

/-- The set with this number, if it exists. -/
def State.set? (s : State) (id : Nat) : Option LotSet := s.lot.sets.find? (·.id == id)

/-- Bytes of a set. -/
def LotSet.bytes (x : LotSet) : Nat := x.handles.length * lotBytes

/-- Insert a set by rising SET_ID, replacing one of the same number. -/
def putSet (l : List LotSet) (x : LotSet) : List LotSet :=
  (l.filter (·.id < x.id)) ++ [x] ++ (l.filter (fun y => y.id > x.id))

/-- The state with a set added or replaced. -/
def State.putSet (s : State) (x : LotSet) : State :=
  { s with lot := { s.lot with sets := Machine.putSet s.lot.sets x } }

/-- The memory address of byte `off` of the set whose lots these handles name. -/
def State.addrIn (s : State) (handles : List Nat) (off : Nat) : Nat :=
  s.cellAddr (handles.getD (off / lotBytes) 0) (off % lotBytes)

/-- The bytes of a set from `off` on; the caller has checked the range. -/
def State.readSet (s : State) (x : LotSet) (off n : Nat) : List Byte :=
  (List.range n).map (fun i => Mem.read s.mem (s.addrIn x.handles (off + i)))

/-- The bytes of the set numbered `id` from `off` on; 0 where the set does not exist. -/
def State.readSetId (s : State) (id off n : Nat) : List Byte :=
  match s.set? id with
  | none => List.replicate n 0
  | some x => s.readSet x off n

/-- The poisoned block an address lies in. -/
def blockOf (a : Nat) : Nat := a / 64

/-- True when a poisoned block lies among `n` bytes of a run of addresses (R123). -/
def State.poisonedCells (s : State) (f : Nat → Nat) (off n : Nat) : Bool :=
  !s.lot.poison.isEmpty && (List.range n).any (fun i => s.lot.poison.contains (blockOf (f (off + i))))

/-- True when a poisoned block lies in the range of a set (R123). -/
def State.poisoned (s : State) (x : LotSet) (off n : Nat) : Bool := s.poisonedCells (s.addrIn x.handles) off n

/-- Bytes written to a run of addresses given by a function; blocks covered whole lose their poison (R123). -/
def State.writeCells (s : State) (f : Nat → Nat) (off : Nat) (bytes : List Byte) : State :=
  let n := bytes.length
  let mem := bytes.zipIdx.foldl (fun m (b, i) => Mem.write m (f (off + i)) b) s.mem
  let whole := if s.lot.poison.isEmpty then []
    else ((List.range n).filter (fun i => (off + i) % 64 == 0 && i + 64 ≤ n)).map (fun i => blockOf (f (off + i)))
  { s with mem := mem, lot := { s.lot with poison := s.lot.poison.filter (!whole.contains ·) } }

/-- The frame a retirement under way copies to, of the handle it moves. -/
def State.retiring (s : State) (h : Nat) : Option Nat :=
  match s.lot.copy with
  | some { kind := .retire h' sp, .. } => if h == h' then some sp else none
  | _ => none

/-- The handles of the new copies of a set that is being copied: by a migration (R114), by an apply that moves it (R82). -/
def State.newCopies (s : State) (x : LotSet) : List (List Nat) :=
  let mig := match s.lot.copy with
    | some c => if c.setId == x.id && !c.newHandles.isEmpty then [c.newHandles] else []
    | none => []
  let move := match s.tpl.pend with
    | some p => if p.wants.any (fun w => w.id == x.id && w.move) then (p.grants.filter (·.1 == x.id)).map (·.2) else []
    | none => []
  mig ++ move

/-- Where byte `off` of a set lies: its own lots, every new copy of it, and the spare frame that a lot of it is retired to
(R82, R114, R124). -/
def State.places (s : State) (x : LotSet) : List (Nat → Nat) :=
  let spare := fun off => match s.retiring (x.handles.getD (off / lotBytes) 0) with
    | some sp => sp * lotBytes + off % lotBytes
    | none => s.addrIn x.handles off
  [s.addrIn x.handles] ++ (s.newCopies x).map s.addrIn ++ (if x.handles.any (fun h => (s.retiring h).isSome) then [spare] else [])

/-- Bytes written to a set; while the set or a lot of it is copied, the write goes to every copy (R82, R114, R124). -/
def State.writeSet (s : State) (x : LotSet) (off : Nat) (bytes : List Byte) : State :=
  (s.places x).foldl (fun s f => s.writeCells f off bytes) s

/-- A write of a host, of ingress or of a work item to a set; one to a Town Plan set of a mirrored district goes to the
peer as well (R484). -/
def State.writeShared (s : State) (x : LotSet) (off : Nat) (bytes : List Byte) : State :=
  let s := s.writeSet x off bytes
  if (s.pl.set? x.id).isSome then s.mirrorTo x.dist (.lotWrite x.id off bytes) else s

/-- Bytes written to the set numbered `id`, if it exists and the range lies in it. -/
def State.writeSetId (s : State) (id off : Nat) (bytes : List Byte) : State :=
  match s.set? id with
  | some x => if off + bytes.length ≤ x.bytes then s.writeSet x off bytes else s
  | none => s

/-- Mark the blocks of a range of a set as poisoned, in every copy of it (R114, R123). -/
def State.poisonRange (s : State) (x : LotSet) (off n : Nat) : State :=
  let bs := ((s.places x).flatMap (fun f => (List.range n).map (fun i => blockOf (f (off + i))))).eraseDups
  { s with lot := { s.lot with poison := s.lot.poison ++ bs.filter (!s.lot.poison.contains ·) } }

/-- A set of district `d` that holds the range [off, off + n). -/
def State.setRange (s : State) (d id off n : Nat) : Option LotSet :=
  match s.set? id with
  | some x => if x.dist == d && off + n ≤ x.bytes then some x else none
  | none => none

/-! ### Free lots -/

/-- Number of handles in a list of ranges. -/
def rangeCount (l : List (Nat × Nat)) : Nat := sumOf (l.map (fun r => r.2 - r.1))

/-- The lowest `n` handles of the ranges, and the ranges without them (R93). -/
def takeRanges : List (Nat × Nat) → Nat → List Nat × List (Nat × Nat)
  | [], _ => ([], [])
  | (lo, hi) :: t, n =>
    if n < hi - lo then ((List.range n).map (lo + ·), (lo + n, hi) :: t)
    else
      let r := takeRanges t (n - (hi - lo))
      ((List.range (hi - lo)).map (lo + ·) ++ r.1, r.2)

/-- The ranges with one more handle. -/
def addRange : List (Nat × Nat) → Nat → List (Nat × Nat)
  | [], h => [(h, h + 1)]
  | (lo, hi) :: t, h =>
    if h + 1 < lo then (h, h + 1) :: (lo, hi) :: t
    else if h + 1 == lo then (h, hi) :: t
    else if h < hi then (lo, hi) :: t
    else if h == hi then
      match t with
      | (lo', hi') :: t' => if h + 1 == lo' then (lo, hi') :: t' else (lo, h + 1) :: t
      | [] => [(lo, h + 1)]
    else (lo, hi) :: addRange t h

/-- The ranges without one handle. -/
def dropRange (l : List (Nat × Nat)) (h : Nat) : List (Nat × Nat) :=
  l.flatMap (fun r =>
    if r.1 ≤ h && h < r.2 then [(r.1, h), (h + 1, r.2)].filter (fun x => x.1 < x.2) else [r])

/-- True when a handle is in the ranges. -/
def inRanges (l : List (Nat × Nat)) (h : Nat) : Bool := l.any (fun r => r.1 ≤ h && h < r.2)

/-- Free, zero-filled lots of a kind (R128). -/
def State.freeLots (s : State) (sq : Bool) : Nat := rangeCount (if sq then s.lot.freeQ else s.lot.freeD)

/-- The lowest-numbered free handles of a kind, taken (R93). -/
def State.takeLots (s : State) (sq : Bool) (n : Nat) : List Nat × State :=
  if sq then
    let r := takeRanges s.lot.freeQ n
    (r.1, { s with lot := { s.lot with freeQ := r.2 } })
  else
    let r := takeRanges s.lot.freeD n
    (r.1, { s with lot := { s.lot with freeD := r.2 } })

/-- Freed handles go to zero-fill before they count as free (R104). -/
def State.scrubLots (s : State) (hs : List Nat) : State := { s with lot := { s.lot with scrub := s.lot.scrub ++ hs } }

/-! ### Quotas (R94) -/

/-- The districts. -/
def allDists : List Nat := [0, 1, 2, 3, 7]

/-- Guarantee of a district for a memory kind. -/
def State.guar (s : State) (d : Nat) (sq : Bool) : Nat :=
  match s.pl.district? d with | some r => if sq then r.guarQ else r.guarD | none => 0
/-- Borrow limit of a district for a memory kind. -/
def State.borrow (s : State) (d : Nat) (sq : Bool) : Nat :=
  match s.pl.district? d with | some r => if sq then r.borQ else r.borD | none => 0

/-- Lots allocated to a pending apply for sets of district `d` in a memory kind. -/
def State.pendingLots (s : State) (d : Nat) (sq : Bool) : Nat :=
  match s.tpl.pend with
  | some p => if p.allocated then sumOf ((p.wants.filter (fun w => w.dist == d && w.sq == sq)).map (·.lots)) else 0
  | none => 0

/-- Lots that district `d` holds in DRAM or in Square (H_d): its sets, the new copy of a migration, and what a pending apply
has been granted. -/
def State.held (s : State) (d : Nat) (sq : Bool) : Nat :=
  let sets := sumOf ((s.lot.sets.filter (fun x => x.dist == d && x.inSq == sq)).map (·.handles.length)) + s.pendingLots d sq
  match s.lot.copy with
  | some c =>
    let toSq := c.kind == CopyKind.promote
    if (s.set? c.setId).any (·.dist == d) && !c.newHandles.isEmpty && toSq == sq then sets + c.newHandles.length else sets
  | none => sets

/-- Square lots that the district's promoted sets hold. -/
def State.promotedLots (s : State) (d : Nat) : Nat :=
  sumOf ((s.lot.sets.filter (fun x => x.dist == d && x.promoted)).map (·.handles.length))

/-- The lots of H_d that demotion cannot give back (R115). -/
def State.heldFirm (s : State) (d : Nat) (sq : Bool) : Nat := s.held d sq - (if sq then s.promotedLots d else 0)

/-- borrowed_d after `extra` more lots. -/
def State.borrowed (s : State) (d : Nat) (sq : Bool) (extra : Nat := 0) : Nat := s.held d sq + extra - s.guar d sq

/-- The pool P of a memory kind. -/
def State.pool (s : State) (sq : Bool) : Nat :=
  (if sq then 64 else 8188) - sumOf (allDists.map (fun d => s.guar d sq))

/-- Lots that the parts of a request ask of a district in a kind. -/
def partLots (parts : List (Nat × Bool × Nat)) (d : Nat) (sq : Bool) : Nat :=
  sumOf ((parts.filter (fun p => p.1 == d && p.2.1 == sq)).map (fun p => p.2.2))

/-- The limits of R94 after a grant of these parts. -/
def State.quotaOk (s : State) (parts : List (Nat × Bool × Nat)) : Bool :=
  [false, true].all (fun sq =>
    allDists.all (fun d => partLots parts d sq == 0 || s.borrowed d sq (partLots parts d sq) ≤ s.borrow d sq) &&
    (partLots parts 0 sq + partLots parts 1 sq + partLots parts 2 sq + partLots parts 3 sq + partLots parts 7 sq == 0 ||
      sumOf (allDists.map (fun d => s.borrowed d sq (partLots parts d sq))) ≤ s.pool sq))

/-- True when free, zero-filled lots for these parts exist. -/
def State.lotsThere (s : State) (parts : List (Nat × Bool × Nat)) : Bool :=
  [false, true].all (fun sq => sumOf (allDists.map (fun d => partLots parts d sq)) ≤ s.freeLots sq)

/-- need(r): the pool lots a request needs, evaluated afresh (R94); lots that demotion gives back are not lots of the pool
(R95, R115). -/
def State.needOf (s : State) (parts : List (Nat × Bool × Nat)) : Nat :=
  sumOf ([false, true].flatMap (fun sq =>
    allDists.map (fun d => (s.heldFirm d sq + partLots parts d sq - s.guar d sq) - (s.heldFirm d sq - s.guar d sq))))

/-- The parts of a request. -/
def WaitReq.asked (r : WaitReq) : List (Nat × Bool × Nat) :=
  if r.slot.isSome then [(r.dist, r.sq, r.lots)] else r.parts

/-- Square lots of promoted sets of district `d` that `n` more Square lots need: what the district would hold beyond its
guarantee and beyond what it would hold without its promoted sets (R115). -/
def State.inTheWay (s : State) (d n : Nat) : Nat :=
  if n == 0 then 0 else s.held d true + n - max (s.guar d true) (s.heldFirm d true + n)

/-- True when no promoted set has to be demoted for these parts (R95, R115). -/
def State.demoted (s : State) (parts : List (Nat × Bool × Nat)) : Bool :=
  allDists.all (fun d => s.inTheWay d (partLots parts d true) == 0)

/-- These parts can be granted: within R94, with the lots at hand and no demotion to wait for. -/
def State.grantable (s : State) (parts : List (Nat × Bool × Nat)) : Bool :=
  s.quotaOk parts && s.lotsThere parts && s.demoted parts

/-- fits(r) of R101, with the lots at hand. -/
def State.fits (s : State) (r : WaitReq) : Bool := s.grantable r.asked

/-! ### Grants -/

/-- The lowest run-time SET_ID free (R99). -/
def State.freshId (s : State) : Nat :=
  ((List.range 4096).find? (fun i => (s.set? (0x1000 + i)).isNone)).getD 0 + 0x1000

/-- The LOT event of a district (R130). -/
def State.lotEvent (s : State) (d : Nat) : State := s.raise d 5 2

/-- The key of a district's LOT_RSTATk. -/
def rstatKey (d k : Nat) : Nat := distKey (slotOf d) (Reg.lotRstat k)
/-- The district whose values the LOT registers report to an initiator: a host's own, for the house district the one that
LOT_DSEL selects (R127, R128). -/
def State.lotDist (s : State) (init : InitId) : Nat :=
  if isHost init then distOf init else s.fld (initKey init Reg.lotDsel) 0 3
/-- The number of a district: 0 to 3, or 7 for the house district (R16). -/
def isDistrict (d : Nat) : Bool := decide (d < 4) || d == houseDist

/-- A run-time request granted: it takes the lowest free SET_ID and handles, and its slot becomes granted (R99, R130). -/
def State.grantRun (s : State) (d k : Nat) (sq : Bool) (lots base : Nat) : State :=
  let id := s.freshId
  let r := s.takeLots sq lots
  let s := r.2.putSet { id := id, dist := d, cls := 0, place := 0, inSq := sq, handles := r.1,
                        base := if lots == 0 then 0xFFFF else base }
  (s.wr (rstatKey d k) (pack [(16, id), (3, 1), (0, 2)])).lotEvent d

/-- Handles for every set an apply wants, all or none (R97, R98). -/
def State.allocWants (s : State) (wants : List Want) : List (Nat × List Nat) × State :=
  wants.foldl (fun acc w =>
    let r := acc.2.takeLots w.sq w.lots
    (acc.1 ++ [(w.id, r.1)], r.2)) ([], s)

/-- A waiting request granted. -/
def State.grantReq (s : State) (r : WaitReq) : State :=
  let s := { s with lot := { s.lot with waiting := s.lot.waiting.filter (· != r) } }
  match r.slot with
  | some k => s.grantRun r.dist k r.sq r.lots r.base
  | none =>
    match s.tpl.pend with
    | none => s
    | some p =>
      let g := s.allocWants p.wants
      let s := { g.2 with tpl := { g.2.tpl with pend := some { p with allocated := true, grants := g.1 } } }
      s.mirrorTo houseDist (.livePlan p.chk.image (s.frame + 1))

/-- A request outside the pool considered afresh: it is granted as its lots come; one that needs pool lots by now joins the
requests of the pass (R94, R95, R102). -/
def State.recheck (s : State) (r : WaitReq) : State :=
  if s.needOf r.asked != 0 then
    { s with lot := { s.lot with waiting := s.lot.waiting.map (fun x => if x == r then { x with why := .pool } else x) } }
  else if s.fits r then s.grantReq r
  else s

/-- Requests that wait for zero-fill or for a demotion, oldest first, before the pass (R95, R115). -/
def State.recheckAll (s : State) : State := (s.lot.waiting.filter (·.why != .pool)).foldl State.recheck s

/-- The oldest pool request of a district (R101). -/
def State.oldest (s : State) (d : Nat) : Option WaitReq := s.lot.waiting.find? (fun r => r.dist == d && r.why == .pool)

/-- Districts in round-robin order from the one after `last`. -/
def rrOrder (last : Nat) : List Nat := (allDists.filter (· > last)) ++ (allDists.filter (· ≤ last))

/-- What one scan of the waiting districts does (R101). -/
inductive Scan where
  | granted
  | headSet
  | nothing
deriving DecidableEq, Repr

/-- One round of R101 over the waiting districts in order. -/
def State.scan (s : State) : List Nat → Scan × State
  | [] => (.nothing, s)
  | d :: t =>
    match s.oldest d with
    | none => State.scan s t
    | some r =>
      let n := s.needOf r.asked
      let c := s.lot.credit.get 0 d
      if c ≥ n then
        if s.fits r then
          let s := s.grantReq r
          (.granted, { s with lot := { s.lot with credit := s.lot.credit.set d (c - n), last := d } })
        else
          let w := s.lot.waiting.map (fun x => if x == r then { x with isHead := true } else x)
          (.headSet, { s with lot := { s.lot with waiting := w } })
      else State.scan s t

/-- The weight of a district (R58). -/
def State.weight (s : State) (d : Nat) : Nat := ((s.pl.district? d).map (·.weight)).getD 1

/-- The deficit round-robin pass of R101; `fuel` bounds its rounds. -/
def State.pass : Nat → State → State
  | 0, s => s
  | fuel + 1, s =>
    let waiting := allDists.filter (fun d => (s.oldest d).isSome)
    let cr : Tab Nat := allDists.foldl (fun c d => if waiting.contains d then c else Tab.set c d 0) s.lot.credit
    let s := { s with lot := { s.lot with credit := cr } }
    if waiting.isEmpty then s
    else
      match s.lot.waiting.find? (·.isHead) with
      | some r => if s.fits r then State.pass fuel (s.grantReq r) else s
      | none =>
        match s.scan ((rrOrder s.lot.last).filter waiting.contains) with
        | (.granted, s) => State.pass fuel s
        | (.headSet, s) => s
        | (.nothing, s) =>
          let cr : Tab Nat := waiting.foldl (fun c d => Tab.upd c 0 d (· + s.weight d)) s.lot.credit
          State.pass fuel { s with lot := { s.lot with credit := cr } }

/-- Rounds that suffice for any pass: every round grants, stops or adds at least one lot of credit. -/
def passFuel : Nat := 100000

/-! ### Retirement (R124, R125) -/

/-- The handle whose lot lies in frame `f`. -/
def State.handleOf (s : State) (f : Nat) : Option Nat :=
  match List.find? (fun (e : Nat × Nat) => e.2 == f) s.lot.frame with
  | some e => some e.1
  | none => if f < 8192 && (s.lot.frame.find? f).isNone then some f else none

/-- The set that holds a handle. -/
def State.setOfHandle (s : State) (h : Nat) : Option LotSet := s.lot.sets.find? (·.handles.contains h)

/-- The district owning the lot of a frame, 0xFF for none. -/
def State.frameDist (s : State) (f : Nat) : Nat :=
  let h := if isDramFrame f then s.handleOf f else some (0x8000 + (f - 8224))
  match h.bind s.setOfHandle with | some x => x.dist | none => 0xFF

/-- Spare frames remaining (R131). -/
def State.sparesLeft (s : State) : Nat := 32 - s.lot.spares

/-- The number of a spare frame taken: the lowest-numbered one left. -/
def State.nextSpare (s : State) : Nat := 8192 + s.lot.spares

/-- LOT_SPARE, kept in the settings store (R131). -/
def State.noteSpare (s : State) : State :=
  let v := pack [(0, 32 - s.lot.spares), (8, s.lot.spares)]
  { s.wr Reg.lotSpare v with nv := s.nv.set Reg.lotSpare v }

/-- The record of a retirement or of spares exhausted (R124). -/
def State.retireRecord (s : State) (h code : Nat) : State :=
  s.report { block := 2, code := code, sev := 1, init := 0x49,
             dist := match s.setOfHandle h with | some x => x.dist | none => 0xFF, addr := h * 2 ^ 48 }

/-- The lot of handle `h` moved to a spare frame for good (R124). -/
def State.retireTo (s : State) (h sp : Nat) : State :=
  let s := { s with lot := { s.lot with frame := s.lot.frame.set h sp, spares := sp - 8192 + 1 } }
  ((s.noteSpare.retireRecord h 0x09).count 2 0 2)

/-- The first frame of the retirement queue: a free lot or one being freed moves without a copy, another starts a copy
(R125). -/
def State.serveRetire1 (s : State) : State :=
  match s.lot.copy, s.lot.retireQ with
  | none, f :: t =>
    let s := { s with lot := { s.lot with retireQ := t } }
    match s.handleOf f with
    | none => s
    | some h =>
      if s.sparesLeft == 0 then s.retireRecord h 0x0A
      else
        let sp := s.nextSpare
        if inRanges s.lot.freeD h || s.lot.scrub.contains h then
          let s := s.retireTo h sp
          { s with lot := { s.lot with freeD := dropRange s.lot.freeD h,
                                       scrub := (s.lot.scrub.filter (· != h)) ++ [h] } }
        else { s with lot := { s.lot with copy := some { kind := .retire h sp } } }
  | _, _ => s

/-- The retirement queue served until a copy is in progress or no frame waits (R125). -/
def State.serveRetire (s : State) : State := (List.range s.lot.retireQ.length).foldl (fun s _ => s.serveRetire1) s

/-- A frame becomes due for retirement; one that holds a lot of a migration's new copy cancels the migration and is retired
at once (R124, R125). -/
def State.dueRetire (s : State) (f : Nat) : State :=
  if !isDramFrame f || s.lot.retireQ.contains f || (s.handleOf f).isNone then s
  else
    match s.lot.copy, s.handleOf f with
    | some c, some h =>
      if c.newHandles.contains h then
        let s := { s with lot := { s.lot with copy := none, retireQ := f :: s.lot.retireQ } }
        (s.scrubLots c.newHandles).serveRetire
      else { s with lot := { s.lot with retireQ := s.lot.retireQ ++ [f] } }
    | _, _ => { s with lot := { s.lot with retireQ := s.lot.retireQ ++ [f] } }.serveRetire

/-! ### Migration (R113 to R115) -/

/-- The copy of a set's bytes and poison from one list of handles to another (R114, R124). -/
def State.copyLots (s : State) (src dst : List Nat) : State :=
  (src.zip dst).foldl (fun s (a, b) =>
    let fa := s.frameOf a
    let fb := s.frameOf b
    let cells := List.filter (fun (c : Host.Cell) => c.1 / lotBytes == fa) s.mem
    let mem := cells.foldl (fun m c => Mem.write m (fb * lotBytes + c.1 % lotBytes) c.2)
      (Mem.clear s.mem (fun a => a / lotBytes == fb))
    let ps := (s.lot.poison.filter (fun k => k / lotBlocks == fa)).map (fun k => fb * lotBlocks + k % lotBlocks)
    { s with mem := mem, lot := { s.lot with
        poison := (s.lot.poison.filter (fun k => k / lotBlocks != fb)) ++ ps } }) s

/-- The contents of a handle's lot copied into a spare frame, poison as it stands (R124). -/
def State.copyFrame (s : State) (h sp : Nat) : State :=
  let fa := s.frameOf h
  let cells := List.filter (fun (c : Host.Cell) => c.1 / lotBytes == fa) s.mem
  let mem := cells.foldl (fun m c => Mem.write m (sp * lotBytes + c.1 % lotBytes) c.2)
    (Mem.clear s.mem (fun a => a / lotBytes == sp))
  let ps := (s.lot.poison.filter (fun k => k / lotBlocks == fa)).map (fun k => sp * lotBlocks + k % lotBlocks)
  { s with mem := mem, lot := { s.lot with poison := (s.lot.poison.filter (fun k => k / lotBlocks != sp)) ++ ps } }

/-- Candidates of district `d` for promotion (R113). R113 does not speak of zero-fill or of empty sets: the model passes
over a set while too few Square lots are zero-filled, and a set without lots, which has no traffic per lot, is no candidate
(DESIGN CHOICE, log 227). -/
def State.candidates (s : State) (d : Nat) : List LotSet :=
  let p := s.pl
  let inSq := (s.lot.sets.filter (·.inSq)).map (·.id)
  let total := Q.sum ((p.traffic.filter (fun t => p.isIso t.setId && inSq.contains t.setId)).map (·.bps))
  s.lot.sets.filter (fun x =>
    x.dist == d && x.cls == 1 && !x.inSq && (x.place == 0 || x.place == 1) && x.handles.length != 0 &&
    x.handles.length + s.held d true ≤ s.guar d true && x.handles.length ≤ s.freeLots true &&
    (total.add (p.setTraffic x.id)).le (Q.ofNat 3000000000000))

/-- True when candidate `a` ranks before `b` (R113). -/
def State.ranksBefore (s : State) (a b : LotSet) : Bool :=
  let ta := (s.pl.setTraffic a.id).div a.handles.length
  let tb := (s.pl.setTraffic b.id).div b.handles.length
  if a.place != b.place then a.place == 1
  else if Q.lt tb ta then true
  else if Q.lt ta tb then false
  else a.id < b.id

/-- The first of a list under a ranking. -/
def bestOf {α : Type} (before : α → α → Bool) : List α → Option α
  | [] => none
  | x :: t => some (t.foldl (fun b y => if before y b then y else b) x)

/-- Migration evaluation: promote the first candidate found (R113). -/
def State.migEvaluate (s : State) : State :=
  let s := { s with lot := { s.lot with sinceEval := 0 } }
  if s.lot.copy.isSome || !s.lot.retireQ.isEmpty then s
  else
    match allDists.findSome? (fun d => bestOf s.ranksBefore (s.candidates d)) with
    | none => s
    | some x =>
      let r := s.takeLots true x.handles.length
      { r.2 with lot := { r.2.lot with copy := some { kind := .promote, setId := x.id, newHandles := r.1 } } }

/-- Square lots of promoted sets of district `d` that the waiting requests need (R115). -/
def State.toDemote (s : State) (d : Nat) : Nat := s.inTheWay d (sumOf (s.lot.waiting.map (fun r => partLots r.asked d true)))

/-- Start the demotion of the promoted set of district `d` with the least traffic per lot (R115). The specification does not
say where its DRAM lots come from: the model takes free lots, outside the limits of R94 and past a waiting head, since the set
counts as DRAM already; with too few free lots the demotion waits (DESIGN CHOICE, log 228). -/
def State.demoteNext (s : State) (d : Nat) : State :=
  if s.lot.copy.isSome || !s.lot.retireQ.isEmpty then s
  else
    let before := fun (a b : LotSet) =>
      Q.lt ((s.pl.setTraffic a.id).div (max a.handles.length 1)) ((s.pl.setTraffic b.id).div (max b.handles.length 1))
    match bestOf before (s.lot.sets.filter (fun x => x.dist == d && x.promoted)) with
    | none => s
    | some x =>
      if x.handles.length > s.freeLots false then s
      else
        let r := s.takeLots false x.handles.length
        { r.2 with lot := { r.2.lot with copy := some { kind := .demote, setId := x.id, newHandles := r.1 } } }

/-- The next demotion that a waiting request needs starts (R115). -/
def State.startDemotion (s : State) : State :=
  allDists.foldl (fun s d => if s.toDemote d == 0 then s else s.demoteNext d) s

/-- Requests outside the pool considered afresh, and the next demotion (R95, R115). -/
def State.serveDemotion (s : State) : State := s.recheckAll.startDemotion

/-- What happens whenever lots become free or requests have arrived (R95, R101, R115). -/
def State.lotsFreed (s : State) : State := (State.pass passFuel s.recheckAll).startDemotion

/-- MIGRATION_EVALUATION: every MIG_INTERVAL frames the device looks for a set to promote (R113). -/
def execMigrationEvaluation (s : State) : Host.Outcome State Fault Refusal :=
  let s := s.begin
  let n := s.fld Reg.lotCtl 0 16
  .next (if n == 0 || s.lot.sinceEval < n then s else s.migEvaluate)

/-- A set's contents copied into the lots an apply gave it (R82). -/
def State.applyMove (s : State) : State :=
  match s.tpl.pend with
  | some p =>
    match p.moves with
    | [] => s
    | id :: t =>
      let s := match s.set? id, p.grants.find? (·.1 == id) with
        | some x, some g => s.copyLots x.handles g.2
        | _, _ => s
      { s with tpl := { s.tpl with pend := some { p with moves := t } } }
  | none => s

/-- MIGRATION_COPY_DONE: a migration or retirement copy completes and awaits the switch; with none in progress, the copy
of a set that a full apply moves completes (R114, R124, R82). -/
def execMigrationCopyDone (s : State) : Host.Outcome State Fault Refusal :=
  let s := s.begin
  .next (match s.lot.copy with
    | some c =>
      if c.done then s
      else
        let s := match c.kind with
          | .retire h sp => s.copyFrame h sp
          | _ => match s.set? c.setId with | some x => s.copyLots x.handles c.newHandles | none => s
        { s with lot := { s.lot with copy := some { c with done := true } } }
    | none => s.applyMove)

/-- MIGRATION_SWITCH: at the first frame boundary after the copy, accesses switch to the new copy and the old lots are
freed (R114, R124). -/
def execMigrationSwitch (s : State) : Host.Outcome State Fault Refusal :=
  let s := s.begin
  .next (match s.lot.copy with
    | some c =>
      if !(c.done && c.ready) then s
      else
        let s := { s with lot := { s.lot with copy := none } }
        let s := match c.kind with
          | .retire h sp => s.retireTo h sp
          | _ =>
            match s.set? c.setId with
            | some x =>
              let up := c.kind == CopyKind.promote
              ((s.putSet { x with handles := c.newHandles, inSq := up, promoted := up }).scrubLots x.handles).count 2 0 3
            | none => s
        s.serveRetire.serveDemotion
    | none => s)

/-! ### Requests, frees and zero-fill -/

/-- The state with a district's LOT_ERR set. -/
def State.lotErr (s : State) (d code : Nat) : State := s.wr (distKey (slotOf d) Reg.lotErr) (w32 code)

/-- The lowest free request slot of a district. -/
def State.freeSlot (s : State) (d : Nat) : Option Nat := [0, 1, 2, 3].find? (fun k => s.fld (rstatKey d k) 0 3 == 0)

/-- True when slots [base, base + n) of a district's window touch a set it holds or a waiting request of it (R108). -/
def State.windowTaken (s : State) (d base n : Nat) : Bool :=
  let overs := fun b m => m != 0 && b < base + n && base < b + m
  s.lot.sets.any (fun x => x.dist == d && x.base != 0xFFFF && overs x.base x.handles.length) ||
  s.lot.waiting.any (fun r => r.dist == d && r.slot.isSome && overs r.base r.lots)

/-- A request refused at submission: its code in LOT_ERR, no slot taken (R129). -/
def State.lotRefuse (s : State) (d code : Nat) : State :=
  (s.lotErr d code).setF (distKey (slotOf d) Reg.lotReqLast) 2 1 1

/-- A run-time request submitted (R95, R96, R99, R108, R115, R129). Promoted sets give their Square lots back by demotion, so
they do not count against the request (R95, R115). -/
def State.lotRequest (s : State) (d : Nat) (v : Word32) : State :=
  let lots := field v 0 14
  let sq := v.getLsbD 14
  let base := field v 16 16
  let parts := [(d, sq, lots)]
  let runs := (s.lot.sets.filter (·.id ≥ 0x1000)).length + (s.lot.waiting.filter (·.slot.isSome)).length
  let noNeed := s.needOf parts == 0
  let there := s.grantable parts
  let now := there && (noNeed || s.lot.waiting.isEmpty)
  if lots > (if sq then 64 else 8188) then s.lotRefuse d 0x0E
  else match s.freeSlot d with
  | none => s.lotRefuse d 0x03
  | some k =>
    if runs ≥ 4096 then s.lotRefuse d 0x04
    else if s.heldFirm d sq + lots > s.guar d sq + s.borrow d sq then s.lotRefuse d 0x01
    else if lots != 0 && (base < 16384 || base + lots > 32768 || s.windowTaken d base lots) then s.lotRefuse d 0x02
    else if v.getLsbD 15 && !now then s.lotRefuse d 0x0D
    else
      let s := (s.lotErr d 0).wr (distKey (slotOf d) Reg.lotReqLast) (w32 k)
      let why : WaitFor := if !noNeed then .pool else if s.demoted parts then .zeroFill else .demotion
      let r : WaitReq := { dist := d, slot := some k, lots := lots, sq := sq, base := base, why := why }
      if lots == 0 || (noNeed && there) then s.grantRun d k sq lots base
      else
        let s := s.wr (rstatKey d k) (pack [(16, 0xFFFF), (0, 1)])
        let s := { s with lot := { s.lot with waiting := s.lot.waiting ++ [r] } }
        -- a request with NOWAIT is granted in its own cycle (R129)
        if v.getLsbD 15 then State.pass passFuel s else s

/-- A FAB cycle of accesses ends: the pass runs over the requests that have arrived in it (R100, R101). `was` are the
requests that waited before. -/
def State.endLots (s : State) (was : List WaitReq) : State :=
  if s.lot.waiting == was then s else (State.pass passFuel s).startDemotion

/-- LOT_REQ: a write submits a run-time allocation request (R99, R101, R129). -/
def execLotReq (init : InitId) (value : Word32) (s : State) : Host.Outcome State Fault Refusal :=
  .next (s.begin.access init 2 (fun s => (s.lotRequest (distOf init) value).endLots s.lot.waiting))

/-- A set removed and its lots freed; a migration of it is cancelled and frees both copies (R103, R114). -/
def State.freeSet (s : State) (x : LotSet) : State :=
  let s := { s with lot := { s.lot with sets := s.lot.sets.filter (·.id != x.id) } }
  let s := s.scrubLots x.handles
  match s.lot.copy with
  | some c =>
    match c.kind with
    | .retire h sp =>
      -- the lot being retired is now free: it moves without a copy (R125)
      if x.handles.contains h then
        { s with lot := { s.lot with copy := none, retireQ := s.frameOf h :: s.lot.retireQ, spares := sp - 8192 } }.serveRetire
      else s
    | _ =>
      if c.setId == x.id then
        ({ s with lot := { s.lot with copy := none } }.scrubLots c.newHandles).serveRetire
      else s
  | none => s

/-- A write to LOT_FREE (R103, R127). A Town Plan set of another district meets both refusals of R103; the model gives 0x05
(DESIGN CHOICE, log 229). -/
def State.lotFree (s : State) (d : Nat) (v : Word32) : State :=
  if field v 16 16 != 0xF4EE then s.lotErr d 0x0C
  else match s.set? (field v 0 16) with
  | none => s.lotErr d 0x05
  | some x =>
    if x.dist != d then s.lotErr d 0x05
    else if x.id < 0x1000 then s.lotErr d 0x06
    else ((s.lotErr d 0).freeSet x).serveDemotion

/-- LOT_FREE: a write frees a run-time set, starting the zero-fill of its lots (R103, R104). -/
def execLotFree (init : InitId) (value : Word32) (s : State) : Host.Outcome State Fault Refusal :=
  .next (s.begin.access init 2 (fun s => s.lotFree (distOf init) value))

/-- LOT_RSTAT_ACK: writing 1 to DONE of LOT_RSTATk frees request slot k of the district whose registers the initiator sees
(R130). -/
def execLotRstatAck (init : InitId) (slot : Fin 4) (value : Word32) (s : State) : Host.Outcome State Fault Refusal :=
  .next (s.begin.access init 2 (fun s =>
    let e := s.lotDist init
    let k := rstatKey e slot.val
    if isDistrict e && value.getLsbD 3 && s.bitOf k 3 then s.wr k (pack [(16, 0xFFFF)]) else s))

/-- ZERO_FILL_DONE: the zero-filled lots count as free and waiting requests are considered (R95, R101, R104). -/
def execZeroFillDone (s : State) : Host.Outcome State Fault Refusal :=
  let s := s.begin
  let hs := s.lot.scrub
  if hs.isEmpty then .next s
  else
    let frames := hs.map s.frameOf
    let s := { s with
      mem := Mem.clear s.mem (fun a => frames.contains (a / lotBytes)),
      lot := { s.lot with
        scrub := [],
        poison := s.lot.poison.filter (fun k => !frames.contains (k / lotBlocks)),
        freeD := (hs.filter (· < 0x8000)).foldl addRange s.lot.freeD,
        freeQ := (hs.filter (· ≥ 0x8000)).foldl addRange s.lot.freeQ } }
    .next s.lotsFreed

/-- A reset of host district `d` cancels its waiting and submitted run-time requests with code 0x0B (R126). R101 names the
arrival of a request and lots that become free as what starts the pass; the model runs it here too, since a cancelled head
holds no other request back any more (DESIGN CHOICE, log 230). -/
def State.resetLots (s : State) (d : Nat) : State :=
  let mine := s.lot.waiting.filter (fun r => r.dist == d && r.slot.isSome)
  let s := { s with lot := { s.lot with waiting := s.lot.waiting.filter (fun r => !(r.dist == d && r.slot.isSome)) } }
  let s := mine.foldl (fun s r => match r.slot with
    | some k => (s.wr (rstatKey d k) (pack [(16, 0xFFFF), (8, 0x0B), (3, 1), (0, 4)])).lotEvent d
    | none => s) s
  s.lotsFreed

/-! ### Memory errors, refresh and power-down -/

/-- A saturating counter register advanced (R131). -/
def State.bumpSat (s : State) (k : Nat) : State := if s.rd k == 0xFFFFFFFF#32 then s else s.bump k

/-- MEMORY_ERROR_DETECTED: a corrected or uncorrectable memory error is recorded; an uncorrectable one poisons its block
(R122), and the frame may become due for retirement (R124). -/
def execMemoryErrorDetected (init : InitId) (frame block : Nat) (uncorrectable : Bool) (s : State) :
    Host.Outcome State Fault Refusal :=
  let s := s.begin
  if s.mode.mode == .reset || frame ≥ 8288 || block ≥ lotBlocks then .next s
  else
    let h := if isDramFrame frame then (s.handleOf frame).getD 0xFFFF else 0x8000 + (frame - 8224)
    let addr := h * 2 ^ 48 + block * 64
    if uncorrectable then
      let s := s.report { block := 2, code := 0x08, init := init.toNat, sev := 1, dist := s.frameDist frame, addr := addr }
      let s := (s.bumpSat Reg.lotEccUe).count 2 0 1
      let k := frame * lotBlocks + block
      let s := { s with lot := { s.lot with poison := if s.lot.poison.contains k then s.lot.poison else s.lot.poison ++ [k] } }
      .next (s.dueRetire frame)
    else
      let s := s.report { block := 2, code := Config.correctedEccCode.toNat, init := init.toNat, sev := 0,
                          dist := s.frameDist frame, addr := addr }
      let s := (s.bumpSat Reg.lotEccCe).count 2 0 0
      let bs := s.lot.corrected.get [] frame
      let bs := if bs.contains block then bs else block :: bs
      let s := { s with lot := { s.lot with corrected := s.lot.corrected.set frame bs } }
      .next (if bs.length ≥ 16 then s.dueRetire frame else s)

/-- PATROL_SCRUB: one patrol cycle has read and corrected every block (R122); the tallies of corrected blocks, which R124
takes within one patrol cycle, start anew. -/
def execPatrolScrub (s : State) : Host.Outcome State Fault Refusal :=
  let s := s.begin
  .next { s with lot := { s.lot with corrected := [] } }

/-- LOT_ECC_COUNT_READ: a read of LOT_ECC_CE or LOT_ECC_UE returns and clears the count (R131). -/
def execLotEccCountRead (init : InitId) (ue : Bool) (s : State) : Host.Outcome State Fault Refusal :=
  let k := if ue then Reg.lotEccUe else Reg.lotEccCe
  .next (s.begin.access init 2 (write := false) (fun s => (s.reply (.word (s.rd k))).wr k 0))

/-! ### BAR2 (R105 to R108, R376) -/

/-- The set of district `d` whose window holds slot `n`. -/
def State.windowSet (s : State) (d n : Nat) : Option LotSet :=
  s.lot.sets.find? (fun x => x.dist == d && x.base != 0xFFFF && x.base ≤ n && n < x.base + x.handles.length)

/-- The staging set's lots (R59). -/
def stagingHandles : List Nat := [0x1FFC, 0x1FFD, 0x1FFE, 0x1FFF]

/-- True when district `d` may read (or write) the staging aperture (R80, R106). -/
def State.stagingOpen (s : State) (d : Nat) (write : Bool) : Bool :=
  s.tpl.owner == some d &&
    (match s.tpl.st with
     | .opened | .invalid => true
     | .validating | .valid => !write
     | _ => false)

/-- The sets, offsets and lengths that an access of `len` bytes at `off` covers, window after window; none when a slot of it
is mapped to no set (R107, R108). -/
def State.windowRun (s : State) (d : Nat) : Nat → Nat → Nat → Option (List (LotSet × Nat × Nat))
  | 0, _, _ => none
  | f + 1, off, len =>
    match s.windowSet d (off / lotBytes) with
    | none => none
    | some x =>
      let o := off - x.base * lotBytes
      if o + len ≤ x.bytes then some [(x, o, len)]
      else (State.windowRun s d f (off + (x.bytes - o)) (len - (x.bytes - o))).map ((x, o, x.bytes - o) :: ·)

/-- BAR2_READ: a host memory read through BAR2 (R105, R106, R108, R123). -/
def execBar2Read (host : Fin 4) (off len : Nat) (s : State) : Host.Outcome State Fault Refusal :=
  let s := s.begin
  let d := host.val
  if !s.arrives (BitVec.ofNat 8 (0x10 + d)) then .next s
  else if off < 4 * lotBytes then
    if s.stagingOpen d false && off + len ≤ 4 * lotBytes then
      .next ((((s.lotErr d 0).bw (Reg.pmcBwHost d 0) len).alley (s.addrIn stagingHandles) off len).reply
        (.data ((List.range len).map (fun i => Mem.read s.mem (s.addrIn stagingHandles (off + i))))
          (s.poisonedCells (s.addrIn stagingHandles) off len)))
    else .next (s.reply .unsupported)
  else
    match s.windowSet d (off / lotBytes) with
    | none => .next ((s.lotErr d 0x07).reply .unsupported)
    | some x =>
      let o := off - x.base * lotBytes
      if o + len ≤ x.bytes then
        .next ((((s.lotErr d 0).bw (Reg.pmcBwHost d 0) len).alley (s.addrIn x.handles) o len).reply
          (.data (s.readSet x o len) (s.poisoned x o len)))
      else match s.windowRun d (len / lotBytes + 2) off len with
        | none => .next ((s.lotErr d 0x07).reply .unsupported)
        | some l => .next ((l.foldl (fun s e => s.alley (s.addrIn e.1.handles) e.2.1 e.2.2) ((s.lotErr d 0).bw (Reg.pmcBwHost d 0) len)).reply
            (.data (l.flatMap (fun e => s.readSet e.1 e.2.1 e.2.2)) (l.any (fun e => s.poisoned e.1 e.2.1 e.2.2))))

/-- BAR2_WRITE: a host memory write through BAR2; an AtomicOp completes with Unsupported Request (R80, R105, R108, R114, R123,
R376). -/
def execBar2Write (host : Fin 4) (off : Nat) (data : Bar2Data) (s : State) : Host.Outcome State Fault Refusal :=
  let s := s.begin
  let d := host.val
  let bytes := data.bytes
  let n := bytes.length
  if !s.arrives (BitVec.ofNat 8 (0x10 + d)) then .next s
  else if data.atomic then .next (s.reply .unsupported)
  else if off < 4 * lotBytes then
    if s.stagingOpen d true && off + n ≤ 4 * lotBytes then
      .next (((((s.lotErr d 0).writeCells (s.addrIn stagingHandles) off bytes).bw (Reg.pmcBwHost d 1) n).alley (s.addrIn stagingHandles) off n).reply .ack)
    else .next (s.reply .unsupported)
  else
    match s.windowSet d (off / lotBytes) with
    | none => .next ((s.lotErr d 0x07).reply .unsupported)
    | some x =>
      let o := off - x.base * lotBytes
      if o + n ≤ x.bytes then
        if s.mirrorLocked x.dist && (s.pl.set? x.id).isSome then .next (s.mirrorDrop.reply .ack)
        else .next (((((s.lotErr d 0).writeShared x o bytes).bw (Reg.pmcBwHost d 1) n).alley (s.addrIn x.handles) o n).reply .ack)
      else match s.windowRun d (n / lotBytes + 2) off n with
        | none => .next ((s.lotErr d 0x07).reply .unsupported)
        | some l => .next (((l.foldl (fun (e : State × List Byte) (p : LotSet × Nat × Nat) =>
            let s := e.1
            (if s.mirrorLocked p.1.dist && (s.pl.set? p.1.id).isSome then s.mirrorDrop
             else (s.writeShared p.1 p.2.1 (e.2.take p.2.2)).alley (s.addrIn p.1.handles) p.2.1 p.2.2, e.2.drop p.2.2)) (s.lotErr d 0, bytes)).1.bw (Reg.pmcBwHost d 1) n).reply .ack)

end Sys2Proof.Machine
end

