-- ==== Sys2Proof/Machine/Net.lean ====
section
/-! DEFINITION. Frames on the wire: Ethernet, 802.1Q, IPv4, UDP and the checksums the device computes (CRC-32 of R49,
Internet checksum). Every field of a frame is in network byte order (R11). -/

namespace Sys2Proof.Machine

/-- One step of the reflected CRC-32 register. -/
def crcStep (c : Nat) : Nat := if c % 2 == 1 then (c / 2) ^^^ 0xEDB88320 else c / 2
/-- Eight steps. -/
def crcByte (c : Nat) (b : Byte) : Nat :=
  crcStep (crcStep (crcStep (crcStep (crcStep (crcStep (crcStep (crcStep (c ^^^ b.toNat))))))))
/-- CRC-32: polynomial 0x04C1_1DB7 reflected, initial value and final XOR 0xFFFF_FFFF (R49). -/
def crc32 (l : List Byte) : Nat := (l.foldl crcByte 0xFFFFFFFF) ^^^ 0xFFFFFFFF

/-- The 16-bit words of a byte string in network order, the last padded with 0. -/
def beWords : List Byte → List Nat
  | a :: b :: t => (a.toNat * 256 + b.toNat) :: beWords t
  | [a] => [a.toNat * 256]
  | [] => []

/-- Fold carries into 16 bits. -/
def fold16 (n : Nat) : Nat :=
  let a := n % 65536 + n / 65536
  let b := a % 65536 + a / 65536
  b % 65536 + b / 65536

/-- The Internet checksum of a byte string. -/
def inetSum (l : List Byte) : Nat := 65535 - fold16 (sumOf (beWords l))

/-- The tag's VID, if the frame carries an 802.1Q tag. -/
def frameVid (f : List Byte) : Option Nat := if beAt f 12 2 == 0x8100 then some (beAt f 14 2 % 4096) else none
/-- Offset of the EtherType: after the tag of a tagged frame (R268). -/
def etherOff (f : List Byte) : Nat := if beAt f 12 2 == 0x8100 then 16 else 12
/-- The EtherType. -/
def etherType (f : List Byte) : Nat := beAt f (etherOff f) 2
/-- What follows the EtherType. -/
def etherBody (f : List Byte) : List Byte := f.drop (etherOff f + 2)
/-- The destination MAC address. -/
def dstMac (f : List Byte) : Nat := beAt f 0 6
/-- The source MAC address. -/
def srcMac (f : List Byte) : Nat := beAt f 6 6
/-- A multicast address (the broadcast address among them). -/
def isMulticast (mac : Nat) : Bool := (mac / 2 ^ 40) % 2 == 1

/-- The header bytes of an Ethernet frame: addresses, an 802.1Q tag for VLAN v, EtherType. -/
def etherHeader (dst src vlan ty : Nat) : List Byte :=
  beBytes 6 dst ++ beBytes 6 src ++ (if vlan == 0 then [] else beBytes 2 0x8100 ++ beBytes 2 vlan) ++ beBytes 2 ty

/-- True when `p` opens with an IPv4 header of protocol `proto`, unfragmented, with a correct header checksum. -/
def ipv4Ok (p : List Byte) (proto : Nat) : Bool :=
  let ihl := byteAt p 0 % 16
  byteAt p 0 / 16 == 4 && ihl ≥ 5 && beAt p 6 2 % 0x4000 == 0 && byteAt p 9 == proto &&
    p.length ≥ 4 * ihl && fold16 (sumOf (beWords (p.take (4 * ihl)))) == 65535

/-- True when `p` is IPv4 of protocol `proto`, whatever else. -/
def isIpv4 (p : List Byte) (proto : Nat) : Bool := byteAt p 0 / 16 == 4 && byteAt p 9 == proto
/-- Destination address of an IPv4 packet. -/
def ipDst (p : List Byte) : Nat := beAt p 16 4
/-- The payload of an IPv4 packet, by its total length. -/
def ipPayload (p : List Byte) : List Byte := (p.take (beAt p 2 2)).drop (4 * (byteAt p 0 % 16))

/-- The IPv4 pseudo-header of a UDP datagram of `n` bytes. -/
def pseudo (p : List Byte) (n : Nat) : List Byte := slice p 12 8 ++ [0, 17] ++ beBytes 2 n
/-- True when a UDP datagram's checksum is correct or zero. -/
def udpSumOk (p u : List Byte) : Bool :=
  beAt u 6 2 == 0 || fold16 (sumOf (beWords (pseudo p (beAt u 4 2) ++ u.take (beAt u 4 2)))) == 65535

/-- An IPv4 header with options, its checksum computed. -/
def ipHeader (total ident flags ttl proto src dst : Nat) (opts : List Byte) : List Byte :=
  let h := fun (sum : Nat) => [b8 (0x45 + opts.length / 4), 0] ++ beBytes 2 total ++ beBytes 2 ident ++ beBytes 2 flags ++
    [b8 ttl, b8 proto] ++ beBytes 2 sum ++ beBytes 4 src ++ beBytes 4 dst ++ opts
  h (inetSum (h 0))

/-- The Ethernet address of an IPv4 multicast group. -/
def groupMac (g : Nat) : Nat := 0x01005E000000 + g % 0x800000

/-- A UDP datagram over IPv4 in an Ethernet frame; the UDP checksum is computed. -/
def udpFrame (dstM srcM vlan ttl src dst sport dport : Nat) (data : List Byte) : List Byte :=
  let n := 8 + data.length
  let ip := ipHeader (20 + n) 0 0 ttl 17 src dst []
  let u := fun (sum : Nat) => beBytes 2 sport ++ beBytes 2 dport ++ beBytes 2 n ++ beBytes 2 sum ++ data
  let c := inetSum (pseudo ip n ++ u 0)
  etherHeader dstM srcM vlan 0x0800 ++ ip ++ u (if c == 0 then 0xFFFF else c)

/-- An IGMPv3 membership report with one group record of the given type (RFC 3376), from address 0.0.0.0 (R135). -/
def igmpReport (srcM vlan group recType : Nat) : List Byte :=
  let m := fun (sum : Nat) => [0x22, 0] ++ beBytes 2 sum ++ [0, 0, 0, 1] ++ [b8 recType, 0, 0, 0] ++ beBytes 4 group
  let ig := m (inetSum (m 0))
  etherHeader (groupMac 0xE0000016) srcM vlan 0x0800 ++
    ipHeader (24 + ig.length) 0 0 1 2 0 0xE0000016 [0x94, 4, 0, 0] ++ ig

end Sys2Proof.Machine
end

