-- ==== Sys2Proof/Machine/Crypto.lean ====
section
/-! DEFINITION. The algorithms that R52, R53 and R501 name: SHA-384 (FIPS 180-4), ECDSA P-384 verification (FIPS 186) and
AES-256-GCM decryption (FIPS 197, SP 800-38D). The constants are those of the standards. -/

namespace Sys2Proof.Machine

/-- The largest `r` below `2 ^ (k + 1)` over `base` with `r ^ e` at most `v`, bit by bit. -/
def rootBits (e v : Nat) : Nat → Nat → Nat
  | 0, base => if (base + 1) ^ e ≤ v then base + 1 else base
  | k + 1, base => rootBits e v k (if (base + 2 ^ (k + 1)) ^ e ≤ v then base + 2 ^ (k + 1) else base)

/-- Bitwise XOR of two byte strings, as long as the shorter. -/
def xorBytes (a b : List Byte) : List Byte := (List.zip a b).map (fun e => e.1 ^^^ e.2)

/-- A byte string in pieces of `n` bytes, the last one as long as it is; `fuel` bounds their number. -/
def chunks {α : Type} (n : Nat) : Nat → List α → List (List α)
  | 0, _ => []
  | fuel + 1, l => if l.isEmpty then [] else l.take n :: chunks n fuel (l.drop n)

/-! ### SHA-384 -/

/-- The first prime numbers, up to 409. -/
def primes : List Nat := (List.range 410).filter (fun n => 2 ≤ n && (List.range n).all (fun d => d < 2 || n % d != 0))
/-- The round constants: 64 fraction bits of the cube roots of the first 80 primes. -/
def shaK : List Nat := (primes.take 80).map (fun p => rootBits 3 (p * 2 ^ 192) 67 0 % 2 ^ 64)
/-- The initial hash value: 64 fraction bits of the square roots of the ninth to sixteenth primes. -/
def shaInit : List Nat := ((primes.drop 8).take 8).map (fun p => rootBits 2 (p * 2 ^ 128) 67 0 % 2 ^ 64)

/-- Rotation of a 64-bit word to the right. -/
def rotr (x n : Nat) : Nat := x >>> n ||| (x <<< (64 - n)) % 2 ^ 64
/-- The functions Σ0, Σ1, σ0 and σ1. -/
def bigSigma0 (x : Nat) : Nat := rotr x 28 ^^^ rotr x 34 ^^^ rotr x 39
/-- Σ1. -/
def bigSigma1 (x : Nat) : Nat := rotr x 14 ^^^ rotr x 18 ^^^ rotr x 41
/-- σ0. -/
def smallSigma0 (x : Nat) : Nat := rotr x 1 ^^^ rotr x 8 ^^^ x >>> 7
/-- σ1. -/
def smallSigma1 (x : Nat) : Nat := rotr x 19 ^^^ rotr x 61 ^^^ x >>> 6

/-- The message schedule, newest word first, `n` words beyond those given. -/
def shaSchedule : Nat → List Nat → List Nat
  | 0, w => w
  | n + 1, w =>
    shaSchedule n ((smallSigma1 (w.getD 1 0) + w.getD 6 0 + smallSigma0 (w.getD 14 0) + w.getD 15 0) % 2 ^ 64 :: w)

/-- One round on the eight working variables. -/
def shaRound (v : List Nat) (kw : Nat × Nat) : List Nat :=
  let a := v.getD 0 0
  let b := v.getD 1 0
  let c := v.getD 2 0
  let e := v.getD 4 0
  let f := v.getD 5 0
  let g := v.getD 6 0
  let t1 := v.getD 7 0 + bigSigma1 e + ((e &&& f) ^^^ ((2 ^ 64 - 1 - e) &&& g)) + kw.1 + kw.2
  let t2 := bigSigma0 a + ((a &&& b) ^^^ (a &&& c) ^^^ (b &&& c))
  [(t1 + t2) % 2 ^ 64, a, b, c, (v.getD 3 0 + t1) % 2 ^ 64, e, f, g]

/-- The hash value after a block of 128 bytes. -/
def shaBlock (k h : List Nat) (block : List Byte) : List Nat :=
  let w := (shaSchedule 64 (((chunks 8 16 block).map ofBe).reverse)).reverse
  let v := (List.zip k w).foldl shaRound h
  (List.zip h v).map (fun e => (e.1 + e.2) % 2 ^ 64)

/-- The message with its padding: a one bit, zeros, and its length in bits as 128 bits. -/
def shaPad (m : List Byte) : List Byte :=
  m ++ [0x80] ++ List.replicate ((239 - m.length % 128) % 128) 0 ++ beBytes 16 (8 * m.length)

/-- SHA-384, its 48 bytes as a number in network order (R501). -/
def sha384 (m : List Byte) : Nat :=
  let p := shaPad m
  let h := (chunks 128 p.length p).foldl (shaBlock shaK) shaInit
  (h.take 6).foldl (fun acc w => acc * 2 ^ 64 + w) 0

/-! ### ECDSA P-384 -/

/-- The field's prime. -/
def p384 : Nat := 2 ^ 384 - 2 ^ 128 - 2 ^ 96 + 2 ^ 32 - 1
/-- The order of the base point. -/
def p384n : Nat := 0xffffffffffffffffffffffffffffffffffffffffffffffffc7634d81f4372ddf581a0db248b0a77aecec196accc52973
/-- The coefficient b of the curve; a is −3. -/
def p384b : Nat := 0xb3312fa7e23ee7e4988e056be3f82d19181d9c6efe8141120314088f5013875ac656398d8a2ed19d2a85c8edd3ec2aef
/-- The base point. -/
def p384gx : Nat := 0xaa87ca22be8b05378eb1c71ef320ad746e1d3b628ba79b9859f741e082542a385502f25dbf55296c3a545e3872760ab7
/-- The base point's y. -/
def p384gy : Nat := 0x3617de4a96262c6f5d9e98bf9292dc29f8f41dbd289a147ce9da3113b5f0b8c00a60b1ce1d7e819d7a431d7c90ea0e5f

/-- `b ^ e` modulo `m`, over the bits of `e` below `k`, the highest first. -/
def powMod (m b e : Nat) : Nat → Nat → Nat
  | 0, acc => acc
  | k + 1, acc => powMod m b e k (let q := acc * acc % m; if e.testBit k then q * b % m else q)
/-- The inverse modulo a prime of 384 bits. -/
def invMod (m a : Nat) : Nat := powMod m (a % m) (m - 2) 384 1

/-- A point in Jacobian coordinates; Z = 0 is the point at infinity. -/
structure Point where
  x : Nat
  y : Nat
  z : Nat
deriving DecidableEq, Repr

/-- A difference in the field. -/
def fsub (a b : Nat) : Nat := (a + p384 - b % p384) % p384

/-- A point doubled. -/
def Point.double (q : Point) : Point :=
  if q.z == 0 then q
  else
    let d := q.z * q.z % p384
    let g := q.y * q.y % p384
    let b := q.x * g % p384
    let a := 3 * fsub q.x d * (q.x + d) % p384
    let x := fsub (a * a) (8 * b)
    ⟨x, fsub (a * fsub (4 * b) x) (8 * g * g), fsub ((q.y + q.z) * (q.y + q.z)) (g + d)⟩

/-- The sum of two points. -/
def Point.add (q r : Point) : Point :=
  if q.z == 0 then r
  else if r.z == 0 then q
  else
    let zq := q.z * q.z % p384
    let zr := r.z * r.z % p384
    let u1 := q.x * zr % p384
    let u2 := r.x * zq % p384
    let s1 := q.y * (zr * r.z % p384) % p384
    let s2 := r.y * (zq * q.z % p384) % p384
    if u1 == u2 then (if s1 == s2 then q.double else ⟨1, 1, 0⟩)
    else
      let h := fsub u2 u1
      let w := fsub s2 s1
      let h2 := h * h % p384
      let h3 := h2 * h % p384
      let v := u1 * h2 % p384
      let x := fsub (w * w) (h3 + 2 * v)
      ⟨x, fsub (w * fsub v x) (s1 * h3), q.z * r.z % p384 * h % p384⟩

/-- A point times the bits of `e` below `k`, added to the doubled accumulator. -/
def Point.times (q : Point) (e : Nat) : Nat → Point → Point
  | 0, acc => acc
  | k + 1, acc => Point.times q e k (if e.testBit k then acc.double.add q else acc.double)

/-- Verification of an ECDSA P-384 signature with SHA-384 (R53, R495, R501): public key X then Y, message, r and s. -/
def ecdsaP384 (key msg : List Byte) (r s : Nat) : Bool :=
  let x := beAt key 0 48
  let y := beAt key 48 48
  let onCurve := x < p384 && y < p384 && y * y % p384 == (x * x * x + (p384 - 3) * x + p384b) % p384
  if key.length != 96 || !onCurve || r == 0 || p384n ≤ r || s == 0 || p384n ≤ s then false
  else
    let w := invMod p384n s
    let u := (Point.mk p384gx p384gy 1).times (sha384 msg * w % p384n) 384 ⟨1, 1, 0⟩
    let v := (Point.mk x y 1).times (r * w % p384n) 384 ⟨1, 1, 0⟩
    let q := u.add v
    if q.z == 0 then false
    else
      let i := invMod p384 q.z
      (q.x * (i * i % p384) % p384) % p384n == r

/-! ### AES-256-GCM -/

/-- Product in the field of AES: eight steps. -/
def gf8 (a : Nat) : Nat → Nat → Nat
  | 0, _ => 0
  | k + 1, b => (if b % 2 == 1 then a else 0) ^^^ gf8 (let d := 2 * a; if d ≥ 256 then d ^^^ 0x11B else d) k (b / 2)
/-- The inverse in that field, `a ^ 254`; 0 of 0. -/
def gfInv (a : Nat) : Nat :=
  let sq := fun v => gf8 v 8 v
  let a2 := sq a
  let a4 := sq a2
  let a8 := sq a4
  let a16 := sq a8
  let a32 := sq a16
  let a64 := sq a32
  gf8 (sq a64) 8 (gf8 a64 8 (gf8 a32 8 (gf8 a16 8 (gf8 a8 8 (gf8 a4 8 a2)))))
/-- The S-box: the inverse and its affine map. -/
def aesSub (a : Nat) : Nat :=
  let b := gfInv a
  let r := fun n => (b <<< n ||| b >>> (8 - n)) % 256
  b ^^^ r 1 ^^^ r 2 ^^^ r 3 ^^^ r 4 ^^^ 0x63
/-- The S-box as a table. -/
def aesTable : List Nat := (List.range 256).map aesSub

/-- The words of the key schedule, newest first: `n` more, word number `i` next. -/
def aesExpand (t : List Nat) : Nat → Nat → List (List Nat) → List (List Nat)
  | 0, _, w => w
  | n + 1, i, w =>
    let sub := fun (l : List Nat) => l.map (fun b => t.getD b 0)
    let p := w.headD []
    let p := if i % 8 == 0 then (List.zip (sub (p.drop 1 ++ p.take 1)) [2 ^ (i / 8 - 1), 0, 0, 0]).map (fun e => e.1 ^^^ e.2)
      else if i % 8 == 4 then sub p else p
    aesExpand t n (i + 1) ((List.zip (w.getD 7 []) p).map (fun e => e.1 ^^^ e.2) :: w)

/-- The fifteen round keys of a 256-bit key. -/
def aesKeys (t : List Nat) (key : List Byte) : List (List Nat) :=
  let w := (aesExpand t 52 8 (((chunks 4 8 key).map (·.map (·.toNat))).reverse)).reverse
  (chunks 4 15 w).map (·.flatten)

/-- ShiftRows of a state kept by columns. -/
def shiftRows (s : List Nat) : List Nat := (List.range 16).map (fun i => s.getD ((i + 4 * (i % 4)) % 16) 0)
/-- MixColumns. -/
def mixColumns (s : List Nat) : List Nat :=
  (List.range 16).map (fun i =>
    let at_ := fun (k : Nat) => s.getD (i / 4 * 4 + (i + k) % 4) 0
    gf8 (at_ 0) 2 2 ^^^ gf8 (at_ 1) 2 3 ^^^ at_ 2 ^^^ at_ 3)

/-- Encryption of a block with AES-256. -/
def aesBlock (t : List Nat) (keys : List (List Nat)) (block : List Byte) : List Byte :=
  let mix := fun (a b : List Nat) => (List.zip a b).map (fun e => e.1 ^^^ e.2)
  let sub := fun (l : List Nat) => l.map (fun b => t.getD b 0)
  let s := mix (block.map (·.toNat)) (keys.headD [])
  let s := ((keys.drop 1).take 13).foldl (fun s k => mix (mixColumns (shiftRows (sub s))) k) s
  (mix (shiftRows (sub s)) (keys.getD 14 [])).map b8

/-- Product in GCM's field, over the bits of `x` below `k`, the highest first. -/
def gcmMul (x : Nat) : Nat → Nat → Nat → Nat
  | 0, _, z => z
  | k + 1, v, z => gcmMul x k (if v % 2 == 1 then v / 2 ^^^ 0xE1 * 2 ^ 120 else v / 2) (if x.testBit k then z ^^^ v else z)

/-- GHASH of the additional data and the ciphertext. -/
def ghash (h : Nat) (aad cipher : List Byte) : Nat :=
  let pad := fun (l : List Byte) => l ++ List.replicate ((16 - l.length % 16) % 16) 0
  let data := pad aad ++ pad cipher ++ beBytes 8 (8 * aad.length) ++ beBytes 8 (8 * cipher.length)
  (chunks 16 data.length data).foldl (fun y b => gcmMul (y ^^^ ofBe b) 128 h 0) 0

/-- Decryption of AES-256-GCM with a 12-byte IV: none on a tag mismatch (R52). -/
def gcmOpen (key iv aad cipher tag : List Byte) : Option (List Byte) :=
  let t := aesTable
  let keys := aesKeys t key
  let e := fun (n : Nat) => aesBlock t keys (iv ++ beBytes 4 n)
  let h := ofBe (aesBlock t keys (List.replicate 16 0))
  if xorBytes (beBytes 16 (ghash h aad cipher)) (e 1) != tag then none
  else some ((chunks 16 cipher.length cipher).zipIdx.flatMap (fun b => xorBytes b.1 (e (b.2 + 2))))

end Sys2Proof.Machine
end

