-- ==== Sys2Proof/Machine/Pixel.lean ====
section
/-! DEFINITION. Conversion of source pixels to P64 (R142, R146 to R150): normalisation, colour matrix, linearisation,
primaries and rounding, in exact fractions. PQ and the upper part of HLG are the standard's functions, left open. -/

namespace Sys2Proof.Machine

/-- An exact signed fraction. -/
structure Frac where
  n : Int
  d : Nat
deriving DecidableEq, Repr

/-- Sum of two fractions. -/
def Frac.add (a b : Frac) : Frac := ⟨a.n * b.d + b.n * a.d, a.d * b.d⟩
/-- Difference of two fractions. -/
def Frac.sub (a b : Frac) : Frac := ⟨a.n * b.d - b.n * a.d, a.d * b.d⟩
/-- A fraction times `n / d`. -/
def Frac.scale (a : Frac) (n : Int) (d : Nat) : Frac := ⟨a.n * n, a.d * d⟩

/-- Narrow-range luma, R, G or B of depth `w` (R146). -/
def normY (full : Bool) (w code : Nat) : Frac :=
  if full then ⟨code, 2 ^ w - 1⟩ else ⟨(code : Int) - 16 * 2 ^ (w - 8), 219 * 2 ^ (w - 8)⟩

/-- Chroma of depth `w`; `code2` is twice the code, so that the mean of two samples stays exact (R146). -/
def normC (full : Bool) (w code2 : Nat) : Frac :=
  if full then ⟨(code2 : Int) - 2 ^ w, 2 * (2 ^ w - 1)⟩
  else ⟨(code2 : Int) - 2 * 128 * 2 ^ (w - 8), 2 * 224 * 2 ^ (w - 8)⟩

/-- Kr and Kb in units of 1/10,000 (R147). -/
def lumaCoef (colour : Nat) : Int × Int := if colour == 0 then (2126, 722) else (2627, 593)

/-- R′, G′, B′ from Y′, Cb′, Cr′ (R147). -/
def ycbcr (colour : Nat) (y cb cr : Frac) : Frac × Frac × Frac :=
  let (kr, kb) := lumaCoef colour
  let r := y.add (cr.scale (2 * (10000 - kr)) 10000)
  let b := y.add (cb.scale (2 * (10000 - kb)) 10000)
  let g := (y.sub ((r.scale kr 10000).add (b.scale kb 10000))).scale 10000 ((10000 - kr - kb).toNat)
  (r, g, b)

/-- (n / d)^(20/9) in units of 2^-32: the power 1/0.45 of R148. -/
def pow20over9 (n d : Nat) : Nat := rootBits 9 (n ^ 20 * 2 ^ (32 * 9) / d ^ 20) 48 0

/-- Fraction bits of the power function. -/
def powBits : Nat := 160
/-- A number in [0, 1] with `powBits` fraction bits to the power of a whole number. -/
def powInt (v : Nat) : Nat → Nat
  | 0 => 2 ^ powBits
  | k + 1 => powInt v k * v / 2 ^ powBits
/-- A number in [0, 1] to the power that the lowest `k` bits of `e` spell as a binary fraction: the product of the square roots that its bits name. -/
def powFrac (e : Nat) : Nat → Nat → Nat → Nat
  | 0, _, acc => acc
  | k + 1, v, acc =>
    let r := rootBits 2 (v * 2 ^ powBits) powBits 0
    powFrac e k r (if e.testBit k then acc * r / 2 ^ powBits else acc)

/-- A number in [0, 1] to the power `e / 2^64`. -/
def powFix (v e : Nat) : Nat := powFrac (e % 2 ^ 64) 64 v (powInt v (e / 2 ^ 64))

/-- The PQ EOTF over 203 cd/m², in units of 2^-32 (R148): the constants m1, m2, c1, c2 and c3 are those of BT.2100, the last
three in units of 1/4,096. A signal above 1 is taken as 1. -/
def pqLight (n d : Nat) : Nat :=
  if d ≤ n then 10000 * 2 ^ 32 / 203
  else
    let v := powFix (n * 2 ^ powBits / d) (32 * 2 ^ 64 / 2523)
    let q := (4096 * v - 3424 * 2 ^ powBits) * 2 ^ powBits / (77216 * 2 ^ powBits - 76544 * v)
    10000 * powFix q (8192 * 2 ^ 64 / 1305) / (203 * 2 ^ (powBits - 32))

/-- Terms `i` to `i + k` of the exponential series of `x`, from term `t` on. -/
def expTerms (x : Nat) : Nat → Nat → Nat → Nat
  | 0, _, t => t
  | k + 1, i, t => t + expTerms x k (i + 1) (t * x / (2 ^ powBits * (i + 1)))

/-- Scene light of an HLG signal above 1/2, in units of 2^-32 (R148): (exp((V − c) / a) + b) / 12 with the constants a, b and
c of BT.2100 in units of 10^-8; the exponential is that of a sixteenth, to the power 16. -/
def hlgHigh (n d : Nat) : Nat :=
  let one := 2 ^ powBits
  let v := n * 10 ^ 8 * one / d
  let exp := fun x => expTerms (x / (16 * 17883277)) 40 0 one ^ 16 / one ^ 15
  let y := if 55991073 * one ≤ v then exp (v - 55991073 * one) else one * one / exp (55991073 * one - v)
  (y + 28466892 * 2 ^ powBits / 10 ^ 8) / (12 * 2 ^ (powBits - 32))

/-- Linear light of a value `n / d`, in units of 2^-32 (R148). -/
def linearise (colour n d : Nat) : Nat :=
  match colour with
  | 0 | 1 =>
    if n * 1000 < 81 * d then n * 10 * 2 ^ 32 / (45 * d)
    else pow20over9 (1000 * n + 99 * d) (1099 * d)
  | 2 => pqLight n d
  | _ => if 2 * n ≤ d then n * n * 37741 * 2 ^ 32 / (3 * d * d * 10000) else hlgHigh n d * 37741 / 10000

/-- A value below 0 is taken as 0 before linearisation (R147). -/
def lineariseF (colour : Nat) (v : Frac) : Nat := if v.n ≤ 0 then linearise colour 0 1 else linearise colour v.n.toNat v.d

/-- The matrix of R149 from BT.709 to BT.2020 primaries, in units of 1/10,000. -/
def primaries : List (List Nat) := [[6274, 3293, 433], [691, 9195, 114], [164, 880, 8956]]

/-- The linear components in the working primaries, units of 2^-32 (R149). -/
def toWorking (colour : Nat) (r g b : Nat) : List Nat :=
  if colour == 0 then
    primaries.map (fun m => (m.getD 0 0 * r + m.getD 1 0 * g + m.getD 2 0 * b) / 10000)
  else [r, g, b]

/-- The U4.12 value stored for an exact result in units of 2^-32: rounded to the nearest value and limited, and off by
no more than 2 LSB or 0.2 % (R150). -/
def storeU412 (colour exact : Nat) : Nat :=
  let near := (exact + 2 ^ 19) / 2 ^ 20
  let tol : Int := max 2 (near * 2 / 1000 : Nat)
  (clampI 0 0xFFFF ((near : Int) + clampI (-tol) tol (Config.conversionError colour exact))).toNat

/-- A P64 pixel's eight bytes (R12). -/
def p64Bytes (l : List Nat) : List Byte := l.flatMap (leBytes 2)

/-- The P64 pixel of linear R, G, B with A = 1.0. -/
def p64Of (colour r g b : Nat) : List Byte :=
  p64Bytes (((toWorking colour r g b).map (storeU412 colour)) ++ [0x1000])

/-- The P64 pixel of R′G′B′ codes of depth `w`. -/
def p64Rgb (colour : Nat) (full : Bool) (w r g b : Nat) : List Byte :=
  let f := fun c => lineariseF colour (normY full w c)
  p64Of colour (f r) (f g) (f b)

/-- The P64 pixel of Y′ and doubled Cb′, Cr′ codes of depth 10. -/
def p64Ycc (colour : Nat) (full : Bool) (y cb2 cr2 : Nat) : List Byte :=
  let (r, g, b) := ycbcr colour (normY full 10 y) (normC full 10 cb2) (normC full 10 cr2)
  p64Of colour (lineariseF colour r) (lineariseF colour g) (lineariseF colour b)

/-- Bytes of one pgroup and pixels in it (R137). -/
def pgBytes (f : Nat) : Nat := match f with | 0 => 5 | 1 => 3 | 2 => 15 | _ => 9
/-- Pixels of one pgroup (R137). -/
def pgPixels (f : Nat) : Nat := match f with | 0 => 2 | 1 => 1 | 2 => 4 | _ => 2
/-- Bits per component of a format. -/
def fmtDepth (f : Nat) : Nat := match f with | 1 => 8 | 3 => 12 | _ => 10

/-- The codes of a pgroup: its bits, most significant first, in components of `w` bits. -/
def pgCodes (w : Nat) (l : List Byte) : List Nat :=
  let v := ofBe l
  let n := l.length * 8 / w
  (List.range n).map (fun i => (v >>> (l.length * 8 - w * (i + 1))) % 2 ^ w)

/-- Bytes per line of a host-written source frame (R142). -/
def hdLineBytes (f width : Nat) : Nat := (match f with | 0 => 4 | 1 => 3 | 2 => 4 | 3 => 6 | _ => 8) * width

/-- Pixel `x` of a host-written source line as P64 (R142, R146). -/
def hdPixel (f colour : Nat) (full : Bool) (width : Nat) (line : List Byte) (x : Nat) : List Byte :=
  match f with
  | 0 =>
    let u := fun i => leAt line (2 * i) 2 % 1024
    let g := x / 2
    let y := if x % 2 == 0 then u (4 * g + 1) else u (4 * g + 3)
    if x % 2 == 0 then p64Ycc colour full y (2 * u (4 * g)) (2 * u (4 * g + 2))
    else if x + 1 < width then p64Ycc colour full y (u (4 * g) + u (4 * g + 4)) (u (4 * g + 2) + u (4 * g + 6))
    else p64Ycc colour full y (2 * u (4 * g)) (2 * u (4 * g + 2))
  | 1 => p64Rgb colour full 8 (byteAt line (3 * x)) (byteAt line (3 * x + 1)) (byteAt line (3 * x + 2))
  | 2 =>
    let w := leAt line (4 * x) 4
    p64Rgb colour full 10 (w % 1024) (w / 1024 % 1024) (w / 1048576 % 1024)
  | 3 =>
    let u := fun i => leAt line (6 * x + 2 * i) 2 % 4096
    p64Rgb colour full 12 (u 0) (u 1) (u 2)
  | _ => slice line (8 * x) 8

end Sys2Proof.Machine
end

