-- ==== Sys2Proof/Machine/Ingress.lean ====
section
/-! DEFINITION. Video ingress (R132 to R156): network reception, reconstruction of ST 2022-7 pairs, host-written frames,
conversion into the input's buffers and frame synchronisation. -/

namespace Sys2Proof.Machine

/-- Input `i`. -/
def State.inp (s : State) (i : Nat) : IngIn := s.ing.get {} i
/-- The state with input `i` replaced. -/
def State.setInp (s : State) (i : Nat) (x : IngIn) : State := { s with ing := s.ing.set i x }
/-- ING_STATUS.STATE: 0 disabled, 1 WAITING, 2 LOCKED, 3 LOST. -/
def State.inState (s : State) (i : Nat) : Nat := s.fld (Reg.ingStatus i) 0 3
/-- ING_STATUS.PRESENT. -/
def State.presented (s : State) (i : Nat) : Nat := s.fld (Reg.ingStatus i) 16 2
/-- The state with an ING counter advanced; the PMC event advances with it (R156, R518). -/
def State.ingCount (s : State) (i k : Nat) (n : Nat := 1) : State := (s.bump (Reg.ingCnt i k) n).count 3 i k n
/-- The ING event of an input's district (R377). -/
def State.ingEvent (s : State) (r : InRec) : State := s.raise r.dist (16 + r.id) 3
/-- Ingress runs in Standby and Active (R34). -/
def State.ingressOn (s : State) : Bool := s.mode.mode == .standby || s.mode.mode == .active
/-- Bytes of one of an input's buffers. -/
def InRec.bufBytes (r : InRec) : Nat := r.width * r.height * 8
/-- The input period in ROOT cycles, rounded down (R153). -/
def InRec.period (r : InRec) : Nat := if r.num == 0 then 0 else r.den * 9600000000 / r.num
/-- ING_CFG.RANGE: 1 full range. -/
def State.fullRange (s : State) (i : Nat) : Bool := s.bitOf (Reg.ingCfg i) 0

/-- A frame queued for a port's internal source (R271). -/
def State.txInternal (s : State) (p : Nat) (bytes : List Byte) : State :=
  let t := s.ports.get {} p
  { s with ports := s.ports.set p { t with internal := t.internal ++ [⟨.internal, bytes⟩] } }

/-- A membership report from a port: record type 4 joins the group, 3 leaves it (R135). -/
def State.igmpSend (s : State) (p group recType : Nat) : State :=
  match s.pl.port? p with
  | some pr => s.txInternal p (igmpReport pr.mac pr.vlan group recType)
  | none => s

/-- The port and group pairs that input `i` receives on. -/
def State.igmpWant (s : State) (i : Nat) : List (Nat × Nat) :=
  match s.pl.input? i with
  | some r => if r.enabled && r.kind != 2 && s.ingressOn then r.paths.map (fun p => (p, r.group)) else []
  | none => []

/-- The memberships of input `i` brought in line with whether it receives, with a leave or a membership report for each
that changes (R135). -/
def State.igmpSync (s : State) (i : Nat) : State :=
  let had := (s.inp i).joined
  let want := s.igmpWant i
  if had == want then s
  else
    let s := (had.filter (fun e => !want.contains e)).foldl (fun s e => s.igmpSend e.1 e.2 3) s
    let s := (want.filter (fun e => !had.contains e)).foldl (fun s e => s.igmpSend e.1 e.2 4) s
    s.setInp i { s.inp i with joined := want }

/-- All memberships brought in line (R135). -/
def State.igmpSyncAll (s : State) : State := (List.range 16).foldl (fun s i => s.igmpSync i) s

/-- IGMP_QUERY: a general query (group 0) or a group-specific one is answered for the enabled inputs on the port (R135). -/
def State.igmpQuery (s : State) (p group : Nat) : State :=
  s.pl.inputs.foldl (fun s r =>
    if r.enabled && r.kind != 2 && s.ingressOn && r.paths.contains p && (group == 0 || group == r.group) then
      s.igmpSend p r.group 2
    else s) s

/-- IGMP_QUERY (R135). -/
def execIgmpQuery (port : Fin 64) (group : Word32) (s : State) : Host.Outcome State Fault Refusal :=
  .next (s.begin.igmpQuery port.val group.toNat)

/-! ### Writing pixels -/

/-- Disjoint ranges with one more range. -/
def addIv : List (Nat × Nat) → Nat → Nat → List (Nat × Nat)
  | [], a, b => if a < b then [(a, b)] else []
  | (lo, hi) :: t, a, b =>
    if b < lo then (if a < b then (a, b) :: (lo, hi) :: t else (lo, hi) :: t)
    else if hi < a then (lo, hi) :: addIv t a b
    else addIv t (min lo a) (max hi b)

/-- Bytes of an input's frame written into its set (R484: mirrored). -/
def State.writeInput (s : State) (r : InRec) (off : Nat) (bytes : List Byte) : State :=
  match s.set? r.setId with
  | some x => if off + bytes.length ≤ x.bytes then s.writeShared x off bytes else s
  | none => s

/-- One P64 pixel written at index `px` of the buffer being written. -/
def State.putPixel (s : State) (r : InRec) (px : Nat) (bytes : List Byte) : State :=
  s.writeInput r ((s.inp r.id).writing * r.bufBytes + px * 8) bytes

/-- The odd pixel of 4:2:2 pgroup `g` of a line, once the chroma of the next pgroup is known or none follows (R146). Where
the next pgroup is never received, the pixel stays unwritten (DESIGN CHOICE, log 233). -/
def State.oddPixel (s : State) (r : InRec) (row g : Nat) : State :=
  let perLine := r.width / 2
  let raw := (s.inp r.id).raw
  match Tab.find? raw (row * perLine + g) with
  | none => s
  | some (cb, _, cr, y1) =>
    let full := s.fullRange r.id
    let px := row * r.width + 2 * g + 1
    if g + 1 ≥ perLine then s.putPixel r px (p64Ycc r.colour full y1 (2 * cb) (2 * cr))
    else
      match Tab.find? raw (row * perLine + g + 1) with
      | none => s
      | some (cb', _, cr', _) => s.putPixel r px (p64Ycc r.colour full y1 (cb + cb') (cr + cr'))

/-- One 4:2:2 pgroup written: its even pixel, and the odd pixels whose chroma is now known (R146). -/
def State.putYccGroup (s : State) (r : InRec) (row g : Nat) (codes : List Nat) : State :=
  let x := s.inp r.id
  let cb := codes.getD 0 0
  let y0 := codes.getD 1 0
  let cr := codes.getD 2 0
  let s := s.setInp r.id { x with raw := x.raw.set (row * (r.width / 2) + g) (cb, y0, cr, codes.getD 3 0) }
  let s := s.putPixel r (row * r.width + 2 * g) (p64Ycc r.colour (s.fullRange r.id) y0 (2 * cb) (2 * cr))
  let s := s.oddPixel r row g
  if g == 0 then s else s.oddPixel r row (g - 1)

/-- RGB pixels of one pgroup written. -/
def State.putRgbGroup (s : State) (r : InRec) (px : Nat) (codes : List Nat) : State :=
  (List.range (pgPixels r.format)).foldl (fun s k =>
    s.putPixel r (px + k) (p64Rgb r.colour (s.fullRange r.id) (fmtDepth r.format)
      (codes.getD (3 * k) 0) (codes.getD (3 * k + 1) 0) (codes.getD (3 * k + 2) 0))) s

/-- The pgroups of one row segment written, from pixel `x0` on. -/
def State.putGroups (s : State) (r : InRec) (row : Nat) : Nat → Nat → List Byte → State
  | 0, _, _ => s
  | n + 1, x0, data =>
    let codes := pgCodes (fmtDepth r.format) (data.take (pgBytes r.format))
    let s := if r.format == 0 then s.putYccGroup r row (x0 / 2) codes else s.putRgbGroup r (row * r.width + x0) codes
    State.putGroups s r row n (x0 + pgPixels r.format) (data.drop (pgBytes r.format))

/-! ### The payload of a packet (R137) -/

/-- A row segment of a packet: row, offset in pixels, bytes of data. -/
structure RowSeg where
  row : Nat
  off : Nat
  len : Nat
deriving DecidableEq, Repr

/-- The row headers of a payload and what follows them; none where a rule of R137 is broken. -/
def rowSegs (r : InRec) : Nat → List Byte → Option (List RowSeg × List Byte)
  | 0, _ => none
  | fuel + 1, p =>
    let len := beAt p 0 2
    let row := beAt p 2 2
    let off := beAt p 4 2
    if p.length < 6 then none
    else if row ≥ 0x8000 then none
    else
      let x := off % 0x8000
      let ok := row < r.height && len % pgBytes r.format == 0 && x % pgPixels r.format == 0 &&
        x + len / pgBytes r.format * pgPixels r.format ≤ r.width
      if !ok then none
      else if off ≥ 0x8000 then
        match rowSegs r fuel (p.drop 6) with
        | some (t, rest) => some (⟨row, x, len⟩ :: t, rest)
        | none => none
      else some ([⟨row, x, len⟩], p.drop 6)

/-- The segments and data of a payload after the extended sequence number; none if malformed. -/
def payloadSegs (r : InRec) (p : List Byte) : Option (List RowSeg × List Byte) :=
  match rowSegs r 3 p with
  | some (segs, data) => if sumOf (segs.map (·.len)) ≤ data.length then some (segs, data) else none
  | none => none

/-- The pixels of a payload written into the frame. -/
def State.putSegs (s : State) (r : InRec) : List RowSeg → List Byte → State
  | [], _ => s
  | g :: t, data =>
    let n := g.len / pgBytes r.format
    let s := s.putGroups r g.row n g.off (data.take g.len)
    let x := s.inp r.id
    let a := g.row * r.width + g.off
    let s := s.setInp r.id { x with written := addIv x.written a (a + n * pgPixels r.format) }
    State.putSegs s r t (data.drop g.len)

/-! ### Frames (R139, R151 to R153) -/

/-- The buffer that is neither presented nor newest (R151). -/
def nextBuffer (present : Nat) (newest : Option Nat) : Nat :=
  ([0, 1, 2].find? (fun b => b != present && some b != newest)).getD 0

/-- A frame has completed: it becomes the newest, and the input is LOCKED (R151, R153). -/
def State.frameComplete (s : State) (r : InRec) (ts : Nat) : State :=
  let i := r.id
  let x := s.inp i
  let s := s.ingCount i 0
  let was := s.inState i
  let times := (s.now / 24) :: x.times.take 16
  let per := if times.length == 17 then (times.headD 0 - times.getLastD 0) / 16 else 0
  let w := nextBuffer (s.presented i) (some x.writing)
  let x := { x with newest := some x.writing, newestTs := ts, done := x.done + 1, writing := w }
  let s := s.setInp i { x with times := times, lastDone := s.now }
  let s := (s.wr (Reg.ingPeriod i) (w32 per)).setF (Reg.ingStatus i) 0 3 2
  if was == 3 then s.ingEvent r else s

/-- The end of a frame, complete or not (R139, R152). -/
def State.frameEnd (s : State) (r : InRec) (ts : Nat) (complete : Bool) : State :=
  if complete then s.frameComplete r ts
  else
    let s := s.ingCount r.id 3
    if s.bitOf (Reg.ingCfg r.id) 3 then s else s.frameComplete r ts

/-- The network frame being assembled ends (R139). -/
def State.endAssembly (s : State) (r : InRec) : State :=
  let x := s.inp r.id
  match x.ts with
  | none => s
  | some t =>
    let whole := !x.gap && sumOf (x.written.map (fun v => v.2 - v.1)) == r.width * r.height
    let s := s.setInp r.id { x with ts := none, lastTs := some t, gap := false, written := [], taken := [], raw := [] }
    s.frameEnd r t whole

/-- Timestamp `a` is later than `b`, modulo 2^32. -/
def tsLater (a b : Nat) : Bool := frameLater (w32 a) (w32 b)

/-- A packet taken in order into the frame its timestamp names (R138, R139); one of an earlier timestamp is out of its frame
and counted so (R156). -/
def State.takePkt (s : State) (r : InRec) (pk : HeldPkt) : State :=
  let i := r.id
  let write := fun (s : State) =>
    let s := match payloadSegs r pk.payload with
      | some (segs, data) => s.putSegs r segs data
      | none => s
    let x := s.inp i
    let s := s.setInp i { x with taken := pk.seq :: x.taken }
    if pk.marker then s.endAssembly r else s
  let start := fun (s : State) =>
    let x := s.inp i
    write (s.setInp i { x with ts := some pk.ts, gap := x.hurt.contains pk.ts, written := [], taken := [], raw := [], fresh := true,
                               hurt := x.hurt.filter (fun t => tsLater t pk.ts) })
  match (s.inp i).ts with
  | some t =>
    if pk.ts == t then write s
    else if tsLater pk.ts t then start (s.endAssembly r)
    else s.ingCount i 8
  | none =>
    match (s.inp i).lastTs with
    | some t => if tsLater pk.ts t then start s else s.ingCount i 8
    | none => start s

/-- Missing sequence numbers noted: counted as lost, and the frame under way has a gap (R138, R139). -/
def State.noteGap (s : State) (i n : Nat) : State :=
  let s := s.ingCount i 4 n
  let x := s.inp i
  s.setInp i { x with gap := x.gap || x.ts.isSome }

/-- `a − b` modulo 2^32. -/
def seqDiff (a b : Nat) : Nat := (a + 2 ^ 32 - b % 2 ^ 32) % 2 ^ 32

/-- A packet at sequence number `seq` of an input with one path: what is missing before it is noted, and `take` takes it. A
late packet of the frame under way that has not been taken is taken too, and its gap stays counted; any other late packet is
dropped (DESIGN CHOICE, log 234). -/
def State.onepath (s : State) (r : InRec) (seq : Nat) (late : Bool) (take : State → State) : State :=
  let i := r.id
  let x := s.inp i
  let adv := fun (s : State) => s.setInp i { s.inp i with next := some ((seq + 1) % 2 ^ 32) }
  match x.next with
  | none => adv (take s)
  | some e =>
    if seq == e then adv (take s)
    else if tsLater seq e then adv (take (s.noteGap i (seqDiff seq e)))
    else if late then take s
    else s

/-- A packet that finds its receive buffer full is counted, and the frame of its timestamp is incomplete (R140). -/
def State.ingFull (s : State) (i ts : Nat) : State :=
  let s := s.ingCount i 7
  let x := s.inp i
  let ahead := match (if x.ts.isSome then x.ts else x.lastTs) with | some t => tsLater ts t | none => true
  if x.ts == some ts then s.setInp i { x with gap := true }
  else if ahead && !x.hurt.contains ts then s.setInp i { x with hurt := x.hurt ++ [ts] }
  else s

/-- Reconstruction window: 1 ms in ROOT cycles (R141). -/
def windowRoot : Nat := 9600000

/-- Sequence numbers whose window has passed: one that came on one path only was recovered from it. A number is kept while
its packet waits, so that a copy that comes too late is still known (R141). -/
def State.expireSeen (s : State) (i : Nat) : State :=
  let x := s.inp i
  let past := fun (e : SeenSeq) => e.at_ + windowRoot < s.now
  let old := x.seen.filter (fun e => past e && !e.aged)
  let keep := x.seen.filter (fun e => !past e || x.held.any (fun h => h.seq == e.seq))
  let s := s.setInp i { x with seen := keep.map (fun e => { e with aged := past e }) }
  let nb := (old.filter (fun e => e.b && !e.a)).length
  let na := (old.filter (fun e => e.a && !e.b)).length
  let s := if nb == 0 then s else s.ingCount i 5 nb
  if na == 0 then s else s.ingCount i 6 na

/-- A packet held in sequence order. -/
def holdPkt : List HeldPkt → HeldPkt → List HeldPkt
  | [], p => [p]
  | q :: t, p => if tsLater q.seq p.seq then p :: q :: t else q :: holdPkt t p

/-- Packets released in sequence order: the one expected, or the first held once it has waited the window out (R141). -/
def State.release (s : State) (r : InRec) : Nat → State
  | 0 => s
  | fuel + 1 =>
    let i := r.id
    let x := s.inp i
    match x.held with
    | [] => s
    | pk :: t =>
      let e := x.next.getD pk.seq
      if pk.seq == e then
        State.release ((s.setInp i { x with held := t, next := some ((pk.seq + 1) % 2 ^ 32) }).takePkt r pk) r fuel
      else if pk.at_ + windowRoot < s.now then
        let s := s.noteGap i (seqDiff pk.seq e)
        let x := s.inp i
        State.release ((s.setInp i { x with held := t, next := some ((pk.seq + 1) % 2 ^ 32) }).takePkt r pk) r fuel
      else s

/-- A packet of an input with two paths (R141). -/
def State.twopath (s : State) (r : InRec) (b : Bool) (pk : HeldPkt) : State :=
  let i := r.id
  let s := s.expireSeen i
  let x := s.inp i
  let behind := match x.next with | some e => pk.seq != e && !tsLater pk.seq e | none => false
  let x' := if x.seen.any (·.seq == pk.seq) then
      { x with seen := x.seen.map (fun e => if e.seq == pk.seq && !e.aged then { e with a := e.a || !b, b := e.b || b } else e) }
    else if behind then x
    else { x with seen := x.seen ++ [⟨pk.seq, s.now, !b, b, false⟩], held := holdPkt x.held pk }
  (s.setInp i x').release r (x'.held.length + 1)

/-- The input of a port that an IPv4 UDP packet matches (R134). -/
def State.inputOf (s : State) (p : Nat) (f : List Byte) : Option InRec :=
  let ip := etherBody f
  if etherType f != 0x0800 || !isIpv4 ip 17 then none
  else s.pl.inputs.find? (fun r => r.enabled && r.kind != 2 && r.paths.contains p && ipDst ip == r.group &&
    beAt (ip.drop (4 * (byteAt ip 0 % 16))) 2 2 == r.udp)

/-- True when the frame carries the port's VLAN setting (R134, R267). -/
def vlanOk (pr : PortRec) (f : List Byte) : Bool := frameVid f == (if pr.vlan == 0 then none else some pr.vlan)

/-- A packet for an input checked and written into the input's frame buffer (R134 to R141). -/
def State.ingPacket (s : State) (p : Nat) (f : List Byte) (room : Room) : State :=
  if !s.ingressOn then s
  else match s.inputOf p f, s.pl.port? p with
  | some r, some pr =>
    let i := r.id
    let ip := etherBody f
    let u := ipPayload ip
    let rtp := (u.take (beAt u 4 2)).drop 8
    let ext := if (byteAt rtp 0).testBit 4 then 4 + 4 * beAt rtp 14 2 else 0
    let body := rtp.drop (12 + ext)
    if !vlanOk pr f then s
    else if !ipv4Ok ip 17 || !udpSumOk ip u || rtp.length < 12 + ext + 2 || byteAt rtp 0 / 64 != 2 || byteAt rtp 0 % 16 != 0
        || (payloadSegs r (body.drop 2)).isNone then s.ingCount i 8
    else
      let ssrc := beAt rtp 8 4
      let st := Reg.ingStatus i
      if s.bitOf st 7 && (s.rd (Reg.ingSsrc i)).toNat != ssrc then s.ingCount i 9
      else
        let s := (s.wr (Reg.ingSsrc i) (w32 ssrc)).setF st 7 1 1
        let b := r.kind == 1 && p == r.portB && p != r.portA
        let s := s.setF st (if b then 6 else 5) 1 1
        let x := s.inp i
        let s := s.setInp i (if b then { x with lastB := some s.now } else { x with lastA := some s.now })
        let seq := beAt body 0 2 * 65536 + beAt rtp 2 2
        let pk : HeldPkt := { seq := seq, at_ := s.now, ts := beAt rtp 4 4, marker := (byteAt rtp 1).testBit 7, payload := body.drop 2 }
        let full := room == .full || (room == .wide && r.receiver == 0)
        if r.kind == 1 then (if full then s.ingFull i pk.ts else s.twopath r b pk)
        else if full then (s.ingFull i pk.ts).onepath r seq false id
        else
          let x := s.inp i
          s.onepath r seq (!x.taken.contains seq && x.ts == some pk.ts) (fun s => s.takePkt r pk)
  | _, _ => s

/-! ### Registers, host-written frames -/

/-- An access of an initiator to the registers of input `i`: by its district or the house, else code 0x07 (R155). -/
def State.ingAccess (s : State) (init : InitId) (i : Nat) (f : State → State) : State :=
  s.access init 3 (fun s =>
    let d := distOf init
    if d == houseDist || (s.pl.input? i).any (·.dist == d) then f s else s.setErr (Reg.ingStatus i) 0x07)

/-- A write to ING_CFG: RELEARN forgets the SSRC (R136), and with it the packets held, the sequence number expected and the
timestamp of the last frame; the frame under way stays (DESIGN CHOICE, log 235). RANGE 2 or 3 leaves the field unchanged. -/
def State.ingCfgWrite (s : State) (i : Nat) (v : Word32) : State :=
  let k := Reg.ingCfg i
  let s := (s.setF k 4 1 (field v 4 1)).setF k 3 1 (field v 3 1)
  let s := if field v 0 2 < 2 then s.setF k 0 2 (field v 0 2) else s
  if v.getLsbD 5 then
    let x := s.inp i
    (s.setF (Reg.ingStatus i) 7 1 0).setInp i { x with next := none, lastTs := none, seen := [], held := [] }
  else s

/-- ING_RELEARN: a write of RELEARN of ING_CFG forgets the input's SSRC (R136). -/
def execIngRelearn (init : InitId) (input : Fin 16) (value : Word32) (s : State) : Host.Outcome State Fault Refusal :=
  .next (s.begin.ingAccess init input.val (fun s => s.ingCfgWrite input.val value))

/-- The state with ING_HD_STATUS.FREE in line with the queue. -/
def State.hdFree (s : State) (i : Nat) : State := s.setF (Reg.ingHdStatus i) 0 3 (4 - (s.inp i).hd.length)

/-- The code of a post or completion in LAST_CODE and ING_STATUS.ERR (R143). -/
def State.hdCode (s : State) (i code : Nat) : State := (s.setF (Reg.ingHdStatus i) 8 8 code).setErr (Reg.ingStatus i) code

/-- A write to ING_HD_POST (R143). -/
def State.hdPost (s : State) (init : InitId) (i : Nat) (v : Word32) : State :=
  match s.pl.input? i with
  | none => s.hdCode i 0x07
  | some r =>
    let setId := s.fld (initKey init (Reg.ingHdSet i)) 0 16
    let off := s.rd64 (initKey init (Reg.ingHdOffLo i))
    let pitch := (s.rd (initKey init (Reg.ingHdPitch i))).toNat
    let line := hdLineBytes r.format r.width
    let x := s.inp i
    if distOf init != r.dist then s.hdCode i 0x07
    else if r.kind != 2 || !r.enabled then s.hdCode i 0x04
    else if x.hd.length ≥ 4 then s.hdCode i 0x01
    else if (s.setRange r.dist setId off (pitch * (r.height - 1) + line)).isNone then s.hdCode i 0x02
    else if pitch == 0 || pitch % 64 != 0 || pitch < line then s.hdCode i 0x03
    else
      let s := s.mirrorTo r.dist (.hdPost i setId off pitch (field v 0 16))
      ((s.setInp i { x with hd := x.hd ++ [⟨setId, off, pitch, field v 0 16⟩] }).hdCode i 0).hdFree i

/-- ING_HD_POST: a write posts the staged host-written frame descriptor (R143). -/
def execIngHdPost (init : InitId) (input : Fin 16) (value : Word32) (s : State) : Host.Outcome State Fault Refusal :=
  .next (s.begin.access init 3 (fun s =>
    if isHost init && s.mirrorLocked (distOf init) then s.mirrorDrop else s.hdPost init input.val value))

/-- A host-written frame read whole and converted into the buffer being written. -/
def State.hdConvert (s : State) (r : InRec) (d : HdDesc) : State :=
  (List.range r.height).foldl (fun s y =>
    let line := s.readSetId d.setId (d.off + y * d.pitch) (hdLineBytes r.format r.width)
    let px := (List.range r.width).flatMap (hdPixel r.format r.colour (s.fullRange r.id) r.width line)
    s.writeInput r ((s.inp r.id).writing * r.bufBytes + y * r.width * 8) px) s

/-- ING_HD_COMPLETE: the source frame at the head of the queue has been read whole; its descriptor completes (R144, R145). -/
def execIngHdComplete (input : Fin 16) (s : State) : Host.Outcome State Fault Refusal :=
  let s := s.begin
  let i := input.val
  match s.pl.input? i, (s.inp i).hd with
  | some r, d :: t =>
    if !s.ingressOn then .next s
    else
      let bad := match s.set? d.setId with
        | some x => s.poisoned x d.off (d.pitch * (r.height - 1) + hdLineBytes r.format r.width)
        | none => false
      let s := s.hdConvert r d
      let s := s.setInp i { s.inp i with hd := t, fresh := true }
      let code := if bad then 0x05 else 0
      let s := ((s.setF (Reg.ingHdStatus i) 16 16 d.tag).hdCode i code).hdFree i
      let s := if bad then
          s.report { block := 3, code := 0x05, init := 0x38, sev := 1, dist := r.dist, addr := d.setId }
        else s
      .next ((s.frameEnd r d.tag (!bad)).ingEvent r)
  | _, _ => .next s

/-- INPUT_LOST: no frame has completed within four input periods (R153). -/
def execInputLost (input : Fin 16) (s : State) : Host.Outcome State Fault Refusal :=
  let s := s.begin
  let i := input.val
  match s.pl.input? i with
  | some r =>
    if s.ingressOn && s.inState i == 2 then
      .next (((s.at_ ((s.inp i).lastDone + 4 * r.period)).setF (Reg.ingStatus i) 0 3 3).ingEvent r)
    else .next s
  | none => .next s

/-- PATH_DELIVERY_TIMEOUT: a path that has delivered no valid packet within four input frame periods clears (R141). -/
def execPathDeliveryTimeout (input : Fin 16) (pathB : Bool) (s : State) : Host.Outcome State Fault Refusal :=
  let s := s.begin
  let i := input.val
  match s.pl.input? i with
  | some r =>
    let last := if pathB then (s.inp i).lastB else (s.inp i).lastA
    let b := if pathB then 6 else 5
    if s.ingressOn && s.bitOf (Reg.ingStatus i) b then
      .next ((s.at_ ((last.getD 0) + 4 * r.period)).setF (Reg.ingStatus i) b 1 0)
    else .next s
  | none => .next s

/-- INPUT_PRESENT: at a frame boundary an input presents its newest complete frame or counts a repeat (R151, R153). An
input of a cut-through canvas does not switch buffers, and repeats and drops none (R154). -/
def State.inputPresent (s : State) (r : InRec) : State :=
  let i := r.id
  if !r.enabled || !s.ingressOn then s
  else
    let s := if r.kind == 1 then (s.expireSeen i).release r ((s.inp i).held.length + 1) else s
    let s := if s.cutInput i then s.setInp i { s.inp i with done := min 1 (s.inp i).done }
      else
        let x := s.inp i
        match x.newest with
        | some b =>
          let s := if x.done > 1 then s.ingCount i 2 (x.done - 1) else s
          let s := (s.setF (Reg.ingStatus i) 16 2 b).wr (Reg.ingPresTs i) (w32 x.newestTs)
          s.setInp i { x with newest := none, done := 0 }
        | none => if s.presented i == 3 then s else s.ingCount i 1
    let st := s.inState i
    s.setInp i { s.inp i with blank := st == 1 || st == 0 || (st == 3 && s.bitOf (Reg.ingCfg i) 4) }

/-- All inputs at a frame boundary. -/
def State.inputsPresent (s : State) : State := s.pl.inputs.foldl (fun s r => s.inputPresent r) s

/-- An input restarted in state WAITING, or disabled (R133, R153). -/
def State.inputRestart (s : State) (r : InRec) : State :=
  let s := s.setInp r.id { lastDone := s.now, joined := (s.inp r.id).joined }
  ((s.wr (Reg.ingStatus r.id) (pack [(16, 3), (0, if r.enabled && s.ingressOn then 1 else 0)])).wr (Reg.ingSsrc r.id) 0).hdFree r.id

/-- A reset of host district `d` discards its queued descriptors that have not started, with code 0x06 (R145); the first of
a queue has always started (DESIGN CHOICE, log 236). -/
def State.resetIngress (s : State) (d : Nat) : State :=
  (s.pl.inputs.filter (·.dist == d)).foldl (fun s r =>
    let x := s.inp r.id
    match x.hd with
    | h :: t@(_ :: _) =>
      let last := t.getLastD h
      ((s.setInp r.id { x with hd := [h] }).setF (Reg.ingHdStatus r.id) 16 16 last.tag |>.hdCode r.id 0x06).hdFree r.id
    | _ => s) s

end Sys2Proof.Machine
end

