-- ==== Sys2Proof/Machine/Plaza.lean ====
section
/-! DEFINITION. Plaza composition (R157 to R178): layer settings and commits, scaler partners, composition of a canvas
row, writeback and witness windows. -/

namespace Sys2Proof.Machine

/-- The state with words written one after another. -/
def State.wrWords (s : State) (k : Nat) : List Word32 → State
  | [] => s
  | w :: t => State.wrWords (s.wr k w) (k + 4) t

/-- A layer is disabled, and no pending copy is about to enable it (R162). -/
def State.layIdle (s : State) (p l : Nat) : Bool :=
  !s.layOn p l && !((s.pz p).pend.find? l).any (fun w => (Lay.ofWords w).on)

/-- Scaler `k` is reserved or lent (R162). -/
def PlzState.taken (x : PlzState) (k : Nat) : Bool := x.resv.any (·.2 == k) || x.lent.any (·.2 == k)

/-- The partner a ganged layer would take: the one lent to it already, else the highest free scaler (R162). -/
def State.partnerFor (s : State) (p l : Nat) : Option Nat :=
  let x := s.pz p
  match x.lent.find? l with
  | some k => some k
  | none => (List.range 16).reverse.find? (fun k => k != l && s.layIdle p k && !x.taken k)

/-- PLZ_LSTATUS of every layer in line with the partners and the active copies. -/
def State.plzShow (s : State) (p : Nat) : State :=
  (List.range 16).foldl (fun s l =>
    let x := s.pz p
    let partner := match x.resv.find? l with | some k => k | none => x.lent.get 0x1F l
    let lent := match List.find? (·.2 == l) (x.resv ++ x.lent) with | some e => e.1 | none => 0x1F
    let k := Reg.plzLstatus p l
    ((s.setF k 16 5 partner).setF k 8 5 lent).setF k 0 1 (bit (s.layOn p l))) s

/-- PLZ_LPENDING in line with the pending copies. -/
def State.plzPending (s : State) (p : Nat) : State :=
  let x := s.pz p
  s.wr (Reg.plzLpending p) (pack ((List.range 17).map (fun l => (l, bit (x.pend.find? l).isSome))))

/-- An access to the registers of Plaza `p`, of the canvas's district or the house (R178). -/
def State.plzAccess (s : State) (init : InitId) (p : Nat) (f : State → State) (write : Bool := true) : State :=
  s.access init 4 (fun s =>
    let d := distOf init
    if d == houseDist || (s.pl.canvas? p).any (·.dist == d) then f s else s.setErr (Reg.plzStatus p) 0x07) write

/-! ### Commits (R165, R166) -/

/-- A scale ratio within 64:1 magnification and 4:1 reduction (R159). -/
def ratioOk (crop dst : Nat) : Bool := dst ≤ 64 * crop && crop ≤ 4 * dst

/-- The fetch condition of R159: ⌈CROP_H / DST_H⌉ × CROP_W × L ≤ 1.6 × 10^9 × g. -/
def fetchOk (fps : Q) (c : CanRec) (cropW cropH dstH : Nat) (gang : Bool) : Bool :=
  Q.le (fps.mul ((c.height + c.vblank) * (ceilDiv cropH (max dstH 1) * cropW))) (Q.ofNat (1600000000 * (if gang then 2 else 1)))

/-- An input is used by an enabled layer of a canvas in the other egress mode than `cut`. -/
def State.usedAcross (s : State) (i : Nat) (cut : Bool) : Bool :=
  s.pl.canvases.any (fun c => c.enabled && c.cut != cut &&
    (List.range 16).any (fun l =>
      (s.layOn c.plaza l && (Lay.ofWords (s.layActive c.plaza l)).inId == i) ||
      ((s.pz c.plaza).pend.find? l).any (fun w => (Lay.ofWords w).on && (Lay.ofWords w).inId == i)))

/-- The code that refuses the commit of layer `l`, 0 when it passes (R166). The Plaza's own reservation for the layer has
been released. -/
def State.commitCode (s : State) (p l : Nat) : Nat :=
  match s.canvas? p with
  | none => 0x0C
  | some c =>
    let y := Lay.ofWords (s.layShadow p l)
    if y.alpha > 0x1000 || y.dstW > 16384 || y.dstH > 16384 then 0x0D
    else if !y.on then 0
    else match s.pl.input? y.inId with
      | none => 0x06
      | some i =>
        if !i.enabled || i.dist != c.dist then 0x06
        else if y.cropX + y.cropW > i.width || y.cropY + y.cropH > i.height then 0x01
        else if !(ratioOk y.cropW y.dstW && ratioOk y.cropH y.dstH) then 0x02
        else if (y.cropW > 8192 && !y.gang) || (y.gang && (s.partnerFor p l).isNone) then 0x03
        else if !fetchOk s.pl.fps c y.cropW y.cropH y.dstH y.gang then 0x0E
        else if (s.pz p).taken l then 0x08
        else if (c.cut && y.cropH != y.dstH) || s.usedAcross y.inId c.cut then 0x09
        else 0

/-- One layer's commit (R165). -/
def State.commitLayer (s : State) (p l : Nat) : State :=
  let k := Reg.plzLstatus p l
  let x := s.pz p
  let s1 := s.setPz p { x with resv := x.resv.drop (· == l) }
  let c := s1.commitCode p l
  if c != 0 then
    let s := s.setErr k c
    if c == 0x0C then s.setErr (Reg.plzStatus p) c else s
  else
    let w := s1.layShadow p l
    let y := Lay.ofWords w
    let x := s1.pz p
    let resv := if y.on && y.gang then (match s1.partnerFor p l with | some q => x.resv.set l q | none => x.resv) else x.resv
    (s1.setPz p { x with pend := x.pend.set l w, resv := resv }).setErr k 0

/-- PLZ_COMMIT of layers, in ascending order (R165). -/
def State.commitLayers (s : State) (p : Nat) (mask : BitVec 16) : State :=
  (((List.range 16).foldl (fun s l => if mask.getLsbD l then s.commitLayer p l else s) s).plzShow p).plzPending p

/-- PLZ_COMMIT of the background (R165). -/
def State.commitBg (s : State) (p : Nat) : State :=
  let x := s.pz p
  (s.setPz p { x with pend := x.pend.set 16 [s.rd (Reg.plzBgLo p), s.rd (Reg.plzBgHi p)] }).plzPending p

/-- PLZ_COMMIT_LAYER: a PLZ_COMMIT write names layers to commit (R165, R166). -/
def execPlzCommitLayer (init : InitId) (plaza : Fin 4) (mask : BitVec 16) (s : State) :
    Host.Outcome State Fault Refusal :=
  .next (s.begin.plzAccess init plaza.val (fun s => s.commitLayers plaza.val mask))

/-- PLZ_COMMIT_BG: a PLZ_COMMIT write commits the background (R165). -/
def execPlzCommitBg (init : InitId) (plaza : Fin 4) (s : State) : Host.Outcome State Fault Refusal :=
  .next (s.begin.plzAccess init plaza.val (fun s => s.commitBg plaza.val))

/-! ### The latch (R167) -/

/-- The settings of every layer and of the background in force, as the frame in progress takes them. -/
def State.settings (s : State) (p : Nat) : Tab (List Word32) :=
  ((List.range 16).map (fun l => (l, if s.layOn p l then s.layActive p l else noLayerWords))) ++
    [(16, [s.rd (Reg.plzBgactLo p), s.rd (Reg.plzBgactHi p)])]

/-- One pending copy becomes the active one; `g` is the frame it governs, if its number is known. -/
def State.latchOne (s : State) (p : Nat) (g : Option Word32) (e : Nat × List Word32) : State :=
  let (l, w) := e
  let s := match g with
    | some n => s.wr (Reg.plzLapplied p l) n
    | none => s.setPz p { s.pz p with due := (s.pz p).due.filter (· != l) ++ [l] }
  if l == 16 then s.wrWords (Reg.plzBgactLo p) w
  else
    let x := s.pz p
    let y := Lay.ofWords w
    let lent := if y.on && y.gang then (match x.resv.find? l with | some q => x.lent.set l q | none => x.lent)
      else x.lent.drop (· == l)
    (s.wrWords (Reg.plzLactSrc p l) w).setPz p
      { x with lent := lent, resv := x.resv.drop (· == l), off := x.off.filter (· != l) }

/-- The pending copies that `takes` names sampled at the latch line. They govern the frame whose first row is composed after
it (R167). The number of the next frame of a cut-through canvas is known when that frame begins (R212), and PLZ_LAPPLIED
takes it then. -/
def State.latch (s : State) (p : Nat) (c : CanRec) (takes : Nat → Bool := fun _ => true) : State :=
  let x := s.pz p
  let later := x.gap || !x.composing || x.next > 0 || (!c.cut && c.latchLine ≥ c.vblank)
  let g := if !later then some x.frame else if c.cut then none else some (s.frame + 1)
  let s := (x.pend.filter (fun e => takes e.1)).foldl (fun s e => s.latchOne p g e) s
  let s := s.setPz p { s.pz p with pend := x.pend.filter (fun e => !takes e.1) }
  let s := if later then s else s.setPz p { s.pz p with cur := s.settings p }
  (s.plzShow p).plzPending p

/-- A live plan that touches Plaza `p` takes effect at the frame boundary under way (R85). -/
def State.liveDue (s : State) (p : Nat) : Bool :=
  s.tpl.pend.any (fun a => a.chk.live && a.allocated && a.moves.isEmpty && a.bounds == 0 && a.chk.touched.contains p)

/-- The Plaza composes in Standby and Active (R34). -/
def State.plazaOn (s : State) : Bool := s.mode.mode == .standby || s.mode.mode == .active

/-- PLZ_LATCH: at the latch line the pending commits are sampled and become active (R167). Layer commits of a canvas that a
live plan touches at this boundary are left for the plan to discard (R86). -/
def execPlzLatch (plaza : Fin 4) (s : State) : Host.Outcome State Fault Refusal :=
  let s := s.begin
  .next (match s.canvas? plaza.val with
    | some c => if !s.plazaOn then s else s.latch plaza.val c (fun l => l == 16 || !s.liveDue plaza.val)
    | none => s)

/-! ### Composition of a row (R157, R158, R160 to R164, R172, R173) -/

/-- The buffer of an input that the Plaza reads: the one presented, or the one being written for a cut-through canvas
(R151, R154). -/
def State.inBuffer (s : State) (cut : Bool) (i : Nat) : Nat :=
  let x := s.inp i
  if cut then (if x.ts.isSome then x.writing else x.newest.getD x.writing) else s.presented i

/-- A source pixel's components, none in a poisoned block (R173). -/
def State.srcPixel (s : State) (r : InRec) (buf x y : Nat) : Option (List Nat) :=
  let off := buf * r.bufBytes + (y * r.width + x) * 8
  match s.set? r.setId with
  | none => some [0, 0, 0, 0]
  | some z => if s.poisoned z off 8 then none else some (p64Comps (s.readSet z off 8))

/-- A layer that contributes to row `y` of the canvas, with its input and the buffer read. -/
structure Active where
  l : Nat
  lay : Lay
  input : InRec
  buf : Nat
deriving DecidableEq, Repr

/-- Canvas row `y` lies in the layer's destination rectangle. -/
def Lay.rowIn (l : Lay) (y : Nat) : Bool := l.dstY ≤ (y : Int) && (y : Int) < l.dstY + l.dstH
/-- Canvas column `x` lies in the layer's destination rectangle. -/
def Lay.colIn (l : Lay) (x : Nat) : Bool := l.dstX ≤ (x : Int) && (x : Int) < l.dstX + l.dstW

/-- The layers of the frame in progress that cover row `y`, lowest first. A layer whose input is WAITING, or LOST with
LOSS 1, is transparent (R153). -/
def State.rowLayers (s : State) (p : Nat) (c : CanRec) (y : Nat) : List Active :=
  (List.range 16).filterMap (fun l =>
    let lay := Lay.ofWords ((s.pz p).cur.get noLayerWords l)
    if !lay.on || !lay.rowIn y then none
    else match s.pl.input? lay.inId with
      | some r => if (s.inp r.id).blank then none else some ⟨l, lay, r, s.inBuffer c.cut r.id⟩
      | none => none)

/-- The layer is transparent at pixel `x` of row `y` because it has underrun (R172). -/
def PlzState.late (z : PlzState) (width l x y : Nat) : Bool := ((z.under.find? l).any (fun i => i ≤ y * width + x))

/-- One canvas pixel (R164). -/
def State.canvasPixel (s : State) (p : Nat) (c : CanRec) (ls : List Active) (y x : Nat) : List Nat :=
  let z := s.pz p
  let bg := z.cur.get [0, 0] 16
  let d0 := [field (bg.getD 0 0) 0 16, field (bg.getD 0 0) 16 16, field (bg.getD 1 0) 0 16, field (bg.getD 1 0) 16 16]
  ls.foldl (fun d a =>
    if !a.lay.colIn x || z.late c.width a.l x y then d
    else
      let u := ((x : Int) - a.lay.dstX).toNat
      let v := ((y : Int) - a.lay.dstY).toNat
      let (src, cov) := scaled a.lay (s.srcPixel a.input a.buf) u v
      blend a.lay src cov d) d0

/-- The bytes of canvas row `y`. -/
def State.canvasRow (s : State) (p : Nat) (c : CanRec) (y : Nat) : List Byte :=
  let ls := s.rowLayers p c y
  (List.range c.width).flatMap (fun x => (s.canvasPixel p c ls y x).flatMap (leBytes 2))

/-- The poisoned source blocks that row `y` needs, by layer (R173). -/
def State.rowPoison (s : State) (p : Nat) (c : CanRec) (y : Nat) : List (Nat × Nat) :=
  if s.lot.poison.isEmpty then []
  else ((s.rowLayers p c y).flatMap (fun a =>
    match s.set? a.input.setId with
    | none => []
    | some z =>
      let v := ((y : Int) - a.lay.dstY).toNat
      let rows := (a.lay.needRows v).eraseDups
      let blocks := rows.flatMap (fun r => (List.range a.lay.cropW).map (fun x =>
        blockOf (s.addrIn z.handles (a.buf * a.input.bufBytes + (r * a.input.width + a.lay.cropX + x) * 8))))
      (blocks.eraseDups.filter (s.lot.poison.contains ·)).map (fun b => (a.l, b)))).eraseDups

/-- The poisoned blocks of row `y` not met before in the frame: counted, with code 0x0A for their layer (R173). -/
def State.notePoison (s : State) (p : Nat) (c : CanRec) (y : Nat) : State :=
  let z := s.pz p
  let new := (s.rowPoison p c y).filter (!z.poisoned.contains ·)
  let s := s.setPz p { z with poisoned := z.poisoned ++ new }
  new.foldl (fun s e => ((s.bump (Reg.plzPoisoncnt p)).count 4 p 2).setErr (Reg.plzLstatus p e.1) 0x0A) s

/-- The PLZ event of Plaza `p`'s district (R377). -/
def State.plzEvent (s : State) (p d : Nat) : State := s.raise d (32 + p) 4

/-- Layer `l` underruns at column `x` of row `y` (R172). One whose input is WAITING or LOST follows R153 and does not
underrun (R173). -/
def State.layerUnderrun (s : State) (p : Nat) (c : CanRec) (y l x : Nat) : State :=
  let z := s.pz p
  let lay := Lay.ofWords (z.cur.get noLayerWords l)
  if !lay.on || !lay.rowIn y || !lay.colIn x || x ≥ c.width || (z.under.find? l).isSome ||
      (s.inp lay.inId).blank || s.inState lay.inId != 2 then s
  else
    let first := z.under.isEmpty
    let s := s.setPz p { z with under := z.under.set l (y * c.width + x) }
    let s := if s.bitOf (Reg.plzUnderrun p) 31 then s else s.wr (Reg.plzUnderrun p) (pack [(31, 1), (24, l), (0, y)])
    let s := ((s.bump (Reg.plzUrcnt p)).count 4 p 1).setF (Reg.plzUrmask p) l 1 1
    let s := (s.setErr (Reg.plzLstatus p l) 0x05).setF (Reg.plzLstatus p l) 1 1 1
    if first then s.plzEvent p c.dist else s

/-- True when ingress has written the source rows that row `y` of a cut-through canvas needs from every layer that is
not named late (R157, R154). -/
def State.sourceReady (s : State) (p : Nat) (c : CanRec) (y : Nat) (late : List Nat) : Bool :=
  (s.rowLayers p c y).all (fun a =>
    late.contains a.l || (s.pz p).late c.width a.l (c.width - 1) y || (s.inp a.input.id).ts.isNone ||
      (a.lay.needRows ((y : Int) - a.lay.dstY).toNat).all (fun r =>
        (s.inp a.input.id).written.any (fun v => v.1 ≤ r * a.input.width && (r + 1) * a.input.width ≤ v.2)))

/-! ### Writeback (R174, R175) -/

/-- One pixel of a writeback row from the composed rows it covers. -/
def wbPixel (sc w : Nat) (rows : List (List Byte)) (x : Nat) : List Byte :=
  let px := rows.flatMap (fun r => ((List.range sc).filter (fun k => sc * x + k < w)).map (fun k => p64Comps (slice r (8 * (sc * x + k)) 8)))
  let n := px.length
  (List.range 4).flatMap (fun k => leBytes 2 ((2 * sumOf (px.map (·.getD k 0)) + n) / (2 * n)))

/-- A composed row sent to the writeback path; `full` when the path holds four rows already. -/
def State.writeback (s : State) (p : Nat) (c : CanRec) (n : Word32) (y : Nat) (row : List Byte) (full : Bool) : State :=
  let z := s.pz p
  let sc := wbDiv c.wbScale
  if !z.wbOn || z.wbDrop || sc == 0 then s
  else if full then
    ((s.setPz p { z with wbDrop := true }).bump (Reg.plzWbdrop p) |>.count 4 p 3).setF (Reg.plzWbstatus p) 2 1 1
  else
    let rows := z.wbRows ++ [row]
    if (y + 1) % sc != 0 && y + 1 != c.height then s.setPz p { z with wbRows := rows }
    else
      let w := ceilDiv c.width sc
      let size := w * ceilDiv c.height sc * 8
      let bytes := (List.range w).flatMap (wbPixel sc c.width rows)
      let b := n.toNat % 2
      let s := (s.setPz p { z with wbRows := [] }).writeSetId c.wbSet (b * size + y / sc * w * 8) bytes
      if y + 1 == c.height then
        (s.wr (Reg.plzWbstatus p) (pack [(0, b), (1, 1)])).wr (Reg.plzWbframe p) n
      else s

/-! ### Witness windows (R176) -/

/-- A window's CRC register over the pixels of its part of a row. -/
def crcFold (c : Nat) (l : List Byte) : Nat := l.foldl crcByte c

/-- A composed row seen by the windows of the Plaza. -/
def State.witnessRow (s : State) (p : Nat) (n : Word32) (y : Nat) (row : List Byte) : State :=
  (s.pl.wits.filter (fun w => w.plaza == p && w.w != 0 && w.h != 0 && w.y ≤ y && y < w.y + w.h)).foldl (fun s w =>
    let z := s.wit.get {} w.win
    let start := if y == w.y then 0xFFFFFFFF else z.crc
    let crc := crcFold start (slice row (8 * w.x) (8 * w.w))
    let s := { s with wit := s.wit.set w.win { z with crc := crc } }
    if y + 1 != w.y + w.h then s
    else
      let v := w32 (crc ^^^ 0xFFFFFFFF)
      let s := (s.wr (Reg.plzWcrc w.win) v).wr (Reg.plzWframe w.win) n
      if w.compare && v != z.expect then
        let k := Reg.plzWstat w.win
        ((s.setF k 31 1 1).setF k 0 16 (s.fld k 0 16 + 1)).plzEvent p w.dist
      else s) s

/-- Row `y` of the frame in progress composed, written to the canvas buffer, sent to the writeback path and seen by the
windows. `late` names layers whose source lines are not in their line buffers, with the first column affected; the
compositor reaches them by rising column (R172). -/
def State.composeRow (s : State) (p : Nat) (c : CanRec) (y : Nat) (late : List (Fin 16 × Nat)) (wbFull : Bool) : State :=
  let s := (sortBy (fun a b => a.2 < b.2 || (a.2 == b.2 && a.1 < b.1)) late).foldl (fun s e => s.layerUnderrun p c y e.1.val e.2) s
  let s := s.notePoison p c y
  let n := (s.pz p).frame
  let row := s.canvasRow p c y
  let s := s.writeSetId c.setId (n.toNat % 2 * (c.width * c.height * 8) + y * c.width * 8) row
  let s := (s.writeback p c n y row wbFull).witnessRow p n y row
  s.setPz p { s.pz p with next := y + 1 }

/-- PLZ_UNDERRUN_READ: a read of PLZ_UNDERRUN returns and clears the first underrun record (R172, R178). -/
def execPlzUnderrunRead (init : InitId) (plaza : Fin 4) (s : State) : Host.Outcome State Fault Refusal :=
  let k := Reg.plzUnderrun plaza.val
  .next (s.begin.access init 4 (write := false) (fun s =>
    let d := distOf init
    if d == houseDist || (s.pl.canvas? plaza.val).any (·.dist == d) then (s.wr k 0).reply (.word (s.rd k))
    else (s.setErr (Reg.plzStatus plaza.val) 0x07).reply (.word 0)))

/-! ### Frames and applies -/

/-- A canvas frame begins: settings, marks of the last frame, writeback and expected CRCs taken (R167, R172, R174). -/
def State.beginCanvas (s : State) (p : Nat) (c : CanRec) (n : Word32) : State :=
  let z := s.pz p
  let s := (s.wr (Reg.plzFrame p) n).setF (Reg.plzStatus p) 16 1 (n.toNat % 2)
  let s := z.due.foldl (fun s l => s.wr (Reg.plzLapplied p l) n) s
  let s := (List.range 16).foldl (fun s l => s.setF (Reg.plzLstatus p l) 1 1 0) s
  let s := s.setPz p { z with cur := s.settings p, composing := true, frame := n, next := 0, gap := false, due := [],
                              under := [], poisoned := [], wbRows := [], wbDrop := false,
                              wbOn := c.wbScale != 0 && s.bitOf (Reg.plzWbctl p) 0 }
  (s.pl.wits.filter (·.plaza == p)).foldl (fun s w =>
    { s with wit := s.wit.set w.win { crc := 0xFFFFFFFF, expect := s.rd (Reg.plzWexpect w.win) } }) s

/-- A frame boundary for the framed Plazas; `gap` says whether the frame is a canvas's re-timing gap (R157, R219). -/
def State.plazasTick (s : State) (n : Word32) (gap : Nat → Bool) : State :=
  (List.range 4).foldl (fun s p =>
    match s.canvas? p with
    | some c =>
      if !s.plazaOn then s.setPz p { s.pz p with composing := false }
      else if gap p then s.setPz p { s.pz p with composing := false, gap := true }
      else if c.cut then s.setPz p { s.pz p with gap := false }
      else s.beginCanvas p c n
    | none => s.setPz p { s.pz p with composing := false }) s

/-- The six words of a LAYER record. -/
def LayRec.words (r : LayRec) : List Word32 :=
  let pa := natBit r.flags 1
  let ad := natBit r.flags 0
  let ga := natBit r.flags 2
  [pack [(0, r.inId), (8, bit ad), (9, bit pa), (10, bit ga), (11, r.filter)],
   pack [(0, r.cropX), (16, r.cropY)], pack [(0, r.cropW), (16, r.cropH)], pack [(0, r.dstX), (16, r.dstY)],
   pack [(0, r.dstW), (16, r.dstH)], w32 r.alpha]

/-- A layer's three copies loaded from its record, or disabled without one (R169). -/
def State.loadLayer (s : State) (p l : Nat) (r : Option LayRec) : State :=
  let w := match r with | some r => r.words | none => noLayerWords
  let x := s.pz p
  let s := s.setPz p { x with pend := x.pend.drop (· == l), resv := x.resv.drop (· == l), lent := x.lent.drop (· == l),
                              off := x.off.filter (· != l), due := x.due.filter (· != l) }
  (s.wrWords (Reg.plzLsrc p l) w).wrWords (Reg.plzLactSrc p l) w

/-- A ganged layer of an apply takes a partner as an accepted commit would (R162). -/
def State.gangLoaded (s : State) (p l : Nat) : State :=
  let y := Lay.ofWords (s.layActive p l)
  if s.layOn p l && y.gang then
    match s.partnerFor p l with
    | some q => s.setPz p { s.pz p with lent := (s.pz p).lent.set l q }
    | none => s
  else s

/-- The background loaded from BG_COLOUR (R169). -/
def State.loadBg (s : State) (p : Nat) (c : Option CanRec) : State :=
  let v := (c.map (·.bg)).getD 0
  let x := s.pz p
  let s := s.setPz p { x with pend := x.pend.drop (· == 16), due := x.due.filter (· != 16) }
  ((s.wr64 (Reg.plzBgLo p) v).wr64 (Reg.plzBgactLo p) v)

/-- The registers of a canvas and its windows loaded at an apply. -/
def State.loadCanvas (s : State) (p : Nat) : State :=
  let c := s.pl.canvas? p
  let s := s.setF (Reg.plzStatus p) 17 1 (bit (c.any (·.enabled)))
  let s := s.setF (Reg.plzWbctl p) 0 1 (bit (c.any (·.wbScale != 0)))
  s.setPz p { s.pz p with composing := false }

/-- The windows of the Plazas that `mine` names loaded at an apply from the plan `old` (R176). -/
def State.loadWits (s : State) (old : Plan) (mine : Nat → Bool) : State :=
  (List.range 64).foldl (fun s w =>
    match s.pl.wits.find? (·.win == w) with
    | some r =>
      if !mine r.plaza then s
      else
        let on := r.w != 0 && r.h != 0 && (s.canvas? r.plaza).isSome
        ((s.setF (Reg.plzWstat w) 30 1 (bit r.compare)).setF (Reg.plzWstat w) 29 1 (bit on)).wr (Reg.plzWexpect w) (w32 r.expect)
    | none => if (old.wits.find? (·.win == w)).any (fun r => mine r.plaza) then s.setF (Reg.plzWstat w) 29 2 0 else s) s

/-- A full apply loads every Plaza (R169). -/
def State.loadPlazasFull (s : State) (old : Plan) : State :=
  ((List.range 4).foldl (fun s p =>
    let s := (List.range 16).foldl (fun s l =>
      s.loadLayer p l (s.pl.layers.find? (fun r => r.plaza == p && r.layer == l))) s
    let s := (s.loadBg p (s.pl.canvas? p)).loadCanvas p
    let s := (List.range 16).foldl (fun s l => s.gangLoaded p l) s
    (s.plzShow p).plzPending p) s).loadWits old (fun _ => true)

/-- A live apply loads the layers of touched canvas `p` whose record is new or differs from the plan `old` (R169, R170). -/
def State.loadPlazaLive (s : State) (old : Plan) (p : Nat) : State :=
  let rec? := fun (q : Plan) l => q.layers.find? (fun r => r.plaza == p && r.layer == l)
  let had := (s.pz p).pend
  let s := (List.range 16).foldl (fun s l => if (had.find? l).isSome then s.setErr (Reg.plzLstatus p l) 0x0B else s) s
  let x := s.pz p
  let s := s.setPz p { x with pend := x.pend.filter (·.1 == 16), resv := [] }
  let lent := (s.pz p).lent
  let s := (List.range 16).foldl (fun s l => if rec? old l == rec? s.pl l then s else s.loadLayer p l (rec? s.pl l)) s
  -- R170: borrowers whose partner's layer the plan enables
  let s := lent.foldl (fun s e =>
    if rec? old e.2 != rec? s.pl e.2 && s.layOn p e.2 && ((s.pz p).lent.find? e.1) == some e.2 then
      let x := s.pz p
      let s := s.setPz p { x with lent := x.lent.drop (· == e.1), off := x.off ++ [e.1] }
      (s.setErr (Reg.plzLstatus p e.1) 0x04).plzEvent p (((s.pl.canvas? p).map (·.dist)).getD 0xFF)
    else s) s
  let s := if old.canvas? p == s.pl.canvas? p then s else s.loadBg p (s.pl.canvas? p)
  let s := s.setF (Reg.plzStatus p) 17 1 (bit (s.canvas? p).isSome)
  let s := s.setF (Reg.plzWbctl p) 0 1 (bit ((s.pl.canvas? p).any (·.wbScale != 0)))
  let s := (List.range 16).foldl (fun s l => if rec? old l == rec? s.pl l then s else s.gangLoaded p l) s
  (s.plzShow p).plzPending p

end Sys2Proof.Machine
end

