-- ==== Sys2Proof/Machine/Avenue.lean ====
section
/-! DEFINITION. Avenue scan-out (R204 to R222) and the Lamp Stream messages an Avenue sends (R223 to R237): presentation
times and deadlines, tile frames, slices, FRAME_ENDs, heartbeats and mode notices. -/

namespace Sys2Proof.Machine

/-- Avenue `p` beside its registers. -/
def State.av (s : State) (p : Nat) : AvePort := s.ave.ports.get {} p
/-- The state with Avenue `p` replaced. -/
def State.setAv (s : State) (p : Nat) (x : AvePort) : State := { s with ave := { s.ave with ports := s.ave.ports.set p x } }
/-- The Avenues' view of canvas `c`. -/
def State.avc (s : State) (c : Nat) : AveCanvas := s.ave.canvases.get {} c
/-- The state with the view of canvas `c` replaced. -/
def State.setAvc (s : State) (c : Nat) (x : AveCanvas) : State :=
  { s with ave := { s.ave with canvases := s.ave.canvases.set c x } }

/-- The time the Clocktower reports, in nanoseconds. -/
def State.ptpNow (s : State) : Nat := s.clt.sec * 1000000000 + s.clt.ns
/-- LMS_BLACKOUT.BLACK (R235). -/
def State.black (s : State) : Bool := s.bitOf Reg.lmsBlackout 0
/-- LMS_BLACKOUT.BGEN (R235). -/
def State.bgen (s : State) : Nat := s.fld Reg.lmsBlackout 8 8
/-- A twin tells its peer of a change of BLACK or BGEN (R487). -/
def State.tellBlack (s : State) : State :=
  if s.pl.cw.isSome then s.emit (.causeway (.black s.black (b8 s.bgen) (s.fld Reg.lmsBlackout 16 4))) else s
/-- The device is in Active. -/
def State.active (s : State) : Bool := s.mode.mode == .active
/-- PRT_STATUS.LINK. -/
def State.linkUp (s : State) (p : Nat) : Bool := s.bitOf (Reg.prtStatus p) 0

/-- The tiles that port `p` carries: those whose TILE record names it, also on a disabled canvas (R204). -/
def State.portTiles (s : State) (p : Nat) : List TileRec := s.pl.tiles.filter (fun t => t.port == p)
/-- SLICE_LAMPS of a tile. -/
def State.perSlice (s : State) (t : Nat) : Nat := ((s.pl.sched? t).map (·.sliceLamps)).getD 0
/-- SLOT of a tile. -/
def State.slotOfTile (s : State) (t : Nat) : Nat := ((s.pl.sched? t).map (·.slot)).getD 0
/-- The layout of a tile. -/
def State.tileLayout (s : State) (t : TileRec) : LoutRec :=
  (s.pl.layout? t.layout).getD { id := 0, kind := 0, channels := 1, cols := 0, rows := 0, lamps := 0, posSet := 0, format := 0 }
/-- SLICE_COUNT of a tile (R229). -/
def State.tileSlices (s : State) (t : TileRec) : Nat := sliceCount (s.tileLayout t).lamps (s.perSlice t.id)
/-- Payload bytes of slice `i` of a tile (R229). -/
def State.sliceBytes (s : State) (t : TileRec) (i : Nat) : Nat :=
  packedBytes (s.tileLayout t) (sliceLampCount (s.tileLayout t).lamps (s.perSlice t.id) i)
/-- Byte offset of a tile's packed region in an output buffer of its canvas (R192). -/
def State.outOffset (s : State) (t : TileRec) : Nat :=
  sumOf ((s.pl.tiles.filter (fun u => u.plaza == t.plaza && u.id < t.id)).map (fun u => tilePacked (s.tileLayout u) (s.perSlice u.id)))
/-- P of R192: bytes of one output buffer of a canvas. -/
def State.outSize (s : State) (plaza : Nat) : Nat :=
  sumOf ((s.pl.tiles.filter (·.plaza == plaza)).map (fun u => tilePacked (s.tileLayout u) (s.perSlice u.id)))
/-- Byte offset of slice `i` in OUT_SET for frame `n` (R192). -/
def State.sliceOffset (s : State) (t : TileRec) (n : Word32) (i : Nat) : Nat :=
  n.toNat % 2 * s.outSize t.plaza + s.outOffset t + i * packedBytes (s.tileLayout t) (s.perSlice t.id)

/-- P(n) of a canvas, once it is known (R205). -/
def State.presOf (s : State) (c : Nat) (n : Word32) : Option Nat := ((s.avc c).pres.find? (·.1 == n)).map (·.2)
/-- D(n) on port `p` (R206). -/
def State.dueOf (s : State) (p c : Nat) (n : Word32) : Option Nat :=
  (s.presOf c n).map (fun t => t - 1000 * (((s.pl.port? p).map (·.leadUs)).getD 0))
/-- A presentation time computed: kept while the frame can be under way, and shown in AVE_CPRES and AVE_CFRAME. -/
def State.setPres (s : State) (c : Nat) (n : Word32) (t : Nat) : State :=
  let x := s.avc c
  let s := s.setAvc c { x with pres := (n, t) :: x.pres.take (historyFrames - 1) }
  ((s.wr (Reg.aveCpresLo c) (w32 (t % 1000000000))).wr (Reg.aveCpresHi c) (w32 (t / 1000000000))).wr (Reg.aveCframe c) n

/-! ### Lamp Stream messages (R223 to R233) -/

/-- The EtherType of Lamp Stream (R223). -/
def State.lmsType (s : State) : Nat := s.fld Reg.lmsCfg 0 16
/-- The heartbeat address (R224). -/
def State.hbMac (s : State) : Nat := s.fld Reg.lmsHbmacHi 0 16 * 2 ^ 32 + (s.rd Reg.lmsHbmacLo).toNat

/-- The common header and bytes 24 to 63, padded with reserved zero bytes (R226). -/
def lmsHeader (ty pay tile epoch seq bgen flags port frame : Nat) (rest : List Byte) : List Byte :=
  [1, b8 ty] ++ beBytes 2 64 ++ beBytes 2 pay ++ beBytes 2 tile ++ beBytes 4 epoch ++ beBytes 4 seq ++ [b8 bgen, b8 flags] ++
    beBytes 2 port ++ beBytes 4 frame ++ (rest ++ List.replicate (40 - rest.length) 0)

/-- A Lamp Stream frame of port `p` (R223, R224). -/
def State.lmsFrame (s : State) (p dst ty tile seq flags frame : Nat) (rest payload : List Byte) : List Byte :=
  let pr := s.pl.port? p
  etherHeader dst ((pr.map (·.mac)).getD 0) ((pr.map (·.vlan)).getD 0) s.lmsType ++
    lmsHeader ty payload.length tile (s.rd Reg.lmsEpoch).toNat seq s.bgen (flags + 2 * bit s.black) p frame rest ++ payload

/-- The SEQ of the next message of port `p` to a destination (R228). -/
def State.seqOf (s : State) (p dest : Nat) : Nat := s.ave.seq.get 0 (p * 65536 + dest)
/-- One more message sent to a destination; LMS shows a tile's last SEQ. -/
def State.seqUp (s : State) (p dest : Nat) : State :=
  let q := s.seqOf p dest
  let s := { s with ave := { s.ave with seq := s.ave.seq.set (p * 65536 + dest) ((q + 1) % 2 ^ 32) } }
  if dest == 0xFFFF then s else s.wr (Reg.lmsTseq dest) (w32 q)

/-- A message to a tile, and the state after it. -/
def State.toTile (s : State) (p : Nat) (t : TileRec) (ty flags frame : Nat) (rest payload : List Byte) : List Byte × State :=
  (s.lmsFrame p t.mac ty t.id (s.seqOf p t.id) flags frame rest payload, s.seqUp p t.id)

/-- PRES_SEC and PRES_NS of a time. -/
def presBytes (t : Nat) : List Byte := beBytes 6 (t / 1000000000) ++ beBytes 4 (t % 1000000000)

/-- The MGEN that slices and FRAME_ENDs of frame `n` carry: the new value from the frame after the gap on (R237). -/
def State.mgenAt (s : State) (c : Nat) (n : Word32) : Nat :=
  match s.histOf n with
  | some h => h.mgens.get (s.avc c).mgen c
  | none => (s.avc c).mgen

/-- A SLICE (R229). -/
def State.sliceMsg (s : State) (p : Nat) (t : TileRec) (j : TileJob) (h : HeldSlice) : List Byte × State :=
  let l := (s.asOf j.n).tileLayout t
  let per := (s.asOf j.n).perSlice t.id
  s.toTile p t 1 ((if h.i + 1 == j.total then 1 else 0) + 8 * bit j.cut) j.n.toNat
    (presBytes ((s.presOf t.plaza j.n).getD 0) ++ beBytes 2 h.i ++ beBytes 2 j.total ++ [b8 l.format, b8 l.channels] ++
      beBytes 4 (h.i * per) ++ beBytes 4 (sliceLampCount l.lamps per h.i) ++ beBytes 4 l.lamps ++
      beBytes 2 (s.mgenAt t.plaza j.n)) h.bytes

/-- A HEARTBEAT (R232). -/
def State.heartbeatMsg (s : State) (p : Nat) (n : Word32) (sec ns : Nat) (final : Bool) : List Byte × State :=
  let y := s.pl.sys
  (s.lmsFrame p s.hbMac 3 0xFFFF (s.seqOf p 0xFFFF) (4 * bit final) n.toNat
    (beBytes 6 sec ++ beBytes 4 ns ++ beBytes 4 y.num ++ beBytes 4 y.den ++ beBytes 2 y.holdMs ++ beBytes 2 y.fadeMs ++
      beBytes 2 (s.portTiles p).length) [], s.seqUp p 0xFFFF)

/-- A MODE_NOTICE for frame `m` (R233). -/
def State.noticeMsg (s : State) (p : Nat) (t : TileRec) (m : Word32) : List Byte × State :=
  let l := s.tileLayout t
  let cut := (s.canvas? t.plaza).any (·.cut)
  s.toTile p t 5 (8 * bit cut) m.toNat
    (beBytes 4 (m + 1).toNat ++ beBytes 2 (s.avc t.plaza).mgen ++ [b8 l.format, b8 l.channels] ++
      beBytes 2 (s.tileSlices t) ++ [0, 0] ++ beBytes 4 l.lamps) []

/-- A FRAME_END (R230). -/
def State.frameEndMsg (s : State) (p : Nat) (t : TileRec) (n : Word32) (cause sent : Nat) : List Byte × State :=
  s.toTile p t 2 0 n.toNat
    (presBytes ((s.presOf t.plaza n).getD 0) ++ beBytes 2 sent ++ beBytes 2 ((s.asOf n).tileSlices t) ++ [b8 cause, 0] ++
      beBytes 2 (s.mgenAt t.plaza n)) []

/-- The BLACKOUT message of district `d` (R236). -/
def State.blackoutMsg (s : State) (p d : Nat) : List Byte :=
  s.lmsFrame p s.hbMac 4 0xFFFF 0 0 0xFFFFFFFF [b8 d] []

/-! ### Tile frames -/

/-- An Avenue event counter. -/
def State.aveCount (s : State) (p ev k : Nat) : State := (s.bump k).count 6 p ev

/-- Tiles of a frame noted on port `p`, whose slices are to be sent or abandoned. -/
def State.expect (s : State) (p : Nat) (n : Word32) (tiles : List Nat) : State :=
  if tiles.isEmpty then s
  else
    let x := s.av p
    let fs := if x.frames.any (·.n == n) then x.frames.map (fun f => if f.n == n then { f with left := f.left ++ tiles } else f)
      else x.frames ++ [{ n := n, left := tiles }]
    s.setAv p { x with frames := fs }

/-- A tile's frame is done: all slices sent or abandoned; with the last tile AVE_FRAME and AVE_MARGIN follow. -/
def State.tileDone (s : State) (p t : Nat) (n : Word32) (lost : Bool) (due : Nat) : State :=
  let x := s.av p
  match x.frames.find? (·.n == n) with
  | none => s
  | some f =>
    if !f.left.contains t then s
    else
      let f' : AveFrame := { f with left := f.left.filter (· != t), lost := f.lost || lost, due := due }
      let rest := x.frames.filter (·.n != n)
      if f'.left.isEmpty then
        let m := if f'.lost then 0 else min (2 ^ 32 - 1) ((due - s.ptpNow) / 10)
        ((s.setAv p { x with frames := rest, bad := x.bad.filter (·.2 != n) }).wr (Reg.aveFrame p) n).wr (Reg.aveMargin p) (w32 m)
      else s.setAv p { x with frames := rest ++ [f'] }

/-- The slices of a tile's frame `n` are still to be sent or abandoned. -/
def State.awaited (s : State) (p t : Nat) (n : Word32) : Bool := (s.av p).frames.any (fun f => f.n == n && f.left.contains t)

/-- A tile is incomplete for frame `n` (R217): recorded once, with a FRAME_END to the tile (R231). -/
def State.incomplete (s : State) (p t : Nat) (n : Word32) (code sent : Nat) : State :=
  let x := s.av p
  if x.bad.contains (t, n) || !s.awaited p t n then s
  else
    let s := s.setAv p { x with bad := x.bad ++ [(t, n)], ends := x.ends ++ (if s.black then [] else [.frameEnd t n code sent]) }
    let s := (s.aveCount p 2 (Reg.aveLate p)).setErr (Reg.aveStatus p) code
    let s := if s.bitOf (Reg.aveUnderrun p) 31 then s
      else (s.wr (Reg.aveUnderrun p) (pack [(31, 1), (24, code), (12, s.slotOfTile t), (0, t)])).wr (Reg.aveUframe p) n
    let s := if p < 32 then s.setF Reg.aveUrmask0 p 1 1 else s.setF Reg.aveUrmask1 (p - 32) 1 1
    match s.pl.port? p with
    | some pr => s.raise pr.dist (192 + p) 6
    | none => s

/-- Frames the Avenues send: in Active, from the first frame on (R211, R236), and no slices while BLACK is 1. -/
def State.sends (s : State) (n : Word32) : Bool := s.active && !s.black && !frameLater s.ave.first n

/-- The Boulevards report a framed tile ready for frame `n` (R193, R210); nothing is left to send once D(n) has come. -/
def State.tileReady (s : State) (t : TileRec) (n : Word32) : State :=
  if !s.sends n || !s.awaited t.port t.id n then s
  else
    let x := s.av t.port
    s.setAv t.port { x with jobs := x.jobs ++ [{ tile := t.id, n := n, cut := false, total := (s.asOf n).tileSlices t }] }

/-- The Boulevards report a tile incomplete for frame `n`: no slices (R195, R217). -/
def State.tileBad (s : State) (t : TileRec) (n : Word32) : State :=
  if !s.sends n then s
  else (s.incomplete t.port t.id n 0x02 0).tileDone t.port t.id n true 0

/-- Bytes held in a port's slice buffer. -/
def AvePort.occupied (x : AvePort) : Nat := sumOf (x.jobs.map (fun j => sumOf (j.held.map (·.bytes.length))))
/-- The slice buffer's size (R204). -/
def sliceBuffer : Nat := 262144

/-- The cut-through job of a list with the lowest SLOT; of one tile's the oldest frame first (R209). -/
def State.firstCut (s : State) (l : List TileJob) : Option TileJob :=
  l.foldl (fun (acc : Option TileJob) j =>
    match acc with
    | none => some j
    | some k =>
      let a := s.slotOfTile j.tile
      let b := s.slotOfTile k.tile
      if a < b || (a == b && frameLater k.n j.n) then some j else acc) none

/-- The framed job of a list that comes first by frame, then SLOT (R209). -/
def State.firstJob (s : State) (l : List TileJob) : Option TileJob :=
  l.foldl (fun (acc : Option TileJob) j =>
    match acc with
    | none => some j
    | some k => if frameLater k.n j.n || (k.n == j.n && s.slotOfTile j.tile < s.slotOfTile k.tile) then some j else acc) none

/-- The state with a job of port `p` replaced, or removed. -/
def State.putJob (s : State) (p : Nat) (j : TileJob) (keep : Bool) : State :=
  let x := s.av p
  let f := fun (k : TileJob) => k.tile == j.tile && k.n == j.n && k.cut == j.cut
  s.setAv p { x with jobs := if keep then x.jobs.map (fun k => if f k then j else k) else x.jobs.filter (fun k => !f k) }

/-- A job abandoned with a cause (R217). -/
def State.abandon (s : State) (p : Nat) (j : TileJob) (code : Nat) : State :=
  ((s.putJob p j false).incomplete p j.tile j.n code j.sent).tileDone p j.tile j.n true 0

/-- The next framed slice of port `p` read whole into the slice buffer (R210); a poisoned one ends the tile's frame with
code 0x05 (R217). -/
def State.sliceFetch (s : State) (p : Nat) : State :=
  let x := s.av p
  match s.firstJob (x.jobs.filter (fun j => !j.cut && j.fetch < j.limit)) with
  | none => s
  | some j =>
    let v := s.asOf j.n
    match v.pl.tile? j.tile with
    | none => s
    | some t =>
      let len := v.sliceBytes t j.fetch
      if x.occupied + len > sliceBuffer then s
      else
        let set := ((v.pl.canvas? t.plaza).map (·.outSet)).getD 0xFFFF
        let off := v.sliceOffset t j.n j.fetch
        let bad := (v.set? set).any (fun z => s.poisoned z off len)
        if bad then
          -- the slices before the poisoned one are still sent
          let s := s.incomplete p j.tile j.n 0x05 j.fetch
          let j' := { j with stop := some j.fetch }
          if j.next ≥ j.fetch then (s.putJob p j' false).tileDone p j.tile j.n true 0 else s.putJob p j' true
        else
          s.putJob p { j with fetch := j.fetch + 1,
                              held := j.held ++ [{ i := j.fetch, bytes := v.readSetId set off len, at_ := s.now }] } true

/-- AVE_SLICE_FETCH_DONE: a framed slice has been read whole into the slice buffer (R210). -/
def execAveSliceFetchDone (port : Fin 64) (s : State) : Host.Outcome State Fault Refusal :=
  let s := s.begin
  .next (if s.active then s.sliceFetch port.val else s)

/-- Time moves to the earliest deadline of canvas `c`'s frames on port `p` that have tiles left. -/
def State.toDeadline (s : State) (p c : Nat) : State :=
  let due := (s.av p).frames.filterMap (fun f =>
    if f.left.any (fun t => ((s.asOf f.n).pl.tile? t).any (·.plaza == c)) then s.dueOf p c f.n else none)
  match due with
  | [] => s
  | d :: t => s.passTicks (s.cyclesTo ((t.foldl min d) * 2 ^ 32))

/-- Slices of frame `n` of canvas `c` on port `p` not started are abandoned once D(n) has come (R206, R217). -/
def State.deadline (s : State) (p c : Nat) : State :=
  let s := s.toDeadline p c
  let late := (s.av p).frames.filter (fun f => match s.dueOf p c f.n with | some d => d ≤ s.ptpNow | none => false)
  late.foldl (fun s f =>
    (f.left.filter (fun t => ((s.asOf f.n).pl.tile? t).any (·.plaza == c))).foldl (fun s t =>
      match (s.av p).jobs.find? (fun j => j.tile == t && j.n == f.n) with
      | some j =>
        if j.next ≥ j.limit then s
        else s.abandon p j 0x01
      | none => (s.incomplete p t f.n 0x01 0).tileDone p t f.n true 0) s) s

/-- FRAME_DEADLINE: the deadline of a canvas's frames on a port arrives with slices not started (R217). -/
def execFrameDeadline (port : Fin 64) (plaza : Fin 4) (s : State) : Host.Outcome State Fault Refusal :=
  let s := s.begin
  .next (if s.active && !s.black then s.deadline port.val plaza.val else s)

/-- AVE_UNDERRUN_READ: a read of AVE_UNDERRUN returns and clears the first underrun record; AVE_UFRAME stays (R217,
R221). -/
def execAveUnderrunRead (init : InitId) (port : Fin 64) (s : State) : Host.Outcome State Fault Refusal :=
  let k := Reg.aveUnderrun port.val
  .next (s.begin.access init 6 (write := false) (fun s => (s.wr k 0).reply (.word (s.rd k))))

/-! ### Choosing the Avenue's next item (R209, R231, R249) -/

/-- The next slice an Avenue can start: cut-through tiles first, then framed tiles, oldest frame first, lowest SLOT. A
slice is never started at or after its deadline (R206, R209). -/
def State.nextSlice (s : State) (p : Nat) : Option TileJob :=
  let x := s.av p
  let ok := fun (j : TileJob) =>
    let c := (((s.asOf j.n).pl.tile? j.tile).map (·.plaza)).getD 0
    (match s.dueOf p c j.n with | some d => s.ptpNow < d | none => false) &&
      j.held.any (fun h => h.i == j.next && h.go)
  match s.firstCut (x.jobs.filter (fun j => j.cut && ok j)) with
  | some j => some j
  | none => s.firstJob (x.jobs.filter (fun j => !j.cut && ok j))

/-- The next slice index of a job after `i`, passing dropped slices. -/
def nextIndex (dropped : List Nat) : Nat → Nat → Nat
  | 0, i => i
  | fuel + 1, i => if dropped.contains i then nextIndex dropped fuel (i + 1) else i

/-- A slice started: the frame to transmit and the state after it. -/
def State.startSlice (s : State) (p : Nat) (j : TileJob) : Option (TxFrame × State) :=
  match (s.asOf j.n).pl.tile? j.tile, j.held.find? (·.i == j.next) with
  | some t, some h =>
    let (bytes, s) := s.sliceMsg p t j h
    let j' := { j with next := nextIndex j.dropped (j.dropped.length) (j.next + 1), sent := j.sent + 1,
                       held := j.held.filter (·.i != h.i) }
    let s := s.putJob p j' true
    let x := s.av p
    some (⟨.slice j.tile j.n h.i, bytes⟩, s.setAv p { x with sinceCtl := x.sinceCtl + 1 })
  | _, _ => none

/-- An item of the first class, or a FRAME_END, started. -/
def State.startItem (s : State) (p : Nat) (it : AveItem) : Option (TxFrame × State) :=
  match it with
  | .heartbeat n sec ns final =>
    let (bytes, s) := s.heartbeatMsg p n sec ns final
    some (⟨.heartbeat, bytes⟩, s.aveCount p 1 (Reg.aveHb p))
  | .notice t m =>
    if s.black || !s.active then none else (s.pl.tile? t).map (fun tr =>
      let (bytes, s) := s.noticeMsg p tr m
      (⟨.notice, bytes⟩, s.wr (Reg.aveNotice p) (m + 1)))
  | .frameEnd t n cause sent =>
    ((s.asOf n).pl.tile? t).map (fun tr =>
      let sent := match (s.av p).jobs.find? (fun j => j.tile == t && j.n == n) with | some j => j.sent | none => sent
      let (bytes, s) := s.frameEndMsg p tr n cause sent
      (⟨.frameEnd t n, bytes⟩, (s.bump (Reg.lmsTfend t)).count 6 p 4))

/-- The first of a list of items that can be started. -/
def State.startItems (s : State) (p : Nat) : List AveItem → Option (TxFrame × State × List AveItem)
  | [] => none
  | it :: t =>
    match s.startItem p it with
    | some (f, s') => some (f, s', t)
    | none => State.startItems s p t

/-- A slice's transmission has ended (R208, R217): counted, and the tile's frame is done after its last slice. -/
def State.sliceSent (s : State) (p t : Nat) (n : Word32) (i : Nat) : State :=
  let s := s.aveCount p 0 (Reg.aveSlices p)
  match (s.av p).jobs.find? (fun j => j.tile == t && j.n == n) with
  | none => s
  | some j =>
    if j.next ≥ j.limit && j.held.isEmpty then
      let c := (((s.asOf n).pl.tile? t).map (·.plaza)).getD 0
      let bad := (s.av p).bad.contains (t, n)
      (s.putJob p j false).tileDone p t n bad ((s.dueOf p c n).getD 0)
    else s

/-! ### Frame boundaries (R208, R211, R219) -/

/-- AVE_STATUS.STATE in line with the ports' tiles, gaps and ticks (R208). -/
def State.aveShow (s : State) (p : Nat) : State :=
  let ts := s.portTiles p
  let gap := ts.any (fun t => (s.pz t.plaza).gap)
  let st := if ts.isEmpty then 0 else if gap then 3 else if (s.av p).ticks ≥ 2 then 2 else 1
  let k := Reg.aveStatus p
  let s := (s.setF k 0 3 st).setF k 8 1 (bit (s.active && !ts.isEmpty))
  let l := if p < 32 then Reg.aveLockedLo else Reg.aveLockedHi
  s.setF l (p % 32) 1 (bit (st == 2))

/-- The ports of the plan. -/
def State.ports_ (s : State) : List Nat := s.pl.ports.map (·.port)

/-- Heartbeats of a boundary that begins frame `n` (R211); one that is due while the link is down is discarded (R272). -/
def State.heartbeats (s : State) (n : Word32) (final : Bool) : State :=
  s.ports_.foldl (fun s p =>
    if (s.portTiles p).isEmpty then s
    else if !s.linkUp p then (s.bump64 (Reg.prtCntLo p 19)).count 8 p 19
    else
      let x := s.av p
      s.setAv p { x with items := x.items ++ [.heartbeat n (s.frameT / 1000000000) (s.frameT % 1000000000) final] }) s

/-- The tiles of framed canvases expected to be sent as frame `n`. -/
def State.expectFramed (s : State) (n : Word32) : State :=
  s.ports_.foldl (fun s p =>
    s.expect p n (((s.portTiles p).filter (fun t =>
      (s.canvas? t.plaza).any (fun c => !c.cut) && !(s.pz t.plaza).gap && s.tileSlices t > 0)).map (·.id))) s

/-- A frame boundary for the Avenues: P of the framed canvases' last frame, lock states, the largest hold-back of the frame
that ends, expected tiles (R205, R208, R213). The Plazas have taken the boundary. -/
def State.avenuesTick (s : State) (n : Word32) : State :=
  let t := s.frameT
  let s := (List.range 4).foldl (fun s c =>
    match s.canvas? c with
    | some r =>
      let k := Reg.aveCstatus c
      let st := s.fld k 0 3
      let s := if (s.pz c).gap then (s.setAvc c { s.avc c with prev := none, mark := true }).setF k 0 3 2
        else if st == 2 then s.setF k 0 3 3
        else if st == 3 && !r.cut then s.setF k 0 3 1 else s
      -- the gap is no frame of the canvas: it has no P
      if r.cut || st == 2 then s else s.setPres c (n - 1) (t + r.presDelay)
    | none => s) s
  let s := s.ports_.foldl (fun s p =>
    let x := s.av p
    let gap := (s.portTiles p).any (fun t => (s.pz t.plaza).gap)
    let s := s.wr (Reg.aveHoldback p) (w32 x.hold)
    (s.setAv p { x with ticks := if gap then 0 else min 2 (x.ticks + 1), hold := 0 }).aveShow p) s
  if s.sends n then s.expectFramed n else s

/-- Slices not started are discarded, with FRAME_ENDs and mode notices: on leaving Active (R211) or at a blackout (R236). -/
def State.discardSlices (s : State) : State :=
  s.ports_.foldl (fun s p =>
    let x := s.av p
    s.setAv p { x with jobs := [], ends := [], frames := [], bad := [], items := x.items.filter (fun e => !e.isNotice) }) s

/-- MODE_NOTICEs of canvas `c`, whose re-timing gap is frame `m` (R219). -/
def State.notices (s : State) (c : Nat) (m : Word32) : State :=
  (s.pl.tiles.filter (·.plaza == c)).foldl (fun s t =>
    let x := s.av t.port
    s.setAv t.port { x with items := x.items ++ [.notice t.id m] }) s

/-- A slip of a cut-through canvas counted on every port that carries it (R212). -/
def State.ctSlip (s : State) (c times : Nat) : State :=
  let s := s.setErr (Reg.aveCstatus c) 0x04
  let s := s.setF (Reg.aveCstatus c) 0 3 3
  (s.ports_.filter (fun p => (s.portTiles p).any (·.plaza == c))).foldl (fun s p =>
    let x := s.av p
    let s := (s.bump (Reg.aveCtslip p) times).count 6 p 3 times
    ((s.setAv p { x with ticks := 0 }).setErr (Reg.aveStatus p) 0x04).aveShow p) s

/-- The Avenue registers that come from the plan, at an apply. -/
def State.loadAvenues (s : State) : State :=
  let s := (List.range 4).foldl (fun s c =>
    match s.canvas? c with
    | some r => (s.setF (Reg.aveCstatus c) 3 1 (bit r.cut)).setF (Reg.aveCstatus c) 0 3 (if s.fld (Reg.aveCstatus c) 0 3 == 0 then 1 else s.fld (Reg.aveCstatus c) 0 3)
    | none => s.setF (Reg.aveCstatus c) 0 4 0) s
  (List.range 64).foldl (fun s p =>
    let ts := s.portTiles p
    let cut := ts.any (fun t => (s.pl.canvas? t.plaza).any (·.cut))
    let fr := ts.any (fun t => (s.pl.canvas? t.plaza).any (fun c => !c.cut))
    let k := Reg.aveStatus p
    let s := (s.setF k 7 1 (bit cut)).setF k 6 1 (bit fr)
    let s := s.wr (Reg.aveTiles p) (pack [(16, ((s.pl.port? p).map (·.leadUs)).getD 0), (0, ts.length)])
    s.aveShow p) s

/-- A full apply: every generator with tiles starts again (R208); no frame is under way; MGEN is 0 (R237). -/
def State.loadAvenuesFull (s : State) : State :=
  let s := { s with ave := { s.ave with ports := [], canvases := [] } }
  s.loadAvenues

end Sys2Proof.Machine
end

