-- ==== Sys2Proof/Machine/Dram.lean ====
section
/-! DEFINITION. The latency tolerance that the Avenues report to the DRAM controllers (R120, R216), and refresh and
power-down of the DRAM channels by it (R121). -/

namespace Sys2Proof.Machine

/-- The bytes of slices of frame `f` on port `p` not started, and the part of them that the slice buffer holds: 128 bytes
per slice plus its payload (R216). -/
def State.unsent (s : State) (p : Nat) (f : AveFrame) : Nat × Nat :=
  let v := s.asOf f.n
  f.left.foldl (fun (acc : Nat × Nat) t =>
    match v.pl.tile? t with
    | none => acc
    | some r =>
      match (s.av p).jobs.find? (fun j => j.tile == t && j.n == f.n) with
      | some j =>
        let is := (List.range j.limit).filter (fun i => j.next ≤ i && !j.dropped.contains i)
        (acc.1 + sumOf (is.map (fun i => 128 + v.sliceBytes r i)),
         acc.2 + sumOf ((j.held.filter (fun h => j.next ≤ h.i)).map (fun h => 128 + h.bytes.length)))
      | none => (acc.1 + sumOf ((List.range (v.tileSlices r)).map (fun i => 128 + v.sliceBytes r i)), acc.2)) (0, 0)

/-- The tolerance, in units of 10 ns, that a deadline of `due` nanoseconds leaves when `b` bytes still have to be fetched
(R216): rounded down, 0 when negative, at most 0xFFFF. -/
def State.slack (s : State) (p due b : Nat) : Nat :=
  let r := lineRate (((s.pl.port? p).map (·.speed)).getD 0)
  let ahead : Int := (due * 2 ^ 32 : Nat) - (s.clt.units : Nat)
  let x : Int := (ahead * (r.n : Int) - (b * 8000000000 * r.d * 2 ^ 32 : Nat)) / ((10 * 2 ^ 32 * r.n : Nat) : Int)
  min 0xFFFF x.toNat

/-- The latency tolerance of Avenue `p`; none for an Avenue without tiles (R120, R216). -/
def State.aveLt (s : State) (p : Nat) : Option Nat :=
  if (s.portTiles p).isEmpty then none
  else
    let fs := (s.av p).frames
    some (fs.foldl (fun acc f =>
      if (s.unsent p f).1 == 0 then acc
      else
        let upTo := fs.filter (fun g => !frameLater g.n f.n)
        let b := sumOf (upTo.map (fun g => let u := s.unsent p g; u.1 - u.2))
        let plazas := f.left.filterMap (fun t => ((s.asOf f.n).pl.tile? t).map (·.plaza))
        plazas.foldl (fun acc c => match s.dueOf p c f.n with | some d => min acc (s.slack p d b) | none => acc) acc) 0xFFFF)

/-- AVE_LT of Avenue `p` (R216). -/
def State.aveLtWord (s : State) (p : Nat) : Word32 :=
  match s.aveLt p with | some t => w32 t | none => 0x8000FFFF#32

/-- LT_MIN with the Avenue that reports it; none without a constraint (R120). -/
def State.ltMin (s : State) : Option (Nat × Nat) :=
  (s.pl.ports.map (·.port)).foldl (fun acc p =>
    match s.aveLt p, acc with
    | none, acc => acc
    | some t, some (t', q) => if t < t' || (t == t' && p < q) then some (t, p) else some (t', q)
    | some t, none => some (t, p)) none

/-- LOT_LAT (R120). -/
def State.lotLatWord (s : State) : Word32 :=
  match s.ltMin with | some (t, p) => pack [(16, p), (0, t)] | none => 0x8000FFFF#32

/-- LT_MIN is at least a threshold; no constraint, and a threshold of 0, always suffice (R120, R121). -/
def State.ltAtLeast (s : State) (t : Nat) : Bool := t == 0 || (match s.ltMin with | some (m, _) => t ≤ m | none => true)

/-- DRAM_REFRESH: a channel with refreshes owed starts one when LT_MIN is at least LT_REF or eight are owed (R121). -/
def execDramRefresh (chan : Fin 32) (owed : Nat) (s : State) : Host.Outcome State Fault Refusal :=
  let s := s.begin
  let go := owed ≥ 1 && (s.ltAtLeast (s.fld Reg.lotLtcfg 16 16) || owed ≥ 8)
  .next (if go then
    { s with lot := { s.lot with owed := s.lot.owed.set chan.val (owed - 1), powerDown := s.lot.powerDown.set chan.val false,
                                 refreshEnd := s.lot.refreshEnd.set chan.val (s.now + 3360) } }
  else { s with lot := { s.lot with owed := s.lot.owed.set chan.val owed } })

/-- DRAM_POWER_DOWN: a channel whose queues have been empty for 64 PIPE cycles enters power-down when LT_MIN is at least
LT_PD and no refresh is owed (R121). -/
def execDramPowerDown (chan : Fin 32) (idle owed : Nat) (s : State) : Host.Outcome State Fault Refusal :=
  let s := s.begin
  .next (if idle ≥ 64 && owed == 0 && s.ltAtLeast (s.fld Reg.lotLtcfg 0 16) then
    { s with lot := { s.lot with owed := s.lot.owed.set chan.val 0, powerDown := s.lot.powerDown.set chan.val true } }
  else { s with lot := { s.lot with owed := s.lot.owed.set chan.val owed } })


end Sys2Proof.Machine
end

