-- ==== Sys2Proof/Machine/Fix.lean ====
section
/-! DEFINITION. Arithmetic beyond the integers: rounding of quotients, and the natural logarithm in fixed point. -/

namespace Sys2Proof.Machine

/-- `k` binary digits of log2 of `x / 2^96`, for `x` from 2^96 to 2^97. -/
def log2Bits : Nat → Nat → Nat
  | 0, _ => 0
  | k + 1, x =>
    let y := x * x / 2 ^ 96
    if y ≥ 2 ^ 97 then 2 ^ k + log2Bits k (y / 2) else log2Bits k y

/-- ln 2 in units of 2^-64. -/
def ln2 : Nat := 12786308645202655659

/-- log2 of a positive number in units of 2^-64, short by less than 2^-60. -/
def log2Fix (n : Nat) : Nat :=
  let e := Nat.log2 n
  e * 2 ^ 64 + log2Bits 64 (n * 2 ^ 96 / 2 ^ e)

/-- ln(n / d) in units of 2^-64. -/
def lnFix (n d : Nat) : Int := ((log2Fix n : Int) - (log2Fix d : Int)) * (ln2 : Int) / (2 ^ 64 : Nat)

/-- The bits of a square root below 2^k, taken from above: the largest number whose square is at most `n`. -/
def isqrtBits (n : Nat) : Nat → Nat → Nat
  | 0, acc => acc
  | k + 1, acc => isqrtBits n k (if (acc + 2 ^ k) * (acc + 2 ^ k) ≤ n then acc + 2 ^ k else acc)

/-- The square root rounded down. -/
def isqrt (n : Nat) : Nat := isqrtBits n (Nat.log2 n / 2 + 1) 0

/-- The square root of `n / d` rounded to the nearest integer. -/
def sqrtNear (n d : Nat) : Nat := (isqrt (4 * n / d) + 1) / 2

/-- The arctangent's series from term `j` on, for `y ^ (2j + 1)`; all in units of 2^-64. -/
def atanSeries (y2 : Nat) : Nat → Nat → Nat → Int
  | 0, _, _ => 0
  | k + 1, j, y => (y / (2 * j + 1) : Nat) - atanSeries y2 k (j + 1) (y * y2 / 2 ^ 64)

/-- The argument whose arctangent is half that of `x`. -/
def atanHalf (x : Nat) : Nat := x * 2 ^ 64 / (2 ^ 64 + isqrt (2 ^ 128 + x * x))

/-- The arctangent of `x` from 0 to 1, in units of 2^-64. -/
def atanFix (x : Nat) : Int :=
  let y := atanHalf (atanHalf (atanHalf x))
  8 * atanSeries (y * y / 2 ^ 64) 14 0 y

/-- π in units of 2^-64. -/
def piFix : Nat := 57952155664616982739

/-- The angle of the point (`p`, `q`) in units of 0.001°, from -180,000 to 180,000. -/
def atan2Mdeg (q p : Int) : Int :=
  if q == 0 && p == 0 then 0
  else
    let a := p.natAbs
    let b := q.natAbs
    let r : Int := if b ≤ a then atanFix (b * 2 ^ 64 / a) else (piFix / 2 : Nat) - atanFix (a * 2 ^ 64 / b)
    let r : Int := if p < 0 then (piFix : Int) - r else r
    roundDiv ((if q < 0 then -r else r) * 180000) piFix

end Sys2Proof.Machine
end

