-- ==== Sys2Proof/Machine/Calibration.lean ====
section
/-! DEFINITION. Calibration (R440 to R450): targets and coefficients, the procedure with its two runs, the checks of its
result, and the gradual application of an accepted coefficient. -/

namespace Sys2Proof.Machine

/-- Calibration's state replaced by `f` of it. -/
def State.cl (s : State) (f : CalState → CalState) : State := { s with cal := f s.cal }
/-- CAL_STATUS.STATE. -/
def State.calSt (s : State) : Nat := s.fld Reg.calStatus 0 3
/-- The state with CAL_STATUS.RESULT set. -/
def State.calResult (s : State) (c : Nat) : State := s.setErr Reg.calStatus c

/-- A target of R440. -/
def calTarget (t : Nat) : Bool := t < 4 || (0x10 ≤ t && t < 0x18) || (0x40 ≤ t && t < 0x70)
/-- A target that is a metering current input, which alone has PH. -/
def calCurrent (t : Nat) : Bool := 0x10 ≤ t && t < 0x18
/-- The coefficients in force of a target. -/
def State.coef (s : State) (t : Nat) : Coef := s.cal.coef.get {} t
/-- The coefficient of a target that a step sets. -/
def Coef.part (c : Coef) (step : Nat) : Int := match step with | 1 => c.o | 2 => c.g | _ => c.ph
/-- A target's coefficients with the one that a step sets replaced. -/
def Coef.setPart (c : Coef) (step : Nat) (v : Int) : Coef :=
  match step with | 1 => { c with o := v } | 2 => { c with g := v } | _ => { c with ph := v }

/-- The full-scale peak of a target in the units of REF: mV, or 0.1 mA (R441, R443). -/
def State.calFull (s : State) (t : Nat) : Nat :=
  if t < 4 then (s.rd (Reg.metVfs t)).toNat * 100
  else if calCurrent t then (s.rd (Reg.metIfs (t - 0x10))).toNat * 10
  else 30000

/-- A procedure ends with one record (R447). -/
def State.calRecord (s : State) (p : CalProc) (result : Nat) : State :=
  let new := if result == 0 then p.new else p.old
  let r : List Word32 := [w32 (s.cal.seq + 1), w32 s.clt.sec,
    pack [(24, result), (16, p.target), (8, p.step), (0, p.blocks)], p.opid, p.ref,
    w32 (twos 32 (roundDiv (p.a + p.b) 2)), w32 (twos 32 p.old), w32 (twos 32 new)]
  let s := s.cl (fun c => { c with recs := (r :: c.recs).take 256, seq := c.seq + 1 })
  s.setF Reg.calStatus 15 9 s.cal.recs.length

/-- The block is idle again. -/
def State.calIdle (s : State) : State :=
  ((s.cl (fun c => { c with proc := none })).setF Reg.calStatus 0 3 0).setF Reg.calStatus 11 4 0xF

/-- A procedure in STATE 1 to 3 ends with a code; a later one goes on (R449). -/
def State.calEnd (s : State) (result : Nat) : State :=
  match s.cal.proc with
  | some p => if s.calSt ≤ 3 then ((s.calRecord p result).calIdle).calResult result else s
  | none => s

/-- The device has left Standby and Maintenance (R448, R449). -/
def State.calMode (s : State) : State := s.calEnd 0x04
/-- A reset of a district ends the procedure it owns (R449). -/
def State.calDistReset (s : State) (d : Nat) : State :=
  match s.cal.proc with
  | some p => if p.dist == d then s.calEnd 0x0B else s
  | none => s
/-- A change of the voltage input of element `e` during a PHASE run (R448). -/
def State.calVsel (s : State) (e : Nat) : State :=
  match s.cal.proc with
  | some p => if p.step == 3 && p.target == 0x10 + e && s.calSt ≥ 2 then s.calEnd 0x0B else s
  | none => s

/-! ### Start and abort (R442, R448, R449) -/

/-- The code that refuses a start, 0 when it is accepted; the checks stand in the order of R448. -/
def State.calCheck (s : State) (cfg ref : Word32) : Nat :=
  let t := field cfg 8 8
  let step := field cfg 16 2
  let full := s.calFull t
  if s.calSt != 0 then 0x03
  else if s.mode.mode != .standby && s.mode.mode != .maintenance then 0x04
  else if !calTarget t || step == 0 || (step == 3 && !calCurrent t) then 0x05
  else if field cfg 0 8 == 0 then 0x06
  else if step == 2 && (200 * ref.toNat ^ 2 < full ^ 2 || 2 * ref.toNat ^ 2 > full ^ 2) then 0x07
  else if step == 3 && (ref.toInt < -90000 || ref.toInt > 90000) then 0x07
  else 0

/-- A write to CAL_CTL. -/
def State.calCtl (s : State) (init : InitId) (value : Word32) : State :=
  let cmd := field value 0 2
  if field value 16 16 != 0xCA1B || cmd == 0 || cmd == 3 then s.calResult 0x01
  else if cmd == 2 then
    let owner := (s.cal.proc.map (·.dist)).getD 0xF
    if distOf init != houseDist && distOf init != owner then s.calResult 0x02
    else s.calEnd 0x0B
  else
    let cfg := s.rd (initKey init Reg.calCfg)
    let ref := s.rd (initKey init Reg.calRef)
    match s.calCheck cfg ref with
    | 0 =>
      let t := field cfg 8 8
      let step := field cfg 16 2
      let old := (s.coef t).part step
      let p : CalProc := { dist := distOf init, target := t, step := step, blocks := field cfg 0 8, ref := ref,
                           opid := s.rd (initKey init Reg.calOpid), old := old, new := old }
      ((((s.cl (fun c => { c with proc := some p })).setF Reg.calStatus 0 3 1).setF Reg.calStatus 11 4 p.dist).setF
        Reg.calStatus 3 5 0)
    | c => s.calResult c

/-- CAL_START: CAL_CTL CMD 1 starts a calibration procedure. -/
def execCalStart (init : InitId) (value : Word32) (s : State) : Host.Outcome State Fault Refusal :=
  .next (s.begin.access init 17 (fun s => s.calCtl init value))

/-- CAL_ABORT: CAL_CTL CMD 2 aborts a procedure in STATE 1 to 3. -/
def execCalAbort (init : InitId) (value : Word32) (s : State) : Host.Outcome State Fault Refusal :=
  .next (s.begin.access init 17 (fun s => s.calCtl init value))

/-! ### Runs (R444) -/

/-- cal(c) of a target for a code in units of 1/12,500 code, in units of 2^-45 / 12,500 of its full-scale peak (R441). -/
def Coef.value (c : Coef) (code : Int) : Int := c.g * (code - 12500 * c.o)

/-- The divisor of `Coef.value`. -/
def calUnit : Nat := 2 ^ 45 * 12500

/-- A sample falls into a run: the target's code and its code after PH, and the voltage of the pair, in units of
1/12,500 code. -/
def State.calSample (s : State) (code : Nat → Int) (shifted : Nat → Int) (vsel : Nat → Nat) (sense : Int) : State :=
  match s.cal.proc with
  | none => s
  | some p =>
    if s.calSt != 2 && s.calSt != 3 then s
    else
      let t := p.target
      let raw := if t < 4 then code t else if calCurrent t then code (4 + (t - 0x10)) else 12500 * sense
      let x := (s.coef t).value (if calCurrent t then shifted (t - 0x10) else raw)
      let u := if calCurrent t then (s.coef (vsel (t - 0x10))).value (code (vsel (t - 0x10))) else 0
      let p := { p with n := p.n + 1, code := p.code + raw / 12500, sum := p.sum + x, sq := p.sq + x.natAbs ^ 2,
                        vsq := p.vsq + u.natAbs ^ 2 }
      s.cl (fun c => { c with proc := some p })

/-- The measured value of the run that ends (R444). -/
def State.calValue (s : State) (p : CalProc) (m : PhaseMeas) : Int :=
  let full := s.calFull p.target
  match p.step with
  | 1 => if p.n == 0 then 0 else roundDiv p.code p.n
  | 2 =>
    if p.n == 0 then 0
    else if p.target ≥ 0x40 then roundDiv (p.sum * (full : Int)) (p.n * calUnit)
    else (sqrtNear (p.sq * full ^ 2) (p.n * calUnit ^ 2) : Nat)
  | _ => atan2Mdeg m.q m.p

/-- An input's RMS value over a run lies below 10 % of its full-scale peak divided by √2 (R445). -/
def rmsWeak (sq n : Nat) : Bool := 200 * sq < n * calUnit ^ 2

/-- The run under way ends; its sums start again. -/
def State.calRunEnd (s : State) (p : CalProc) (m : PhaseMeas) : CalProc :=
  let x := s.calValue p m
  let weak := p.weak || (p.step ≥ 2 && (rmsWeak p.sq p.n || p.n == 0)) ||
    (p.step == 3 && (rmsWeak p.vsq p.n || m.freq < 45000 || m.freq > 65000))
  let p := { p with done := 0, n := 0, code := 0, sum := 0, sq := 0, vsq := 0, weak := weak }
  if s.calSt == 2 then { p with a := x, fA := m.freq } else { p with b := x, fB := m.freq }

/-- The new coefficient from the mean of both runs (R444). -/
def CalProc.result (p : CalProc) : Int :=
  let sum := p.a + p.b
  match p.step with
  | 1 => p.old + roundDiv sum 2
  | 2 => if sum ≤ 0 then 0 else roundDiv (p.old * (p.ref.toNat : Int) * 2) sum.toNat
  | _ => if p.fA + p.fB == 0 then 0
         else p.old + roundDiv ((sum - 2 * p.ref.toInt) * 100000000000) (360000 * (p.fA + p.fB))

/-- The code that fails a procedure, 0 when it is accepted (R445). -/
def CalProc.judge (p : CalProc) (new : Int) : Nat :=
  let diff := (p.a - p.b).natAbs
  let agree := match p.step with
    | 1 => diff ≤ 64
    | 2 => diff * 5000 ≤ p.ref.toNat
    | _ => diff ≤ 10
  let plausible := match p.step with
    | 1 => new.natAbs ≤ 167772
    | 2 => 0x3CCCCD ≤ new && new ≤ 0x433333
    | _ => new.natAbs ≤ 2000
  if p.weak then 0x08 else if !agree then 0x09 else if !plausible then 0x0A else 0

/-- Calibration at a metering block boundary (R444 to R446). -/
def State.calBoundary (s : State) (m : PhaseMeas) : State :=
  match s.cal.proc with
  | none => s
  | some p =>
    let put := fun (s : State) (p : CalProc) => s.cl (fun c => { c with proc := some p })
    match s.calSt with
    | 1 => s.setF Reg.calStatus 0 3 2
    | 2 =>
      if p.done + 1 < p.blocks then put s { p with done := p.done + 1 }
      else
        let p := s.calRunEnd p m
        ((put s p).wr Reg.calMeasA (w32 (twos 32 p.a))).setF Reg.calStatus 0 3 3
    | 3 =>
      if p.done + 1 < p.blocks then put s { p with done := p.done + 1 }
      else
        let p := s.calRunEnd p m
        let s := (put s p).wr Reg.calMeasB (w32 (twos 32 p.b))
        let new := p.result
        match p.judge new with
        | 0 => (put s { p with new := new }).setF Reg.calStatus 0 3 4
        | c => s.calEnd c
    | 5 =>
      let k := s.fld Reg.calStatus 3 5 + 1
      let v := p.old + roundDiv ((p.new - p.old) * k) 16
      let s := s.cl (fun c => { c with coef := c.coef.set p.target ((c.coef.get {} p.target).setPart p.step v) })
      let s := s.setF Reg.calStatus 3 5 k
      if k < 16 then s else (s.calIdle).raise p.dist 13 17
    | _ => s

/-- CAL_STORE_DONE: the accepted coefficient and its record are stored and the ramp begins; a failed save fails the
procedure (R446). -/
def execCalStoreDone (ok : Bool) (s : State) : Host.Outcome State Fault Refusal :=
  let s := s.begin
  .next (match s.cal.proc with
    | none => s
    | some p =>
      if s.calSt != 4 then s
      else if !ok then
        ((s.report { block := 17, code := 0x0C, sev := 1 }).calIdle).calResult 0x0C
      else
        let s := s.cl (fun c => { c with store := c.store.set p.target ((c.store.get {} p.target).setPart p.step p.new) })
        (((s.calRecord p 0).calResult 0).setF Reg.calStatus 3 5 0).setF Reg.calStatus 0 3 5)

/-! ### Registers (R450) -/

/-- A register write to CAL as the Kerb die performs it (offsets from CAL). -/
def State.calWrite (s : State) (init : InitId) (o : Nat) (value : Word32) : State :=
  match o with
  | 0x00 => s.calCtl init value
  | 0x08 => s.wr (initKey init Reg.calCfg) (value &&& 0x3FFFF#32)
  | 0x0C => s.wr (initKey init Reg.calRef) value
  | 0x10 => s.wr (initKey init Reg.calOpid) value
  | 0x20 => if isHouse init then s.wr (initKey init Reg.calCoefsel) (value &&& 0xFF#32) else s.calResult 0x0D
  | 0x30 => if isHouse init then s.wr (initKey init Reg.calRecsel) (value &&& 0xFF#32) else s.calResult 0x0D
  | _ => if isHouse init then s else s.calResult 0x0D

/-- A read of a CAL register. -/
def State.calRead (s : State) (init : InitId) (o : Nat) : Word32 :=
  let c := s.coef (field (s.rd (initKey init Reg.calCoefsel)) 0 8)
  if o == 0x08 || o == 0x0C || o == 0x10 || o == 0x20 || o == 0x30 then s.rd (initKey init (Reg.calCtl + o))
  else if o == 0x24 then w32 (twos 32 c.g)
  else if o == 0x28 then w32 (twos 32 c.o)
  else if o == 0x2C then w32 (twos 32 c.ph)
  else if 0x40 ≤ o && o < 0x60 then
    (s.cal.recs.getD (field (s.rd (initKey init Reg.calRecsel)) 0 8) []).getD ((o - 0x40) / 4) 0
  else if o == 0 then 0
  else s.rd (Reg.calCtl + o)

/-- At Boot the coefficients in the settings store come into force. -/
def State.calBoot (s : State) : State :=
  (s.cl (fun c => { c with coef := c.store, proc := none })).setF Reg.calStatus 15 9 s.cal.recs.length

end Sys2Proof.Machine
end

