-- ==== Sys2Proof/Machine/ClockOut.lean ====
section
/-! DEFINITION. The spread-spectrum clock outputs of the Kerb die (R460). -/

namespace Sys2Proof.Machine

/-- Output `k` is relocking its PLL. -/
def State.relocking (s : State) (k : Nat) : Bool := s.krb.relock.contains k
/-- KRB_CKOSTAT.RUNNING of output `k` as EN and the relocking have it; every output is low in Reset. -/
def State.ckoRun (s : State) (k : Nat) : State :=
  s.setF Reg.krbCkostat k 1 (bit (s.mode.mode != .reset && s.bitOf (Reg.krbCkocfg k) 31 && !s.relocking k))

/-- A write to KRB_CKOCFG of output `k`: values 6 and 7 leave FREQ or SPREAD unchanged; a change of FREQ, SPREAD or CENTER
holds the output low and relocks its PLL. -/
def State.ckoWrite (s : State) (init : InitId) (k : Nat) (value : Word32) : State :=
  if !isHouse init then s.setErr Reg.krbStatus 0x09
  else
    let r := Reg.krbCkocfg k
    let old := s.rd r
    let spread := if field value 16 3 ≥ 6 then field old 16 3 else field value 16 3
    let freq := if field value 0 3 ≥ 6 then field old 0 3 else field value 0 3
    let new := pack [(31, field value 31 1), (30, field value 30 1), (16, spread), (0, freq)]
    let s := s.wr r new
    let s := if field old 0 31 == field new 0 31 then s
      else { s with krb := { s.krb with relock := k :: s.krb.relock.filter (· != k) } }
    s.ckoRun k

/-- CKO_CONFIG_WRITE: a write to KRB_CKOCFG as the Kerb die performs it. -/
def execCkoConfigWrite (init : InitId) (out : Fin 4) (value : Word32) (s : State) : Host.Outcome State Fault Refusal :=
  .next (s.begin.access init 15 (fun s => s.ckoWrite init out.val value))

/-- CKO_RELOCK_DONE: a clock output's PLL has relocked and the output restarts. -/
def execCkoRelockDone (out : Fin 4) (s : State) : Host.Outcome State Fault Refusal :=
  let s := s.begin
  let k := out.val
  .next (if s.relocking k then
      { s with krb := { s.krb with relock := s.krb.relock.filter (· != k) } }.ckoRun k
    else s)

end Sys2Proof.Machine
end

