-- ==== Sys2Proof/Machine/Kerb.lean ====
section
/-! DEFINITION. The Kerb lamp drive and its sign groups (R402 to R420): duties and pulses, measurement and faults, group
shutdown, temperature and derating. -/

namespace Sys2Proof.Machine

/-- The Kerb drive's state replaced by `f` of it. -/
def State.kb (s : State) (f : KrbState → KrbState) : State := { s with krb := f s.krb }
/-- Kerb channel `c`. -/
def State.kch (s : State) (c : Nat) : KerbCh := s.krb.chs.get {} c
/-- The state with Kerb channel `c` replaced. -/
def State.setKch (s : State) (c : Nat) (x : KerbCh) : State := s.kb (fun k => { k with chs := k.chs.set c x })

/-- The KERB record of channel `c`. -/
def State.kerbRec (s : State) (c : Nat) : Option KerbRec := s.pl.kerbs.find? (·.ch == c)
/-- The SIGNGROUP record of group `g`. -/
def State.signRec (s : State) (g : Nat) : Option SignRec := s.pl.signs.find? (·.group == g)
/-- The channels of group `g`, lowest first. -/
def State.groupChans (s : State) (g : Nat) : List KerbRec :=
  s.pl.kerbs.filter (fun r => r.kind == 1 && r.group == g)
/-- Group `g` is FAULTED. -/
def State.faulted (s : State) (g : Nat) : Bool := s.bitOf (Reg.krbGstat g) 7

/-- SLOW cycles are 96 ROOT cycles long (R15). -/
def slowRoot : Nat := 96
/-- A dimming period: 16,384 units of 4 SLOW cycles (R403). -/
def kerbPeriod : Nat := 16384 * 4 * slowRoot

/-- A code of KRB. -/
def State.krbErr (s : State) (code : Nat) : State := s.setErr Reg.krbStatus code
/-- A code of a channel. -/
def State.chErr (s : State) (c code : Nat) : State := (s.setErr (Reg.krbChstat c) code).krbErr code
/-- A code of a group. -/
def State.grpErr (s : State) (g code : Nat) : State := (s.setErr (Reg.krbGstat g) code).krbErr code

/-- The FAULT field of a channel. -/
def State.chFault (s : State) (c : Nat) : Nat := s.fld (Reg.krbChstat c) 16 3
/-- The state with the FAULT field of a channel set. -/
def State.setChFault (s : State) (c v : Nat) : State := s.setF (Reg.krbChstat c) 16 3 v

/-- KRB_FAULTSUM, KRB_CHFAULT and SIGN_FAULT after a change of faults. A dimmable channel at cut-off has no latched
fault (R414). -/
def State.krbSums (s : State) : State :=
  let g := sumOf ((List.range 16).map (fun g => if s.faulted g then 2 ^ g else 0))
  let c := sumOf (s.pl.kerbs.map (fun r =>
    let f := s.chFault r.ch
    if f == 0 || (r.kind == 0 && f == 4) then 0 else 2 ^ r.ch))
  (((s.wr Reg.krbFaultsum (w32 g)).wr Reg.krbChfaultLo (w32 c)).wr Reg.krbChfaultHi (w32 (c / 2 ^ 32))).setF
    Reg.krbStatus 3 1 (bit (g != 0))

/-! ### Duty and pulses (R403 to R405) -/

/-- A number squared `k` times over. -/
def squares : Nat → Nat → Nat
  | 0, x => x
  | k + 1, x => squares k (x * x)

/-- The largest number `n` up to `acc + 2^k - 1` for which 2n - 1 is at most twice 16.384 × 1,000^(level / 4,096). -/
def logDuty (level : Nat) : Nat → Nat → Nat
  | 0, acc => acc
  | k + 1, acc =>
    let n := acc + 2 ^ k
    logDuty level k (if squares 12 (1000 * (2 * n - 1)) ≤ squares 12 32768 * 1000 ^ level then n else acc)

/-- D of a LEVEL on a curve (R404). -/
def kerbDuty (curve level : Nat) : Nat :=
  match curve with
  | 0 => 4 * level
  | 1 => (level ^ 2 + 512) / 1024
  | 2 => (level ^ 3 + 2 ^ 21) / 2 ^ 22
  | _ => if level == 0 then 0 else logDuty level 15 0

/-- The six bits of a number reversed. -/
def bitReverse6 (j : Nat) : Nat :=
  (j % 2) * 32 + (j / 2 % 2) * 16 + (j / 4 % 2) * 8 + (j / 8 % 2) * 4 + (j / 16 % 2) * 2 + j / 32 % 2

/-- The pulses of a duty in a period: first unit and length (R405). -/
def kerbPulses (d minp : Nat) : List (Nat × Nat) :=
  if d == 0 then []
  else if d == 16384 then [(0, 16384)]
  else
    let k := min 64 (max (d / minp) (ceilDiv d 256))
    let base := d / k
    let extra := d - k * base
    let js := (List.range 64).filter (fun j => bitReverse6 j < k)
    (js.zip (List.range js.length)).map (fun e => (256 * e.1, base + (if e.2 < extra then 1 else 0)))

/-- The duty of step `n` of group `g` (R409). -/
def State.stepDuty (s : State) (g n : Nat) : Nat :=
  match n with
  | 0 => 0
  | 1 => s.fld (Reg.krbGstepa g) 0 15
  | 2 => s.fld (Reg.krbGstepa g) 16 15
  | _ => s.fld (Reg.krbGstepb g) 0 15

/-! ### Derating (R414) -/

/-- k_T as U4.12 for a measurement below CUT. -/
def NtcMeas.kt (m : NtcMeas) : Nat :=
  if m.fault then 0x400
  else if m.temp ≤ 16 * m.knee then 0x1000
  else (4096 - roundDiv (3072 * (m.temp - 16 * m.knee)) (16 * (m.cut - m.knee)).toNat).toNat

/-- The temperature has reached CUT. -/
def NtcMeas.hot (m : NtcMeas) : Bool := !m.fault && m.temp ≥ 16 * m.cut

/-- The NTC input of a channel, none from 8 on. -/
def State.kerbNtc (s : State) (r : KerbRec) : Nat :=
  if r.kind == 1 then ((s.signRec r.group).map (·.ntc)).getD 0xFF else s.fld (Reg.krbChderate r.ch) 16 4

/-- k_T of a channel and its cut-off, as the period that begins takes them. -/
def State.derate (s : State) (r : KerbRec) : State :=
  let (kt, cut) := match (if s.kerbNtc r < 8 then s.krb.ntc.find? (s.kerbNtc r) else none) with
    | none => (0x1000, false)
    | some m =>
      let was := (s.kch r.ch).cut
      (if m.hot then s.fld (Reg.krbChderate r.ch) 0 16 else m.kt,
       m.hot || (was && !m.fault && m.temp > 16 * (m.cut - 5)))
  let s := s.setF (Reg.krbChderate r.ch) 0 16 kt
  if r.kind == 1 then s
  else
    let s := s.setKch r.ch { s.kch r.ch with cut := cut }
    if cut then (if s.chFault r.ch == 0 then s.setChFault r.ch 4 else s)
    else if s.chFault r.ch == 4 then s.setChFault r.ch 0 else s

/-! ### Group shutdown and channel faults (R408, R411) -/

/-- A fault is declared on channel `c` of group `g`. -/
def State.groupFault (s : State) (g c code : Nat) : State :=
  let s := (s.groupChans g).foldl (fun s r =>
    let s := s.setKch r.ch { s.kch r.ch with d := 0 }
    (s.setChFault r.ch (if r.ch == c then code else 5)).setF (Reg.krbChstat r.ch) 2 1 0) s
  let s := s.kb (fun k => { k with step := k.step.set g 0, faultAt := k.faultAt.set (64 + g) s.now })
  let s := (((s.setF (Reg.krbGstat g) 7 1 1).setF (Reg.krbGstat g) 0 2 0).setF (Reg.krbGstat g) 16 6 c).setF
    (Reg.krbGstat g) 8 4 code
  let s := (s.bump (Reg.krbGfaults g)).krbSums
  let d := ((s.signRec g).map (·.dist)).getD houseDist
  let s := s.raise d 11 15
  if d == houseDist then s else s.raise houseDist 11 15

/-- A fault is declared on a channel. A code already latched stands. -/
def State.declareFault (s : State) (r : KerbRec) (code : Nat) : State :=
  if r.kind == 1 then (if s.faulted r.group then s else s.groupFault r.group r.ch code)
  else if s.chFault r.ch != 0 && s.chFault r.ch != 4 then s
  else
    let s := s.setKch r.ch { s.kch r.ch with d := 0 }
    let s := (s.setChFault r.ch code).setF (Reg.krbChstat r.ch) 2 1 0
    let s := (s.kb (fun k => { k with faultAt := k.faultAt.set r.ch s.now })).krbSums
    s.raise r.dist 11 15

/-- A check of one fault of a channel, made with enough measuring time (R407). -/
def State.kerbCheck (s : State) (r : KerbRec) (code : Nat) (fails : Bool) : State :=
  let x := s.kch r.ch
  if !fails then s.setKch r.ch { x with timers := x.timers.drop (· == code) }
  else
    let t := x.timers.get s.now code
    let s := s.setKch r.ch { x with timers := x.timers.set code t }
    let window := if r.kind == 1 then ((s.signRec r.group).map (·.faultMs)).getD 0 else 10
    if s.now - t ≥ msRoot window then s.declareFault r code else s

/-- The checks of a channel at the end of a period (R406, R407). -/
def State.kerbChecks (s : State) (r : KerbRec) (on off : Nat) : State :=
  let x := s.kch r.ch
  let d := x.d
  let kt := s.fld (Reg.krbChderate r.ch) 0 16
  if !x.live then s
  else
    let s := if d > 0 then s.setF (Reg.krbChmeas r.ch) 0 16 on else s
    let s := if d ≥ 50 then
        (s.kerbCheck r 1 (on * 4 * 4096 < r.iMax * kt)).kerbCheck r 2 (on * 4 * 4096 > 5 * r.iMax * kt)
      else s
    if 16384 - d ≥ 50 then s.kerbCheck r 3 (off * 10 > r.iMax) else s

/-! ### Dimming periods -/

/-- A channel takes the settings that govern the period that begins (R403). -/
def State.kerbTake (s : State) (r : KerbRec) : State :=
  let s := (s.setF (Reg.krbChmeas r.ch) 16 15 (s.kch r.ch).duty).derate r
  let raw := if r.kind == 1 then s.stepDuty r.group (s.krb.step.get 0 r.group)
    else if s.chFault r.ch != 0 then 0
    else kerbDuty r.curve (s.fld (Reg.krbChlevel r.ch) 0 16)
  let minp := s.fld Reg.krbMinp 0 9
  let on := s.krb.driving && s.krb.from_ ≤ s.krb.start
  let d := if !on then 0 else if raw == 0 then 0 else max raw minp
  let s := (s.setKch r.ch { s.kch r.ch with d := d, live := on, duty := d }).setF (Reg.krbChstat r.ch) 2 1 (bit (d != 0))
  if d == 0 then s else s.emit (.kerbPulses r.ch (kerbPulses d minp))

/-- DIMMING_PERIOD_START: the period under way ends with its checks, and the next begins with the settings stored (R403,
R407). Periods run on SLOW in every mode except Reset. -/
def execDimmingPeriodStart (meas : List KerbMeas) (s : State) : Host.Outcome State Fault Refusal :=
  let s := s.begin
  .next (if s.mode.mode == .reset then s
    else
      let k := max 1 (ceilDiv (s.now - s.krb.start) kerbPeriod)
      let t := s.krb.start + k * kerbPeriod
      let s := s.at_ t
      let s := s.pl.kerbs.foldl (fun s r =>
        match meas.find? (fun m => m.ch.val == r.ch) with
        | none => s
        | some m => s.kerbChecks r m.on.toNat m.off.toNat) s
      let s := s.kb (fun k => { k with start := t })
      let s := s.pl.signs.foldl (fun s g => s.setF (Reg.krbGstat g.group) 0 2 (s.krb.step.get 0 g.group)) s
      (s.pl.kerbs.foldl (fun s r => s.kerbTake r) s).krbSums)

/-- The drive at the boundary at which Active is entered: the pins are driven, in a twin from the first period that begins
100 µs later (R481), and every group takes its INIT step (R403, R409). A group that is FAULTED stays off (R411). -/
def State.krbEnter (s : State) : State :=
  if !s.bitOf Reg.krbStatus 1 then s
  else
    let after := if s.pl.cw.isSome then s.now + 960000 else s.now
    let s := (s.kb (fun k => { k with driving := true, from_ := after })).setF Reg.krbStatus 2 1 1
    s.pl.signs.foldl (fun s g =>
      if s.faulted g.group then s
      else s.kb (fun k => { k with step := k.step.set g.group (s.fld (Reg.krbGstepb g.group) 16 2) })) s

/-- The pins go to high impedance (R403, R416). -/
def State.krbRelease (s : State) : State :=
  let s := (s.kb (fun k => { k with driving := false })).setF Reg.krbStatus 2 1 0
  s.pl.kerbs.foldl (fun s r =>
    (s.setKch r.ch { s.kch r.ch with d := 0, live := false }).setF (Reg.krbChstat r.ch) 2 1 0) s

/-- A full apply loads the new records: channels and groups whose records are unchanged keep their settings and faults
(R417). `old` is the plan before it. -/
def State.loadKerb (s : State) (old : Plan) : State :=
  let s := (List.range 16).foldl (fun s g =>
    match s.signRec g with
    | none => (s.wr (Reg.krbGstat g) (regReset (Reg.krbGstat g))).kb (fun k => { k with step := k.step.drop (· == g) })
    | some r =>
      let s := if old.signs.contains r then s
        else (s.wr (Reg.krbGstat g) (regReset (Reg.krbGstat g))).kb
          (fun k => { k with step := k.step.set g (s.fld (Reg.krbGstepb g) 16 2) })
      s.setF (Reg.krbGstat g) 4 3 r.dist) s
  let s := (List.range 48).foldl (fun s c =>
    let clear := fun (s : State) => ((s.wr (Reg.krbChstat c) 0).wr (Reg.krbChlevel c) 0).kb
      (fun k => { k with chs := k.chs.drop (· == c) })
    match s.kerbRec c with
    | none => clear s
    | some r =>
      let s := if old.kerbs.contains r then s else clear s
      let k := Reg.krbChstat c
      (((s.setF k 8 3 r.dist).setF k 4 2 r.curve).setF k 3 1 r.kind).setF k 1 1 1) s
  s.krbSums

/-! ### Writes (R408 to R412, R418 to R420) -/

/-- A fault was declared in the SLOW cycle under way (R418). -/
def State.faultNow (s : State) (key : Nat) : Bool :=
  match s.krb.faultAt.find? key with
  | some t => t / slowRoot == s.now / slowRoot
  | none => false

/-- A write of another district: ignored with the channel's or group's code and that of KRB_STATUS (R419, R420). -/
def State.krbForeign (s : State) (stat : Nat) : State := (s.setErr stat 0x02).krbErr 0x09

/-- A write to a channel of the writer's, or its refusal (R419). -/
def State.chWrite (s : State) (init : InitId) (c : Nat) (f : KerbRec → State → State) : State :=
  match s.kerbRec c with
  | none => s.chErr c 0x08
  | some r => if distOf init == houseDist || distOf init == r.dist then f r s else s.krbForeign (Reg.krbChstat c)

/-- A write to a group of the writer's, or its refusal (R419). -/
def State.grpWrite (s : State) (init : InitId) (g : Nat) (f : SignRec → State → State) : State :=
  match s.signRec g with
  | none => s.grpErr g 0x08
  | some r => if distOf init == houseDist || distOf init == r.dist then f r s else s.krbForeign (Reg.krbGstat g)

/-- A write to KRB_CHLEVEL as the Kerb die performs it. -/
def State.krbLevel (s : State) (init : InitId) (c : Nat) (value : Word32) : State :=
  s.chWrite init c (fun r s =>
    if r.kind == 1 then s.chErr c 0x04
    else if value.toNat > 0x1000 then s.chErr c 0x03
    else s.wr (Reg.krbChlevel c) value)

/-- A write to KRB_CHCLR. -/
def State.krbChClear (s : State) (init : InitId) (c : Nat) (value : Word32) : State :=
  s.chWrite init c (fun r s =>
    if field value 16 16 != 0xC1EA then s.chErr c 0x01
    else if s.faultNow c then s.chErr c 0x06
    else if r.kind == 1 || s.chFault c == 4 then s
    else (s.setChFault c 0).krbSums)

/-- A write to KRB_GCMD. -/
def State.krbGroupCmd (s : State) (init : InitId) (g : Nat) (value : Word32) : State :=
  s.grpWrite init g (fun _ s =>
    if field value 16 16 != 0x516E then s.grpErr g 0x01
    else if s.faultNow (64 + g) then s.grpErr g 0x06
    else if s.faulted g then s.grpErr g 0x05
    else s.kb (fun k => { k with step := k.step.set g (field value 0 2) }))

/-- A write to KRB_GCLR: FAULTED and the faults of the group's channels are cleared; the step stays 0. -/
def State.krbGroupClear (s : State) (init : InitId) (g : Nat) (value : Word32) : State :=
  s.grpWrite init g (fun _ s =>
    if field value 16 16 != 0xC1EA then s.grpErr g 0x01
    else if s.faultNow (64 + g) then s.grpErr g 0x06
    else if !s.faulted g then s
    else
      let s := (((s.setF (Reg.krbGstat g) 7 1 0).setF (Reg.krbGstat g) 16 6 0x3F).setF (Reg.krbGstat g) 8 4 0)
      ((s.groupChans g).foldl (fun s r => s.setChFault r.ch 0) s).krbSums)

/-- CHANNEL_LEVEL_WRITE: a write to KRB_CHLEVEL stores a dimmable channel's level for the next period. -/
def execChannelLevelWrite (init : InitId) (ch : Fin 48) (value : Word32) (s : State) : Host.Outcome State Fault Refusal :=
  .next (s.begin.access init 15 (fun s => s.krbLevel init ch.val value))

/-- CHANNEL_FAULT_CLEAR: a write of the key to KRB_CHCLR clears a latched dimmable fault (R408). -/
def execChannelFaultClear (init : InitId) (ch : Fin 48) (value : Word32) (s : State) : Host.Outcome State Fault Refusal :=
  .next (s.begin.access init 15 (fun s => s.krbChClear init ch.val value))

/-- GROUP_STEP_COMMAND: a write of the key to KRB_GCMD sets a sign group's step (R410). -/
def execGroupStepCommand (init : InitId) (group : Fin 16) (value : Word32) (s : State) :
    Host.Outcome State Fault Refusal :=
  .next (s.begin.access init 15 (fun s => s.krbGroupCmd init group.val value))

/-- GROUP_FAULT_CLEAR: a write of the key to KRB_GCLR clears FAULTED (R412). -/
def execGroupFaultClear (init : InitId) (group : Fin 16) (value : Word32) (s : State) : Host.Outcome State Fault Refusal :=
  .next (s.begin.access init 15 (fun s => s.krbGroupClear init group.val value))

/-- A step duty lies from 50 to 16,384 (R409). -/
def dutyOk (d : Nat) : Bool := 50 ≤ d && d ≤ 16384

/-- A register write that the Kerb die performs in its drive registers (offsets from KRB): the house district's settings
and the writes of channels and groups. Any other write of a host has code 0x09 (R419). -/
def State.krbWrite (s : State) (init : InitId) (o : Nat) (value : Word32) : State :=
  let house := fun (f : State → State) => if isHouse init then f s else s.krbErr 0x09
  if o == 4 then
    house (fun s => let m := field value 0 9
      if 1 ≤ m && m ≤ 256 then s.wr Reg.krbMinp (w32 m) else s.krbErr 0x07)
  else if 0x100 ≤ o && o < 0x700 then
    let c := (o - 0x100) / 0x20
    match (o - 0x100) % 0x20 with
    | 0x00 => s.krbLevel init c value
    | 0x0C => house (fun s => s.chWrite init c (fun r s =>
        if r.kind == 1 then s else s.setF (Reg.krbChderate c) 16 4 (field value 16 4)))
    | 0x10 => s.krbChClear init c value
    | _ => house id
  else if 0x800 ≤ o && o < 0xA00 then
    let g := (o - 0x800) / 0x20
    match (o - 0x800) % 0x20 with
    | 0x00 => s.krbGroupCmd init g value
    | 0x08 => house (fun s => s.grpWrite init g (fun _ s =>
        if dutyOk (field value 0 15) && dutyOk (field value 16 15) then s.wr (Reg.krbGstepa g) (value &&& 0x7FFF7FFF#32)
        else s.grpErr g 0x07))
    | 0x0C => house (fun s => s.grpWrite init g (fun _ s =>
        if dutyOk (field value 0 15) then s.wr (Reg.krbGstepb g) (value &&& 0x00037FFF#32) else s.grpErr g 0x07))
    | 0x10 => s.krbGroupClear init g value
    | _ => house id
  else if 0xC00 ≤ o && o < 0xC80 then
    let n := (o - 0xC00) / 0x10
    match (o - 0xC00) % 0x10 with
    | 0x4 => house (fun s =>
        if signed 8 (field value 0 8) + 6 ≤ signed 8 (field value 8 8) then
          s.wr (Reg.krbNlimit n) (value &&& 0xFFFF#32) else s.krbErr 0x07)
    | 0x8 => house (fun s => s.wr (Reg.krbNparam n) value)
    | _ => house id
  else house id

/-! ### Temperature (R413) -/

/-- The temperature of a resistance in Ω: the field's value in sixteenths of a degree, and whether the reading lies
outside -40 °C to +150 °C; none where the formula gives none that the field holds. -/
def ntcTemp (r b r25 : Nat) : Option (Int × Bool) :=
  if r == 0 || b == 0 || r25 == 0 then none
  else
    let num : Int := (5963 * b * 2 ^ 64 : Nat)
    let den : Int := (20 * b * 2 ^ 64 : Nat) + 5963 * lnFix r (10 * r25)
    if den ≤ 0 then none
    else
      let t := (160 * num - 43699 * den) / (10 * den)
      if t > 32767 then none
      else some (t, 100 * num < 23315 * den || 100 * num > 42315 * den)

/-- NTC_MEASUREMENT: an input is measured; a change of FAULT raises the house district's event, and sign groups whose NTC
has reached CUT are shut down (R413, R414). -/
def execNtcMeasurement (ntc : Fin 8) (reading : Nat) (s : State) : Host.Outcome State Fault Refusal :=
  let s := s.begin
  .next (if s.mode.mode == .reset then s
    else
      let n := ntc.val
      let p := Reg.krbNparam n
      let (m, s) := match ntcTemp reading (s.fld p 16 16) (s.fld p 0 16) with
        | some (t, f) => ((t, f), s)
        | none =>
          let (k, s) := s.draw
          let t := (Config.ntcTemp k).toInt
          ((t, if s.fld p 16 16 == 0 || s.fld p 0 16 == 0 then decide (t < -640) || decide (t > 2400) else true), s)
      let was := s.bitOf (Reg.krbNtemp n) 30
      let l := Reg.krbNlimit n
      let x : NtcMeas := { temp := m.1, fault := m.2, knee := signed 8 (s.fld l 0 8), cut := signed 8 (s.fld l 8 8) }
      let s := s.wr (Reg.krbNtemp n) (pack [(31, 1), (30, bit m.2), (0, twos 16 m.1)])
      let s := s.kb (fun k => { k with ntc := k.ntc.set n x })
      let s := if was != m.2 then s.raise houseDist 11 15 else s
      if !x.hot then s
      else s.pl.signs.foldl (fun s g =>
        match (s.groupChans g.group).head? with
        | some r => if g.ntc == n && !s.faulted g.group then s.groupFault g.group r.ch 4 else s
        | none => s) s)

/-! ### The Kerb link (R416) -/

/-- KERB_LINK_LOSS: the Kerb die releases every gate-drive pin and SIGN_FAULT_N until the next entry into Active. -/
def execKerbLinkLoss (s : State) : Host.Outcome State Fault Refusal :=
  let s := s.begin
  .next ((s.setF Reg.krbStatus 1 1 0).krbRelease)

/-- KERB_LINK_RETURN: frames resume; the pins stay released. -/
def execKerbLinkReturn (s : State) : Host.Outcome State Fault Refusal :=
  let s := s.begin
  .next (if s.mode.mode == .reset then s else s.setF Reg.krbStatus 1 1 1)

end Sys2Proof.Machine
end

