-- ==== Sys2Proof/Machine/Metering.lean ====
section
/-! DEFINITION. Energy metering (R421 to R439): samples and their products, block boundaries, accumulators with their
saves, snapshots, and the pulse output. -/

namespace Sys2Proof.Machine

/-- Metering's state replaced by `f` of it. -/
def State.mt (s : State) (f : MetState → MetState) : State := { s with met := f s.met }
/-- Sampling runs in Standby, Active and Maintenance (R421). -/
def State.metering (s : State) : Bool :=
  match s.mode.mode with | .standby | .active | .maintenance => true | _ => false
/-- A code of MET. -/
def State.metErr (s : State) (c : Nat) : State := s.setErr Reg.metStatus c

/-- The voltage input of element `e` in a MET_PAIR word (R422). -/
def pairVsel (w : Word32) (e : Nat) : Nat := field w (2 * e) 2
/-- Element `e` is enabled in a MET_PAIR word. -/
def pairOn (w : Word32) (e : Nat) : Bool := w.getLsbD (24 + e)

/-- The divisor of a voltage: `Coef.value`, 0.1 V, and 1/160 ppm (R423). -/
def voltUnit : Nat := calUnit * 10 * 160000000
/-- The divisor of a current: `Coef.value`, mA, and 1/160 ppm. -/
def ampUnit : Nat := calUnit * 1000 * 160000000
/-- A unit of an accumulator, 2^-16 Wh, in the numerators of a sum of products over samples of 1/8,000 s (R421, R428). -/
def whUnit : Nat := voltUnit * ampUnit / 65536 * 28800000

/-- METER_SAMPLE: every input is sampled, and the products of each enabled element are summed by their sign (R423).
`codes` holds the codes of voltage inputs 0 to 3 and current inputs 0 to 7; `sense` is the code of a Kerb sense input
under calibration. -/
def execMeterSample (codes : List Int) (sense : Int) (s : State) : Host.Outcome State Fault Refusal :=
  let s := s.begin
  .next (if !s.metering || codes.length != 12 || s.met.n ≥ 400 then s
    else
      let s := match s.met.last with
        | none => s
        | some t => s.at_ (t + max 1 (ceilDiv (s.now - t) 1200000) * 1200000)
      let pair := s.met.pair.getD (s.rd Reg.metPair)
      let prev := s.met.prev.headD codes
      let code := fun k => 12500 * codes.getD k 0
      let shifted := fun e =>
        let k := 4 + e
        let ph := (s.coef (0x10 + e)).ph
        if ph > 0 then 12500 * prev.getD k 0 + (codes.getD k 0 - prev.getD k 0) * ph
        else 12500 * codes.getD k 0 + (codes.getD k 0 - prev.getD k 0) * ph
      let volt := fun e => let v := pairVsel pair e
        (s.coef v).value (12500 * (if (s.coef (0x10 + e)).ph > 0 then prev else codes).getD v 0) *
          ((s.rd (Reg.metVfs v)).toNat : Int) * (160000000 + s.met.tcv)
      let amp := fun e =>
        let i := (s.coef (0x10 + e)).value (shifted e) * ((s.rd (Reg.metIfs e)).toNat : Int) * (160000000 + s.met.tci)
        if pair.getLsbD (16 + e) then -i else i
      let elems := ((List.range 8).filter (pairOn pair)).foldl (fun (t : Tab MetElem) e =>
        let v := volt e
        let i := amp e
        let p := v * i
        t.upd {} e (fun x => { x with imp := x.imp + (if p > 0 then p.natAbs else 0),
                                      exp := x.exp + (if p < 0 then p.natAbs else 0),
                                      v2 := x.v2 + v.natAbs ^ 2, i2 := x.i2 + i.natAbs ^ 2 })) s.met.elems
      let s := s.calSample code shifted (pairVsel pair) sense
      s.mt (fun m => { m with n := m.n + 1, last := some s.now, pair := some pair, prev := [codes],
                              elems := elems }))

/-! ### Block boundaries (R422, R427 to R429, R436) -/

/-- The block's RMS current has reached MET_START (R427). -/
def State.metLoaded (s : State) (x : MetElem) : Bool :=
  let start := s.fld Reg.metStart 0 16
  x.i2 * 1000000 ≥ s.met.n * (start * ampUnit) ^ 2

/-- A block's sum goes to accumulator `k`: whole units to the accumulator, the rest to its residue; and the state with the
units added. -/
def State.metAdd (s : State) (k sum : Nat) : Nat × State :=
  let t := s.met.res.get 0 k + sum
  let u := t / whUnit
  let a := s.met.acc.get 0 k + u
  let s := s.mt (fun m => { m with res := m.res.set k (t % whUnit), acc := m.acc.set k (a % 2 ^ 64) })
  (u, if a ≥ 2 ^ 64 then s.setF Reg.metWrap k 1 1 else s)

/-- The values shown of an element, over its last 20 blocks of 400 samples. -/
def State.metShow (s : State) (e : Nat) : State :=
  let past := (s.met.elems.get {} e).past
  let n := 400 * past.length
  let v2 := sumOf (past.map (·.1))
  let i2 := sumOf (past.map (·.2.1))
  let p := past.foldl (fun a x => a + x.2.2) (0 : Int)
  if n == 0 then s
  else
    ((s.wr (Reg.metEvrms e) (w32 (sqrtNear (v2 * 1000000) (n * voltUnit ^ 2)))).wr (Reg.metEirms e)
      (w32 (sqrtNear (i2 * 100000000) (n * ampUnit ^ 2)))).wr (Reg.metEpmean e)
      (w32 (twos 32 (roundDiv (p * 1000) (n * voltUnit * ampUnit))))

/-- A pulse starts if the backlog holds one and the output is free (R437). -/
def State.pulseStart (s : State) : State :=
  let backlog := s.fld Reg.metPstat 0 16
  if s.met.pulse == .idle && backlog > 0 && s.bitOf Reg.metPcfg 17 && s.metering then
    ((s.mt (fun m => { m with pulse := .low s.now })).setF Reg.metPstat 0 16 (backlog - 1)).emit (.meterPulse true)
  else s

/-- Units counted for the pulse output become pulses (R436). -/
def State.pulseCount (s : State) (units : Nat) : State :=
  let t := s.met.pulseRes + units * s.fld Reg.metPconst 0 17
  let n := t / 65536000
  let room := 65535 - s.fld Reg.metPstat 0 16
  let k := min n room
  let s := s.mt (fun m => { m with pulseRes := t % 65536000 })
  let s := s.setF Reg.metPstat 0 16 (s.fld Reg.metPstat 0 16 + k)
  (s.setF Reg.metPstat 16 16 (s.fld Reg.metPstat 16 16 + (n - k))).pulseStart

/-- METER_BLOCK_BOUNDARY: 400 samples are over; block sums pass the start-current test and go to the accumulators, the
pulse output and a calibration run follow (R422, R427, R436, R444). `phase` is what a PHASE run has measured. -/
def execMeterBlockBoundary (phase : PhaseMeas) (s : State) : Host.Outcome State Fault Refusal :=
  let s := s.begin
  .next (if !s.metering || s.met.n < 400 then s
    else
      let pair := s.met.pair.getD (s.rd Reg.metPair)
      let cfg := s.rd Reg.metPcfg
      let (units, s) := ((List.range 8).filter (pairOn pair)).foldl (fun (acc : Nat × State) e =>
        let (u, s) := acc
        let x := s.met.elems.get {} e
        let past := ((x.v2, x.i2, (x.imp : Int) - x.exp) :: x.past).take 20
        let (u, s) := if s.metLoaded x then
            let (a, s) := s.metAdd (2 * e) x.imp
            let (b, s) := s.metAdd (2 * e + 1) x.exp
            (u + (if cfg.getLsbD e then (if cfg.getLsbD 16 then b else a) else 0), s)
          else (u, s.bump (Reg.metEcreep e))
        (u, (s.mt (fun m => { m with elems := m.elems.set e { past := past } })).metShow e)) (0, s)
      let s := s.mt (fun m => { m with n := 0, pair := some (s.rd Reg.metPair) })
      let s := if s.bitOf Reg.metPcfg 17 then s.pulseCount units else s
      s.calBoundary phase)

/-! ### Temperature, saves and clears -/

/-- A correction interpolated between the entries of MET_TCOMP around a temperature in sixteenths of a degree, in units
of 1/160 ppm (R426). -/
def State.tcomp (s : State) (lo : Nat) (t : Int) : Int :=
  let e := fun k => signed 16 (s.fld (Reg.metTcomp k) lo 16)
  let x := t + 640
  if x ≤ 0 then 160 * e 0
  else if x ≥ 2560 then 160 * e 16
  else
    let k := (x / 160).toNat
    let r := x % 160
    e k * (160 - r) + e (k + 1) * r

/-- METER_TEMP_MEASURE: the die temperature in sixteenths of a degree, which governs the samples that follow (R425). -/
def execMeterTempMeasure (temp : Int) (s : State) : Host.Outcome State Fault Refusal :=
  let s := s.begin
  .next (if s.mode.mode == .reset then s
    else
      let s := s.mt (fun m => { m with tcv := s.tcomp 0 temp, tci := s.tcomp 16 temp })
      s.wr Reg.metTemp (pack [(31, 1), (0, twos 16 temp)]))

/-- METER_SAVE: the accumulators and what belongs to them are saved in the older of two copies (R430). -/
def execMeterSave (ok : Bool) (s : State) : Host.Outcome State Fault Refusal :=
  let s := s.begin
  .next (if s.mode.mode == .reset || s.mode.mode == .boot then s
    else if !ok then
      ((s.report { block := 16, code := 0x04, sev := 1 }).setF Reg.metStatus 2 1 1).metErr 0x04
    else
      let m := s.met
      let seq := maxOf (m.copies.map (fun e => e.2.seq)) + 1
      let c : MetSave := { seq := seq, acc := m.acc, res := m.res, pulseRes := m.pulseRes, wrap := s.rd Reg.metWrap,
                           clears := s.fld Reg.metStatus 16 8 }
      s.mt (fun m => { m with copies := m.copies.set (seq % 2) c }))

/-- At Boot the newest copy is restored (R430). -/
def State.metBoot (s : State) : State :=
  match s.met.copies.foldl (fun (b : Option MetSave) e =>
      match b with | none => some e.2 | some c => if e.2.seq > c.seq then some e.2 else b) none with
  | none => s
  | some c =>
    let s := s.mt (fun m => { m with acc := c.acc, res := c.res, pulseRes := c.pulseRes })
    ((s.wr Reg.metWrap c.wrap).setF Reg.metStatus 16 8 c.clears).setF Reg.metStatus 1 1 1

/-- A write to MET_CLEAR. -/
def State.metClearWrite (s : State) (init : InitId) (value : Word32) : State :=
  if !isHouse init then s.metErr 0x02
  else if field value 16 16 != 0x3E7C then s.metErr 0x01
  else
    let s := s.mt (fun m => { m with acc := [], res := [], pulseRes := 0 })
    ((s.wr Reg.metWrap 0).setF Reg.metPstat 0 16 0).setF Reg.metStatus 16 8 (s.fld Reg.metStatus 16 8 + 1)

/-- METER_CLEAR: a write of the key to MET_CLEAR by the house district clears every accumulator (R431). -/
def execMeterClear (init : InitId) (value : Word32) (s : State) : Host.Outcome State Fault Refusal :=
  .next (s.begin.access init 16 (fun s => s.metClearWrite init value))

/-! ### Snapshots (R432, R433) -/

/-- A write to MET_SNAP of slot `j`. -/
def State.metSnapWrite (s : State) (init : InitId) (j : Nat) : State :=
  if !slotAllowed (distOf init) j then s.metErr 0x02
  else
    let s := (List.range 16).foldl (fun s k => s.wr64 (Reg.metAccLo j k) (s.met.acc.get 0 k)) s
    let seq := (s.fld (Reg.metSnapseq j) 0 24 + 1) % 2 ^ 24
    let s := s.wr (Reg.metSnapseq j) (pack [(24, s.fld Reg.metStatus 16 8), (0, seq)])
    ((s.wr (Reg.metSnapwrap j) (s.rd Reg.metWrap)).wr (Reg.metSnaptNs j) (w32 s.clt.ns)).wr (Reg.metSnaptSec j) (w32 s.clt.sec)

/-- METER_SNAPSHOT: a write to MET_SNAP latches all accumulators into the bank of the slot written. -/
def execMeterSnapshot (init : InitId) (slot : Fin 5) (s : State) : Host.Outcome State Fault Refusal :=
  .next (s.begin.access init 16 (fun s => s.metSnapWrite init slot.val))

/-- A reset of a district clears its bank (R433). -/
def State.metReset (s : State) (d : Nat) : State :=
  s.resetRegs (fun k => Reg.metSnap (slotOf d) ≤ k && k < Reg.metSnap (slotOf d) + 0x100)

/-! ### The pulse output (R437) -/

/-- PULSE_WIDTH_EXPIRY: the low time of a pulse ends, PW_MS after its start. -/
def execPulseWidthExpiry (s : State) : Host.Outcome State Fault Refusal :=
  let s := s.begin
  .next (match s.met.pulse with
    | .low t =>
      let s := s.at_ (t + msRoot (s.fld Reg.metPcfg 8 8))
      ((s.mt (fun m => { m with pulse := .gap s.now })).bump Reg.metPcount).emit (.meterPulse false)
    | _ => s)

/-- PULSE_GAP_EXPIRY: the gap after a pulse ends, and the next pulse of the backlog may start. -/
def execPulseGapExpiry (s : State) : Host.Outcome State Fault Refusal :=
  let s := s.begin
  .next (match s.met.pulse with
    | .gap t =>
      let s := s.at_ (t + msRoot (s.fld Reg.metPcfg 8 8))
      (s.mt (fun m => { m with pulse := .idle })).pulseStart
    | _ => s)

/-- The pin is released, or held high: a pulse under way ends uncounted, and the time that the pin stays high begins
(R437). -/
def State.pulseStop (s : State) : State :=
  match s.met.pulse with
  | .low _ => (s.mt (fun m => { m with pulse := .gap s.now })).emit (.meterPulse false)
  | _ => s

/-! ### Registers (R438) -/

/-- A register write to MET as the Kerb die performs it (offsets from MET). -/
def State.metWrite (s : State) (init : InitId) (o : Nat) (value : Word32) : State :=
  let house := fun (f : State → State) => if isHouse init then f s else s.metErr 0x02
  let range := fun (lo hi v k : Nat) => house (fun s => if lo ≤ v && v ≤ hi then s.wr k (w32 v) else s.metErr 0x03)
  if o == 0x00 then house (fun s => if value.getLsbD 2 then s.setF Reg.metStatus 2 1 0 else s)
  else if o == 0x04 then house (fun s =>
    let old := s.rd Reg.metPair
    let s := s.wr Reg.metPair value
    (List.range 8).foldl (fun s e => if pairVsel old e != pairVsel value e then s.calVsel e else s) s)
  else if o == 0x08 then house (fun s => s.wr Reg.metStart (value &&& 0xFFFF#32))
  else if o == 0x0C then s.metClearWrite init value
  else if o == 0x10 then house (fun s => s.wr Reg.metWrap (s.rd Reg.metWrap &&& ~~~ value))
  else if o == 0x20 then range 1 100000 (field value 0 17) Reg.metPconst
  else if o == 0x24 then house (fun s =>
    let pw := field value 8 8
    if pw < 2 || pw > 200 then s.metErr 0x03
    else
      let s := s.wr Reg.metPcfg (value &&& 0x3FFFF#32)
      if value.getLsbD 17 then s else s.pulseStop)
  else if 0x40 ≤ o && o < 0x50 then range 1 65535 value.toNat (Reg.metStatus + o)
  else if 0x50 ≤ o && o < 0x70 then range 1 1000000 value.toNat (Reg.metStatus + o)
  else if 0x100 ≤ o && o < 0x144 then house (fun s => s.wr (Reg.metStatus + o) value)
  else if 0x1000 ≤ o && o < 0x1500 && (o - 0x1000) % 0x100 == 0 then s.metSnapWrite init ((o - 0x1000) / 0x100)
  else if isHouse init then s else s.metErr 0x02

/-- A read of a MET register; a slot of another district reads 0. A LO read of a bank latches its HI (R435). -/
def State.metRead (s : State) (init : InitId) (o : Nat) : Word32 :=
  if o == 0 then putField (s.rd Reg.metStatus) 0 1 (bit s.metering)
  else if o == 0x0C then 0
  else if 0x1000 ≤ o && o < 0x1500 && !slotAllowed (distOf init) ((o - 0x1000) / 0x100) then 0
  else s.rd (Reg.metStatus + o)

end Sys2Proof.Machine
end

