-- ==== Sys2Proof/Machine/Crossing.lean ====
section
/-! DEFINITION. The Crossing (R385 to R401): reads with retry and their slots, posted writes, region classes and the
prefetched lines, error and lost-read logs, and the semaphores. -/

namespace Sys2Proof.Machine

/-- The Crossing's state replaced by `f` of it. -/
def State.xg (s : State) (f : XngState → XngState) : State := { s with xng := f s.xng }
/-- The read slot of an input. -/
def State.xslot (s : State) (i : Nat) : XSlot := s.xng.slots.get {} i
/-- The state with the read slot of an input replaced. -/
def State.setXslot (s : State) (i : Nat) (x : XSlot) : State := s.xg (fun g => { g with slots := g.slots.set i x })

/-- The initiator of an input (R385). -/
def inputInit (i : Nat) : InitId :=
  if i < 20 then BitVec.ofNat 8 i else if i == 20 then 0x40#8 else 0x50#8
/-- The input of an initiator, if it has one. -/
def initInput (init : InitId) : Option Nat :=
  let n := init.toNat
  if n < 20 then some n else if n == 0x40 then some 20 else if n == 0x50 then some 21 else none

/-- A BAR0 offset beyond the Kerb link: KRB, MET and CAL (R385). -/
def toKerb (a : Nat) : Bool := 0xF00000 ≤ a && a < 0x1200000
/-- A BAR0 offset in the window of the external service bus (R385). -/
def toEsb (a : Nat) : Bool := 0xE80000 ≤ a && a < 0xF00000
/-- The block number of an offset that the Crossing carries. -/
def xngBlock (a : Nat) : Nat :=
  if a < 0xF00000 then 14 else if a < 0x1000000 then 15 else if a < 0x1100000 then 16 else 17

/-- The slot that records of an initiator go to (R400). -/
def xngSlotOf (init : InitId) : Nat := slotOf (distOf init)
/-- A code in an initiator's slot. -/
def State.xngErr (s : State) (init : InitId) (c : Nat) : State := s.setErr (Reg.xngDstatus (xngSlotOf init)) c

/-- A record goes to the error log of an initiator's slot; a full log discards it (R396). -/
def State.xngLog (s : State) (init : InitId) (code a : Nat) : State :=
  let j := xngSlotOf init
  let l := s.xng.logs.get [] j
  let r : XRec := { w0 := pack [(31, 1), (16, code), (8, init.toNat)], w1 := w32 a, w2 := w32 s.clt.ns, w3 := w32 s.clt.sec }
  let s := s.xngErr init code
  if l.length ≥ 16 then s.bump (Reg.xngErrovf j)
  else s.xg (fun g => { g with logs := g.logs.set j (l ++ [r]) })

/-- A posted write has failed on the far side: log, error record and event of the initiator's district (R396). -/
def State.xngWriteFailed (s : State) (init : InitId) (code a : Nat) : State :=
  let s := (s.xngLog init code a).report { block := 14, code := code, sev := 1, init := init.toNat, dist := distOf init, addr := a }
  s.raise (distOf init) 10 14

/-- A value read for its side effect is lost to a reset of its initiator (R393). -/
def State.xngLostRead (s : State) (init : InitId) (a : Nat) (v : Word32) : State :=
  let j := xngSlotOf init
  let l := s.xng.lost.get [] j
  let r : XRec := { w0 := pack [(31, 1), (8, init.toNat)], w1 := w32 a, w2 := v, w3 := w32 s.clt.ns }
  let s := if l.length ≥ 4 then s else s.xg (fun g => { g with lost := g.lost.set j (l ++ [r]) })
  let s := (s.xngErr init 0x06).report { block := 14, code := 0x06, sev := 1, init := init.toNat, dist := distOf init, addr := a }
  let s := s.raise (distOf init) 10 14
  if distOf init == houseDist then s else s.raise houseDist 10 14

/-! ### Region classes and held lines (R391, R392) -/

/-- The class of an address: PREFETCHABLE by the lowest-numbered enabled region that covers its line. -/
def State.prefetchable (s : State) (a : Nat) : Bool :=
  let line := a / 64
  match (List.range 16).find? (fun n =>
      s.bitOf (Reg.xngRgnLo n) 31 && s.fld (Reg.xngRgnLo n) 0 19 ≤ line && line ≤ s.fld (Reg.xngRgnHi n) 0 19) with
  | some n => s.bitOf (Reg.xngRgnLo n) 30
  | none => false

/-- A held line is dropped: unreturned dwords are counted, and the lowest of them is kept (R392). -/
def State.xngDrop (s : State) (i : Nat) : State :=
  let x := s.xslot i
  let s := s.setXslot i {}
  match (List.range 16).find? (fun k => !x.used.getD k false) with
  | none => s
  | some k =>
    (((s.bump Reg.xngPfdrop).wr Reg.xngPflastAddr (w32 (x.addr / 64 * 64 + 4 * k))).wr Reg.xngPflastInit
      (w32 (inputInit i).toNat)).count 14 0 1

/-- A write to a line discards every held copy of it. -/
def State.xngDiscard (s : State) (a : Nat) : State :=
  s.xg (fun g => { g with slots := g.slots.filter (fun e => !(e.2.line && e.2.st == .held && e.2.addr / 64 == a / 64)) })

/-! ### Far-side queues (R389) -/

/-- The queue of a far side. -/
def XngState.queue (g : XngState) (kerb : Bool) : List FarReq := if kerb then g.kerb else g.esb
/-- The Crossing with the queue of a far side replaced. -/
def XngState.setQueue (g : XngState) (kerb : Bool) (q : List FarReq) : XngState :=
  if kerb then { g with kerb := q } else { g with esb := q }
/-- Entries of a far side's queue. -/
def farDepth (kerb : Bool) : Nat := if kerb then 32 else 8

/-- An answer of retry. -/
def State.xngRetry (s : State) : State := ((s.bump Reg.xngRetry).count 14 0 0).reply .retry

/-- What the device drives on ESB_D in the transactions of an access: the command byte, three address bytes, and a write's
data, each number most significant byte first (R537, DEDUCED, log 263). A line takes one read for each of its dwords. -/
def esbBytes (r : FarReq) : List (List Byte) :=
  (List.range (if r.line then 16 else 1)).map (fun k =>
    let off := (r.addr + 4 * k) % 0x20000
    (if r.write then 0x01 else 0x02) :: beBytes 3 off ++ (if r.write then beBytes 4 r.data.toNat else []))

/-- The chip select of an address of the external service bus's window (R537). -/
def esbSelect (a : Nat) : Nat := (a - 0xE80000) / 0x20000

/-- An access is at the front of a far side's queue: on the external service bus its transaction starts. -/
def State.xngBegin (s : State) (kerb : Bool) : List FarReq → State
  | [] => s
  | r :: _ => if kerb then s else s.emit (.esb (esbSelect r.addr) (esbBytes r))

/-- An access enters a far side's queue. -/
def State.xngEnter (s : State) (kerb : Bool) (r : FarReq) : State :=
  let s' := (s.xg (fun g => g.setQueue kerb (g.queue kerb ++ [{ r with since := s.now }]))).emit
    (.farSide kerb r.write r.addr r.data)
  if (s.xng.queue kerb).isEmpty then s'.xngBegin kerb [r] else s'

/-- A far side's queue replaced; its first access comes to the front now. -/
def State.xngFront (s : State) (kerb : Bool) (q : List FarReq) : State :=
  (s.xg (fun g => g.setQueue kerb (match q with | r :: q => { r with since := s.now } :: q | [] => []))).xngBegin kerb q

/-- The front access leaves the queue, and the next comes to the front. -/
def State.xngNext (s : State) (kerb : Bool) : State := s.xngFront kerb ((s.xng.queue kerb).drop 1)

/-- A read of an input ends in an error: the slot holds it until the repeat finds it (R390). -/
def State.xngReadFailed (s : State) (i code : Nat) : State :=
  (s.setXslot i { s.xslot i with st := .failed code }).xngErr (inputInit i) code

/-- The front access of a far side ends in an error (R390, R396). -/
def State.xngFail (s : State) (kerb : Bool) (code : Nat) : State :=
  match s.xng.queue kerb with
  | [] => s
  | r :: rest =>
    let init := inputInit r.input
    if !r.write then
      let s := s.xngNext kerb
      if r.orphan then s else s.xngReadFailed r.input code
    else
      let behind := fun (q : FarReq) => !q.write && q.input == r.input && !q.orphan
      let s := (s.xngFront kerb (rest.filter (fun q => !behind q))).xngWriteFailed init code r.addr
      let s := if rest.any behind then s.xngReadFailed r.input 0x05 else s
      if !s.bitOf Reg.xngCtl 0 then s
      else
        let s := s.setF Reg.xngStopped r.input 1 1
        s.xg (fun g => { g with stoppedSide := g.stoppedSide.upd [] r.input (fun l => if l.contains kerb then l else kerb :: l) })

/-! ### Reads and writes that the Kerb die performs -/

/-- A write as the Kerb die performs it. -/
def State.kerbWrite (s : State) (init : InitId) (a : Nat) (v : Word32) : State :=
  if a < 0x1000000 then
    let o := a - 0xF00000
    if 0xE00 ≤ o && o < 0xE10 then s.ckoWrite init ((o - 0xE00) / 4) v else s.krbWrite init o v
  else if a < 0x1100000 then s.metWrite init (a - 0x1000000) v
  else s.calWrite init (a - 0x1100000) v

/-- The value of a register of the Kerb die. -/
def State.kerbValue (s : State) (init : InitId) (a : Nat) : Word32 :=
  if a < 0x1000000 then
    let o := a - 0xF00000
    if 0x100 ≤ o && o < 0x700 && (o - 0x100) % 0x20 == 0xC then
      match s.kerbRec ((o - 0x100) / 0x20) with
      | some r => if r.kind == 1 then putField (s.rd a) 16 4 (s.kerbNtc r) else s.rd a
      | none => s.rd a
    else if 0x100 ≤ o && o < 0x700 && (o - 0x100) % 0x20 == 0 then
      match s.kerbRec ((o - 0x100) / 0x20) with
      | some r => if r.kind == 1 then 0 else s.rd a
      | none => s.rd a
    else s.rd a
  else if a < 0x1100000 then s.metRead init (a - 0x1000000)
  else s.calRead init (a - 0x1100000)

/-- The LO registers of the Kerb die's 64-bit pairs (R24). -/
def kerbPair (a : Nat) : Bool :=
  a == Reg.krbChfaultLo ||
    (0x1001000 ≤ a && a < 0x1001500 && 0x40 ≤ a % 0x100 && a % 0x100 < 0xC0 && a % 8 == 0)

/-- A read as the Kerb die performs it: reading LO latches HI for the initiator, and a HI read returns what it latched
(R24, R435). -/
def State.kerbRead (s : State) (init : InitId) (a : Nat) : Word32 × State :=
  if kerbPair a then
    (s.kerbValue init a, { s with hiLatch := s.hiLatch.set (initKey init a) (s.kerbValue init (a + 4)) })
  else if a ≥ 4 && kerbPair (a - 4) then ((s.hiLatch.find? (initKey init (a - 4))).getD (s.kerbValue init a), s)
  else (s.kerbValue init a, s)

/-- The dwords of a line as the Kerb die reads them, lowest first. -/
def State.kerbLine (s : State) (init : InitId) (a : Nat) : List Word32 × State :=
  (List.range 16).foldl (fun (acc : List Word32 × State) k =>
    let (w, s) := acc.2.kerbRead init (a / 64 * 64 + 4 * k)
    (acc.1 ++ [w], s)) ([], s)

/-! ### Registers of the near side (R400) -/

/-- The district may access the register at offset `o` of XNG. -/
def xngMay (d o : Nat) (write : Bool) : Bool :=
  if d == houseDist then true
  else if 0x400 ≤ o && o < 0x540 then slotAllowed d ((o - 0x400) / 0x40)
  else if !write then o < 0x80000
  else o == 0x08 || 0x1000 ≤ o && o < 0x1100

/-- A read of a semaphore acquires it when it is free (R397). -/
def State.semRead (s : State) (init : InitId) (k : Nat) : Word32 × State :=
  match s.xng.sems.find? k with
  | none => (0, s.xg (fun g => { g with sems := g.sems.set k init }))
  | some o => (0x80000000#32 ||| w32 o.toNat, s)

/-- A write of the owner's ID by the owner releases a semaphore; any other write is ignored and logged (R398). -/
def State.semWrite (s : State) (init : InitId) (k : Nat) (v : Word32) : State :=
  if s.xng.sems.find? k == some init && v == w32 init.toNat then s.xg (fun g => { g with sems := g.sems.drop (· == k) })
  else
    ((s.wr Reg.xngSemlog (pack [(31, 1), (16, init.toNat), (8, k), (0, field v 0 8)])).count 14 0 2).xngErr init 0x07

/-- The oldest record of a slot's log leaves it: word 0, and words 1 to 3 latched for the initiator. -/
def State.xngPop (s : State) (init : InitId) (j : Nat) (lost : Bool) : Word32 × State :=
  let l := (if lost then s.xng.lost else s.xng.logs).get [] j
  let reg := fun k => initKey init (if lost then Reg.xngLost j k else Reg.xngErrlog j k)
  let r := l.headD {}
  let s := if l.isEmpty then s
    else if lost then s.xg (fun g => { g with lost := g.lost.set j (l.drop 1) })
    else s.xg (fun g => { g with logs := g.logs.set j (l.drop 1) })
  (r.w0, ((s.wr (reg 1) r.w1).wr (reg 2) r.w2).wr (reg 3) r.w3)

/-- A read of a register of the Crossing itself, at offset `o` of XNG. -/
def State.xngRead (s : State) (init : InitId) (o : Nat) : Word32 × State :=
  if !xngMay (distOf init) o false then (0, s.xngErr init 0x08)
  else if o == 0x18 then (s.rd Reg.xngSemlog, s.wr Reg.xngSemlog 0)
  else if 0x1000 ≤ o && o < 0x1100 then s.semRead init ((o - 0x1000) / 4)
  else if 0x400 ≤ o && o < 0x540 then
    let j := (o - 0x400) / 0x40
    match (o - 0x400) % 0x40 with
    | 0x00 => (pack [(24, s.fld (Reg.xngDstatus j) 24 8), (16, (s.xng.lost.get [] j).length),
        (0, (s.xng.logs.get [] j).length)], s)
    | 0x10 => s.xngPop init j false
    | 0x24 => s.xngPop init j true
    | 0x20 => (s.rd (Reg.xngErrovf j), s)
    | r => if (0x14 ≤ r && r < 0x20) || (0x28 ≤ r && r < 0x34) then (s.rd (initKey init (Reg.xngCtl + o)), s) else (0, s)
  else (s.rd (Reg.xngCtl + o), s)

/-- A write to a register of the Crossing itself. -/
def State.xngWrite (s : State) (init : InitId) (o : Nat) (v : Word32) : State :=
  if !xngMay (distOf init) o true then s.xngErr init 0x08
  else if o == 0 then s.wr Reg.xngCtl (v &&& 1#32)
  else if o == 0x08 then
    let own := match initInput init with | some i => fieldMask i 1 | none => 0
    let m := if isHouse init then v &&& 0x3FFFFF#32 else v &&& own
    let s := if m == v &&& 0x3FFFFF#32 then s else s.xngErr init 0x08
    let s := s.wr Reg.xngStopped (s.rd Reg.xngStopped &&& ~~~ m)
    s.xg (fun g => { g with stoppedSide := g.stoppedSide.drop (fun i => m.getLsbD i) })
  else if 0x100 ≤ o && o < 0x180 then
    s.wr (Reg.xngCtl + o) (if o % 8 == 0 then v &&& 0xC007FFFF#32 else v &&& 0x7FFFF#32)
  else if 0x1000 ≤ o && o < 0x1100 then s.semWrite init ((o - 0x1000) / 4) v
  else s

/-! ### The commands -/

/-- An access of an input arrives and its block is granted; the input is the last granted (R386). -/
def State.crossAccess (s : State) (i a : Nat) (write : Bool) (f : State → State) : State :=
  s.access (inputInit i) (xngBlock a) (fun s => f (s.xg (fun g => { g with last := i }))) write

/-- A held line or value answers a read: the dword of the address. -/
def XSlot.dword (x : XSlot) (a : Nat) : Word32 := if x.line then x.data.getD (a / 4 % 16) 0 else x.data.headD 0

/-- A read that finds no data fills the slot and queues its fetch; a full queue enters nothing (R388, R389). -/
def State.crossFill (s : State) (i a : Nat) : State :=
  let kerb := toKerb a
  if (s.xng.queue kerb).length ≥ farDepth kerb then s.xngRetry
  else
    let pf := s.prefetchable a
    ((s.setXslot i { st := .waiting, addr := a, line := pf }).xngEnter kerb
      { input := i, write := false, addr := (if pf then a / 64 * 64 else a), line := pf }).xngRetry

/-- A presentation of a read by an input, first or repeated (R387, R388, R390, R392). -/
def State.crossRead (s : State) (i a : Nat) : State :=
  let x := s.xslot i
  let init := inputInit i
  match x.st with
  | .empty => s.crossFill i a
  | .waiting => s.xngRetry
  | .failed _ => (s.setXslot i {}).reply (if isHost init then .completerAbort else .busError)
  | .held =>
    if !x.line then (if x.addr == a then (s.setXslot i {}).reply (.word (x.dword a)) else s.xngRetry)
    else if x.addr / 64 == a / 64 && (!x.answered || s.prefetchable a) then
      let used := (List.range 16).map (fun k => x.used.getD k false || k == a / 4 % 16)
      (s.setXslot i { x with answered := true, used := used }).reply (.word (x.dword a))
    else if (s.xng.queue (toKerb a)).length ≥ farDepth (toKerb a) then s.xngRetry
    else (s.xngDrop i).crossFill i a

/-- A read presented at an input; an offset of the near side is answered at once, and only the house district reaches
the external service bus: a host's access there completes with Unsupported Request (R374, R385, R400). -/
def State.crossPresent (s : State) (i a : Nat) : State :=
  let a := a / 4 * 4
  s.crossAccess i a false (fun s =>
    let init := inputInit i
    if !toKerb a && !toEsb a then
      let (w, s) := s.xngRead init (a - Reg.xngCtl)
      s.reply (.word w)
    else if toEsb a && !isHouse init then s.reply .unsupported
    else s.crossRead i a)

/-- True for an offset that the Crossing carries (R385). -/
def crossAddr (a : Nat) : Bool := 0xE00000 ≤ a && a < 0x1200000

/-- CROSSING_READ: a read across the Crossing is presented; without data it is answered with retry and its fetch is
queued. -/
def execCrossingRead (input : Fin 22) (addr : Nat) (s : State) : Host.Outcome State Fault Refusal :=
  .next (if crossAddr addr then s.begin.crossPresent input.val addr else s.begin)

/-- A write posted at an input (R395, R396). -/
def State.crossPost (s : State) (i a : Nat) (v : Word32) : State :=
  let a := a / 4 * 4
  s.crossAccess i a true (fun s =>
    let init := inputInit i
    let kerb := toKerb a
    if !toKerb a && !toEsb a then (s.xngWrite init (a - Reg.xngCtl) v).reply .ack
    else if toEsb a && !isHouse init then s.reply .unsupported
    else if (s.xng.stoppedSide.get [] i).contains kerb then (s.xngLog init 0x04 a).reply .ack
    else if (s.xng.queue kerb).length ≥ farDepth kerb then s.xngRetry
    else ((s.xngDiscard a).xngEnter kerb { input := i, write := true, addr := a, data := v }).reply .ack)

/-- CROSSING_WRITE: a posted write enters its far side's queue and is acknowledged, or is answered with retry. -/
def execCrossingWrite (input : Fin 22) (addr : Nat) (value : Word32) (s : State) : Host.Outcome State Fault Refusal :=
  .next (if crossAddr addr then s.begin.crossPost input.val addr value else s.begin)

/-- Read data arrive for the front access: they fill its input's slot; a reset initiator's value goes to the lost-read
log (R388, R392, R393). -/
def State.farData (s : State) (r : FarReq) (words : List Word32) : State :=
  if r.orphan then (if r.line then s else s.xngLostRead (inputInit r.input) r.addr (words.headD 0))
  else s.setXslot r.input { s.xslot r.input with st := .held, data := words, since := s.now, used := [], answered := false }

/-- FAR_SIDE_RESPONSE: a far side answers its front access. The Kerb die performs the access on its own registers; data
of the external service bus come with the answer. -/
def execFarSideResponse (kerb : Bool) (answer : FarAnswer) (s : State) : Host.Outcome State Fault Refusal :=
  let s := s.begin
  .next (match s.xng.queue kerb with
    | [] => s
    | r :: _ =>
      let init := inputInit r.input
      match answer with
      | .refusedAccess => s.xngFail kerb 0x02
      | .linkError => if kerb then s.xngFail kerb 0x03 else s
      | .ack =>
        if kerb then
          if r.write then (s.xngNext kerb).kerbWrite init r.addr r.data
          else
            let (ws, s) := if r.line then s.kerbLine init r.addr
              else let (w, s) := s.kerbRead init r.addr; ([w], s)
            (s.xngNext kerb).farData r ws
        else if r.write then s.xngNext kerb else s
      | .data words => if kerb || r.write then s else (s.xngNext kerb).farData r words)

/-- FAR_SIDE_TIMEOUT: a far side has not answered within 20 µs on the Kerb link, or 200 µs on the external service bus
(R390). -/
def execFarSideTimeout (kerb : Bool) (s : State) : Host.Outcome State Fault Refusal :=
  let s := s.begin
  .next (match s.xng.queue kerb with
    | [] => s
    | r :: _ => (s.at_ (r.since + usRoot (if kerb then 20 else 200))).xngFail kerb 0x01)

/-- PREFETCH_HOLD_EXPIRY: a prefetched line has been held for 4,096 FAB cycles and is dropped (R392). -/
def execPrefetchHoldExpiry (input : Fin 22) (s : State) : Host.Outcome State Fault Refusal :=
  let s := s.begin
  let x := s.xslot input.val
  .next (if x.line && x.st == .held then (s.at_ (x.since + 4096 * 8)).xngDrop input.val else s)

/-- XNG_SEM_READ: a read of a semaphore acquires it, or reports its owner. -/
def execXngSemRead (init : InitId) (sem : Fin 64) (s : State) : Host.Outcome State Fault Refusal :=
  .next (s.begin.access init 14 (fun s =>
    let (w, s) := s.semRead init sem.val
    s.reply (.word w)) (write := false))

/-- XNG_SEM_WRITE: a write of its own ID by the owner releases a semaphore. -/
def execXngSemWrite (init : InitId) (sem : Fin 64) (value : Word32) (s : State) : Host.Outcome State Fault Refusal :=
  .next (s.begin.access init 14 (fun s => s.semWrite init sem.val value))

/-- XNG_SEMLOG_READ: a read of XNG_SEMLOG returns the last ignored write and clears it. -/
def execXngSemlogRead (init : InitId) (s : State) : Host.Outcome State Fault Refusal :=
  .next (s.begin.access init 14 (fun s =>
    let (w, s) := s.xngRead init 0x18
    s.reply (.word w)) (write := false))

/-- XNG_LOG_POP: a read of word 0 of a slot's error log or lost-read log removes its oldest record. -/
def execXngLogPop (init : InitId) (slot : Fin 5) (lost : Bool) (s : State) : Host.Outcome State Fault Refusal :=
  .next (s.begin.access init 14 (fun s =>
    let (w, s) := s.xngRead init (0x400 + 0x40 * slot.val + (if lost then 0x24 else 0x10))
    s.reply (.word w)) (write := false))

/-- A reset of an initiator: its open read is lost, and every semaphore it holds is released (R393, R398). -/
def State.xngReset (s : State) (init : InitId) : State :=
  let s := s.xg (fun g => { g with sems := List.filter (fun e => e.2 != init) g.sems })
  match initInput init with
  | none => s
  | some i =>
    let x := s.xslot i
    match x.st with
    | .held => if x.line then s.setXslot i { x with answered := true }
        else (s.setXslot i {}).xngLostRead init x.addr (x.dword x.addr)
    | .waiting =>
      let mark := fun (q : List FarReq) => q.map (fun r => if !r.write && r.input == i then { r with orphan := true } else r)
      (s.setXslot i {}).xg (fun g => { g with kerb := mark g.kerb, esb := mark g.esb })
    | .failed _ => s.setXslot i {}
    | .empty => s

end Sys2Proof.Machine
end

