-- ==== Sys2Proof/Machine/Rings.lean ====
section
/-! DEFINITION. Descriptor rings (R273, R274, R284, R379): the rings of the network ports and of the DMA engines follow
one set of rules for HEAD, TAIL, enabling, write-back and events. -/

namespace Sys2Proof.Machine

/-- The key of a ring's CTL register; its other registers lie at fixed distances from it. -/
def ringBase : RingId → Nat
  | .rx p r => Reg.rxrCtl p.val r.val
  | .tx p r => Reg.txrCtl p.val r.val
  | .dma d k => distKey d.val (Reg.dmaCtl k.val)

/-- The number of a ring's engine state. -/
def ringNo : RingId → Nat
  | .rx p r => p.val * 4 + r.val
  | .tx p r => 256 + p.val * 4 + r.val
  | .dma d k => 512 + d.val * 4 + k.val

/-- The district that owns a ring: the port's DIST (R283) or the engine's host. -/
def State.ringDist (s : State) : RingId → Option Nat
  | .rx p _ | .tx p _ => (s.pl.port? p.val).map (·.dist)
  | .dma d _ => some d.val

/-- xR_CTL.EN. -/
def State.ringOn (s : State) (r : RingId) : Bool := s.bitOf (ringBase r) 31
/-- xR_CTL.ITR_US. -/
def State.ringItr (s : State) (r : RingId) : Nat := s.fld (ringBase r) 0 16
/-- xR_SET. -/
def State.ringSet (s : State) (r : RingId) : Nat := s.fld (ringBase r + 0x04) 0 16
/-- xR_OFF. -/
def State.ringOff (s : State) (r : RingId) : Nat := s.rd64 (ringBase r + 0x08)
/-- xR_ENTRIES. -/
def State.ringEntries (s : State) (r : RingId) : Nat := s.fld (ringBase r + 0x10) 0 16
/-- xR_TAIL. -/
def State.ringTail (s : State) (r : RingId) : Nat := s.fld (ringBase r + 0x14) 0 16
/-- xR_HEAD. -/
def State.ringHead (s : State) (r : RingId) : Nat := s.fld (ringBase r + 0x18) 0 16
/-- The state with xR_STATUS.ERR set. -/
def State.ringErr (s : State) (r : RingId) (code : Nat) : State := s.setErr (ringBase r + 0x20) code

/-- Descriptors handed to the device: TAIL − HEAD, modulo 2 × ENTRIES (R273). -/
def State.ringAvail (s : State) (r : RingId) : Nat :=
  let m := 2 * s.ringEntries r
  if m == 0 then 0 else (s.ringTail r + m - s.ringHead r % m) % m

/-- The byte offset of the descriptor `i` places after HEAD. -/
def State.ringSlotOff (s : State) (r : RingId) (i : Nat) : Nat :=
  s.ringOff r + 32 * ((s.ringHead r + i) % (max (s.ringEntries r) 1))

/-- The 32 bytes of the descriptor `i` places after HEAD. -/
def State.ringDesc (s : State) (r : RingId) (i : Nat := 0) : List Byte :=
  s.readSetId (s.ringSet r) (s.ringSlotOff r i) 32

/-- The vector of a ring's event (R377). -/
def ringVec : RingId → Nat
  | .rx p _ | .tx p _ => 64 + p.val
  | .dma _ k => 36 + k.val
/-- The block of a ring's event. -/
def ringBlock : RingId → Nat
  | .rx _ _ | .tx _ _ => 8
  | .dma _ _ => 0

/-- The engine state of a ring. -/
def State.ringSt (s : State) (r : RingId) : RingState := s.rings.get {} (ringNo r)

/-- The ring's event raised now. -/
def State.ringRaise (s : State) (r : RingId) : State :=
  let s := { s with rings := s.rings.set (ringNo r) { lastEvt := some s.now, evtDue := false } }
  match s.ringDist r with | some d => s.raise d (ringVec r) (ringBlock r) | none => s

/-- True when ITR_US microseconds have passed since the last event (R284). -/
def State.ringItrOver (s : State) (r : RingId) : Bool :=
  match (s.ringSt r).lastEvt with
  | none => true
  | some t => t + s.ringItr r * 9600 ≤ s.now

/-- The event of HEAD's advance: at once with ITR_US 0 or when the interval has passed, else when it does (R284). -/
def State.ringEvent (s : State) (r : RingId) : State :=
  if s.ringItr r == 0 || s.ringItrOver r then s.ringRaise r
  else { s with rings := s.rings.set (ringNo r) { s.ringSt r with evtDue := true } }

/-- A descriptor written back whole as one write; HEAD advances past it (R273). -/
def State.ringWriteBack (s : State) (r : RingId) (bytes : List Byte) : State :=
  let s := s.writeSetId (s.ringSet r) (s.ringSlotOff r 0) bytes
  let m := max (2 * s.ringEntries r) 1
  (s.setF (ringBase r + 0x18) 0 16 ((s.ringHead r + 1) % m)).ringEvent r

/-- True for a power of two from 16 to 32,768 (R274). -/
def ringSizeOk (n : Nat) : Bool := [16, 32, 64, 128, 256, 512, 1024, 2048, 4096, 8192, 16384, 32768].contains n

/-- The code of a ring's enable checks, 0 when they pass (R274, R379). -/
def State.ringCheck (s : State) (r : RingId) : Nat :=
  match s.ringDist r with
  | none => 0x25
  | some d =>
    let off := s.ringOff r
    let n := s.ringEntries r
    if off % 64 != 0 || (s.setRange d (s.ringSet r) off (32 * n)).isNone then 0x21
    else if !ringSizeOk n then 0x22
    else 0

/-- A register access to a ring: by its owner, or by the house district for a port's ring; a foreign host sets code 0x20
in the port's status (R287). -/
def State.ringAccess (s : State) (init : InitId) (r : RingId) (f : State → State) : State :=
  match r with
  | .dma d _ => s.access init 0 (fun s => if isHost init && distOf init == d.val then f s else s)
  | .rx p _ | .tx p _ =>
    s.access init 8 (fun s =>
      let d := distOf init
      if d == houseDist || s.ringDist r == some d then f s else s.setErr (Reg.prtStatus p.val) 0x20)

/-- RING_ENABLE: a write of EN 1 to a ring's CTL checks and enables the ring (R274, R379). -/
def execRingEnable (init : InitId) (ring : RingId) (value : Word32) (s : State) : Host.Outcome State Fault Refusal :=
  .next (s.begin.ringAccess init ring (fun s =>
    let b := ringBase ring
    let itr := field value 0 16
    if s.ringOn ring then s.setF b 0 16 itr
    else
      let s := s.setF b 0 16 itr
      let c := s.ringCheck ring
      if c != 0 then s.ringErr ring c
      else
        let s := (s.wr (b + 0x14) 0).wr (b + 0x18) 0
        let s := { s with rings := s.rings.set (ringNo ring) {} }
        (s.setF b 31 1 1).setF (b + 0x20) 0 1 1))

/-- Transmit ring `r` of port `p` forgets its descriptor; a frame of it on the wire completes without write-back (R274,
R283). -/
def State.txrForget (s : State) (p r : Nat) : State :=
  { s with ports := s.ports.upd {} p (fun x =>
      { x with rings := x.rings.set r {},
               cur := x.cur.map (fun f => match f.tag with | .ring q _ => if q == r then { f with tag := .orphan } else f | _ => f) }) }

/-- RING_DISABLE: a write of EN 0 stops the ring after the frame in progress; HEAD and descriptors stay (R274). -/
def execRingDisable (init : InitId) (ring : RingId) (value : Word32) (s : State) : Host.Outcome State Fault Refusal :=
  .next (s.begin.ringAccess init ring (fun s =>
    let b := ringBase ring
    let s := match ring with
      | .tx p r => s.txrForget p.val r.val
      | _ => s
    ((s.setF b 0 16 (field value 0 16)).setF b 31 1 0).setF (b + 0x20) 0 1 0))

/-- RING_TAIL_WRITE: a TAIL write hands descriptors to the device; one that would exceed the ring is ignored with code
0x24 (R273). -/
def execRingTailWrite (init : InitId) (ring : RingId) (value : Word32) (s : State) : Host.Outcome State Fault Refusal :=
  .next (s.begin.ringAccess init ring (fun s =>
    let n := s.ringEntries ring
    let t := field value 0 16
    if n == 0 || (t + 2 * n - s.ringHead ring % (2 * n)) % (2 * n) > n then s.ringErr ring 0x24
    else s.wr (ringBase ring + 0x14) (w32 (t % (2 * n)))))

/-- RING_EVENT_TIMER: the ITR_US interval has passed and a pending ring event is raised (R284). -/
def execRingEventTimer (ring : RingId) (s : State) : Host.Outcome State Fault Refusal :=
  let s := s.begin
  let st := s.ringSt ring
  .next (if st.evtDue then (s.at_ ((st.lastEvt.getD 0) + usRoot (s.ringItr ring))).ringRaise ring else s)

end Sys2Proof.Machine
end

