-- ==== Sys2Proof/Machine/Hosts.lean ====
section
/-! DEFINITION. Host ports (R372 to R384): link, power state, bus mastering, MSI-X, and the DMA engines of each host
district. -/

namespace Sys2Proof.Machine

/-- The host port's initiator ID. -/
def hostInit (d : Nat) : InitId := BitVec.ofNat 8 (0x10 + d)

/-- HOST_LINK_UP: a host port's link finishes training, at x8, x4, x2 or x1 and 2.5 to 32 GT/s (generations 1 to 5), and the
function answers (R34, R372). Links are down in Reset and Safe. -/
def execHostLinkUp (link : HostLink) (s : State) : Host.Outcome State Fault Refusal :=
  let s := s.begin
  if s.mode.mode == .reset || s.mode.mode == .safe || !([1, 2, 4, 8].contains link.width) ||
      link.gen < 1 || 5 < link.gen then .next s
  else .next (s.setHp link.host.val { s.hp link.host.val with link := true, width := link.width, gen := link.gen })

/-- Send every held message that can leave (R378). -/
def State.flushMsix (s : State) (d : Nat) : State :=
  ((s.hp d).pend.filter (·.2)).foldl (fun s e => if (s.hp d).canSend e.1 && (s.hp d).msixEn then s.sendMsix d e.1 else s) s

/-! ### DMA engines -/

/-- The number of an engine's state. -/
def dmaNo (d k : Nat) : Nat := d * 4 + k
/-- The engine `k` of host district `d`. -/
def State.dmaOf (s : State) (d k : Nat) : DmaState := s.dma.get {} (dmaNo d k)
/-- The state with an engine replaced. -/
def State.setDma (s : State) (d k : Nat) (x : DmaState) : State := { s with dma := s.dma.set (dmaNo d k) x }

/-- LEN, OFFSET, HOST_ADDR, DIR, SET_ID and TAG of a DMA descriptor (R380). -/
def dmaLen (b : List Byte) : Nat := leAt b 4 4
def dmaOff (b : List Byte) : Nat := leAt b 8 8
def dmaAddr (b : List Byte) : Nat := leAt b 16 8
def dmaDir (b : List Byte) : Nat := byteAt b 2
def dmaSet (b : List Byte) : Nat := leAt b 0 2
def dmaTag (b : List Byte) : Nat := leAt b 0x18 2

/-- The write-back form of a DMA descriptor (R380). -/
def dmaWriteBack (b : List Byte) (moved status : Nat) : List Byte :=
  leBytes 2 (dmaSet b) ++ [0, 0] ++ leBytes 4 moved ++ List.replicate 16 0 ++ leBytes 2 (dmaTag b) ++ [b8 status]
    ++ List.replicate 4 0 ++ [0x80]

/-- The descriptor in hand written back with a status; the engine is free for the next, and completions of it still due are
discarded (R382, R383). -/
def State.dmaFinish (s : State) (d k : Fin 4) (status : Nat) : State :=
  let x := s.dmaOf d.val k.val
  let wb := dmaWriteBack x.desc x.moved status
  let s := s.setDma d.val k.val { due := x.due.map (fun e => (e.1, true)) }
  let s := if status == 0 then s else s.ringErr (.dma d k) status
  s.ringWriteBack (.dma d k) wb

/-- Modes in which the DMA engines run (R379). -/
def State.dmaRuns (s : State) : Bool :=
  s.mode.mode == .standby || s.mode.mode == .active || s.mode.mode == .maintenance

/-- The bytes of an engine's next transfer: up to 4,096, to the next 4,096-byte boundary of the host address (R382). -/
def DmaState.piece (x : DmaState) : Nat :=
  min (dmaLen x.desc - x.asked) (4096 - (dmaAddr x.desc + x.asked) % 4096)

/-- A range of `n` bytes in pieces of at most `size`: offset and length of each. -/
def splitBy (size : Nat) : Nat → Nat → Nat → List (Nat × Nat)
  | 0, _, _ => []
  | fuel + 1, o, n => if n == 0 then [] else (o, min size n) :: splitBy size fuel (o + min size n) (n - min size n)

/-- The requests of an engine's next transfer: host reads split by Max Read Request Size, writes by Max Payload Size. -/
def State.dmaCut (s : State) (d k : Nat) : List (Nat × Nat) :=
  let x := s.dmaOf d k
  let h := s.hp d
  splitBy (if dmaDir x.desc == 0 then h.mrrs else h.mps) 32 x.asked x.piece

/-- Read requests of a port that are outstanding: at most 256 (R372). -/
def State.dmaOutstanding (s : State) (d : Nat) : Nat := sumOf ([0, 1, 2, 3].map (fun k => (s.dmaOf d k).due.length))

/-- Engine `k` of host `d` can make a transfer. -/
def State.dmaReady (s : State) (d k : Nat) : Bool :=
  let x := s.dmaOf d k
  x.busy && x.asked < dmaLen x.desc &&
    (dmaDir x.desc != 0 || s.dmaOutstanding d + (s.dmaCut d k).length ≤ 256)

/-- One transfer of an engine (R382): read requests, or lot data sent in writes, poisoned data with EP set (R383). -/
def State.dmaTransfer (s : State) (d k : Nat) : State :=
  let x := s.dmaOf d k
  let pieces := s.dmaCut d k
  let n := x.piece
  let s := s.setHp d { s.hp d with last := k }
  if dmaDir x.desc == 0 then
    let s := pieces.foldl (fun s (o, n) => s.emit (.hostRead d (BitVec.ofNat 64 (dmaAddr x.desc + o)) n)) s
    s.setDma d k { x with asked := x.asked + n, due := x.due ++ pieces.map (fun e => (e.2, false)) }
  else
    match s.set? (dmaSet x.desc) with
    | none => s.setDma d k { x with asked := x.asked + n }
    | some st =>
      let ep := fun (o n : Nat) => s.poisoned st (dmaOff x.desc + o) n
      let bad := pieces.any (fun e => ep e.1 e.2)
      let s := pieces.foldl (fun s (o, n) =>
        s.emit (.hostWrite d (BitVec.ofNat 64 (dmaAddr x.desc + o)) (s.readSet st (dmaOff x.desc + o) n) (ep o n))) s
      let s := ((s.bw (Reg.pmcBwHost d 0) n).bw (Reg.pmcBwHost d 1) n).alley (s.addrIn st.handles) (dmaOff x.desc + x.asked) n
      s.setDma d k { x with asked := x.asked + n, moved := x.moved + n, poison := x.poison || bad }

/-- The engines of a host make their transfers in turn, one each, from the engine after the last, while the function masters
the bus (R382, R383). -/
def State.dmaPump (d : Nat) : Nat → State → State
  | 0, s => s
  | fuel + 1, s =>
    let h := s.hp d
    if !h.bme || h.d3 || !s.dmaRuns then s
    else
      match ([1, 2, 3, 4].map (fun i => (h.last + i) % 4)).find? (s.dmaReady d) with
      | some k => State.dmaPump d fuel (s.dmaTransfer d k)
      | none => s

/-- Transfers that suffice: four descriptors of less than 4 GiB. -/
def dmaFuel : Nat := 4 * (2 ^ 20 + 1)

/-- The engines of host `d` go on. -/
def State.dmaGo (s : State) (d : Nat) : State := State.dmaPump d dmaFuel s

/-- DMA_DESCRIPTOR_START: an engine takes a descriptor, checks it and starts its transfers (R381, R382). -/
def execDmaDescriptorStart (host engine : Fin 4) (s : State) : Host.Outcome State Fault Refusal :=
  let s := s.begin
  let r : RingId := .dma host engine
  let x := s.dmaOf host.val engine.val
  if !s.dmaRuns || !s.ringOn r || s.ringAvail r == 0 || x.busy then .next s
  else
    let b := s.ringDesc r
    let s := s.setDma host.val engine.val { busy := true, desc := b, due := x.due }
    let zero := byteAt b 3 == 0 && (slice b 0x1A 6).all (· == 0)
    if dmaLen b == 0 then .next (s.dmaFinish host engine 0x01)
    else if dmaDir b > 1 || !zero || (s.setRange host.val (dmaSet b) (dmaOff b) (dmaLen b)).isNone then
      .next (s.dmaFinish host engine 0x02)
    else .next (s.dmaGo host.val)

/-- The rest of a read request's bytes after a completion with `n` of them, or after one with an error status. -/
def dueLeft (left : Nat) (discard ok : Bool) (n : Nat) : List (Nat × Bool) :=
  if ok && n < left then [(left - n, discard)] else []

/-- DMA_HOST_COMPLETION: a host completion of a DMA read arrives, for the oldest request of the engine: its data go to the
lot, poison with them; Unsupported Request or Completer Abort status stops the descriptor with 0x04 (R383). Completions of a
descriptor that has ended, or of a reset engine, are discarded (R384). -/
def execDmaHostCompletion (host engine : Fin 4) (bytes : List Byte) (ep ok : Bool) (s : State) :
    Host.Outcome State Fault Refusal :=
  let s := s.begin
  let d := host.val
  let k := engine.val
  let x := s.dmaOf d k
  match x.due with
  | [] => .next s
  | (left, discard) :: rest =>
    let x := { x with due := dueLeft left discard ok bytes.length ++ rest }
    let s := s.setDma d k x
    if discard then .next (s.dmaGo d)
    else if !ok then .next ((s.dmaFinish host engine 0x04).dmaGo d)
    else
      let data := bytes.take left
      let s := s.setDma d k { x with moved := x.moved + data.length, poison := x.poison || ep }
      match s.set? (dmaSet x.desc) with
      | none => .next (s.dmaGo d)
      | some st =>
        let o := dmaOff x.desc + x.moved
        let s := s.writeShared st o data
        let s := if ep then s.poisonRange st o data.length else s
        .next (((s.bw (Reg.pmcBwHost d 1) data.length).alley (s.addrIn st.handles) o data.length).dmaGo d)

/-- DMA_COMPLETION_TIMEOUT: the engine's oldest request is never completed; its descriptor stops with 0x04, and AER records
it (R383). -/
def execDmaCompletionTimeout (host engine : Fin 4) (s : State) : Host.Outcome State Fault Refusal :=
  let s := s.begin
  let d := host.val
  let x := s.dmaOf d engine.val
  match x.due with
  | [] => .next s
  | (_, discard) :: rest =>
    let h := s.hp d
    let s := (s.setHp d { h with aer := h.aer ||| fieldMask 14 1 }).emit (.aer d 14 true)
    let s := s.setDma d engine.val { x with due := rest }
    .next ((if discard then s else s.dmaFinish host engine 0x04).dmaGo d)

/-- DMA_DESCRIPTOR_DONE: all data of the descriptor has moved and it is written back (R382, R383). -/
def execDmaDescriptorDone (host engine : Fin 4) (s : State) : Host.Outcome State Fault Refusal :=
  let s := s.begin
  let x := s.dmaOf host.val engine.val
  if !x.busy || x.moved < dmaLen x.desc then .next s
  else .next (s.dmaFinish host engine (if x.poison then 0x03 else 0x00))

/-- Held messages and descriptors go when the function may master the bus. -/
def State.hostFlush (s : State) (d : Nat) : State :=
  let h := s.hp d
  if h.bme && !h.d3 then (s.flushMsix d).dmaGo d else s

/-- POWER_STATE_CHANGE: D3hot disables the function's BAR decoding; D0 enables it and sends held messages (R372, R378). -/
def execPowerStateChange (host : Fin 4) (d3 : Bool) (s : State) : Host.Outcome State Fault Refusal :=
  let s := s.begin
  let h := s.hp host.val
  if !h.link then .next s
  else .next ((s.setHp host.val { h with d3 := d3 }).hostFlush host.val)

/-- BUS_MASTER_ENABLE: setting Bus Master Enable sends held MSI-X messages and resumes DMA (R378, R383). -/
def execBusMasterEnable (host : Fin 4) (s : State) : Host.Outcome State Fault Refusal :=
  let s := s.begin
  let h := s.hp host.val
  if !h.link then .next s
  else .next ((s.setHp host.val { h with bme := true }).hostFlush host.val)

/-- MSIX_VECTOR_UNMASK: unmasking a vector whose pending bit is set sends its message (R378). -/
def execMsixVectorUnmask (host : Fin 4) (vector : Fin 256) (s : State) : Host.Outcome State Fault Refusal :=
  let s := s.begin
  let h := s.hp host.val
  if !h.link || h.d3 then .next s
  else .next ((s.setHp host.val { h with unmasked := h.unmasked.set vector.val true }).hostFlush host.val)

/-- The parts of a reset of host district `d` that lie in its function (R384): configuration space, DMA engines and the
function's registers. -/
def State.resetHost (s : State) (d : Nat) (linkDown : Bool) : State :=
  let s := [0, 1, 2, 3].foldl (fun s k =>
    s.setDma d k { due := if linkDown then [] else (s.dmaOf d k).due.map (fun e => (e.1, true)) }) s
  let h := s.hp d
  let s := s.setHp d (if linkDown then {} else { link := h.link, width := h.width, gen := h.gen })
  let s := { s with rings := s.rings.drop (fun n => 512 + d * 4 ≤ n && n < 516 + d * 4) }
  { s with regs := s.regs.drop (fun k => distKey d 0x300 ≤ k && k < distKey d 0x500) }

end Sys2Proof.Machine
end

