-- ==== Sys2Proof/Machine/Observe.lean ====
section
/-! DEFINITION. Counters and error reporting (R517 to R532): the event catalogue and its owners, the bandwidth windows,
the collector, the district logs, device-fatal events and the commands of the PMC and ERR blocks. -/

namespace Sys2Proof.Machine

/-! ### The event catalogue -/

/-- Who owns an event (R518, R519). -/
inductive Owner where
  | device
  | district (d : Nat)
  | nobody
deriving DecidableEq, Repr

/-- The number of instances and of events of a block in the catalogue (R518); ERR instance 5 stands apart. -/
def catalogue : Nat → Nat × Nat
  | 2 => (1, 4)
  | 3 => (16, 10)
  | 4 => (4, 4)
  | 5 => (16, 4)
  | 6 => (64, 5)
  | 7 => (64, 4)
  | 8 => (64, 24)
  | 9 => (1, 4)
  | 10 => (1, 4)
  | 11 => (5, 6)
  | 12 => (5, 2)
  | 14 => (1, 3)
  | 18 => (1, 4)
  | 19 => (1, 6)
  | 23 => (5, 4)
  | _ => (0, 0)

/-- True when the catalogue holds the event (R518). -/
def inCatalogue (block inst event : Nat) : Bool :=
  (inst < (catalogue block).1 && event < (catalogue block).2) || (block == 23 && inst == 5 && event == 0)

/-- The owner of an event, from the plan in force (R518, R519). -/
def State.evOwner (s : State) (block inst : Nat) : Owner :=
  let ofPlan := fun (o : Option Nat) => match o with | some d => Owner.district d | none => Owner.nobody
  match block with
  | 3 => ofPlan ((s.pl.input? inst).map (·.dist))
  | 4 => ofPlan ((s.pl.canvas? inst).map (·.dist))
  | 6 | 7 | 8 => ofPlan ((s.pl.port? inst).map (·.dist))
  | 11 | 12 => .district (slotDist inst)
  | 23 => if inst < 5 then .district (slotDist inst) else .device
  | _ => .device

/-- True when district `d` may read the events of an instance (R519). -/
def State.mayReadEv (s : State) (d block inst : Nat) : Bool :=
  d == houseDist ||
    match s.evOwner block inst with
    | .device => s.bitOf Reg.pmcPerm d
    | .district e => e == d
    | .nobody => s.bitOf Reg.pmcPerm d

/-- The three numbers of an event as PMC_SEL and PMC_PIN hold them. -/
def selOf (w : Word32) : Nat × Nat × Nat := (field w 24 5, field w 16 7, field w 0 8)

/-- The code of a selection: 0x00 readable, 0x01 not in the catalogue, 0x02 not permitted (R519). -/
def State.selCode (s : State) (d : Nat) (w : Word32) : Nat :=
  let (b, i, e) := selOf w
  if !inCatalogue b i e then 0x01
  else if !s.mayReadEv d b i then 0x02
  else 0

/-- The value of the counter a selection names. -/
def State.selValue (s : State) (w : Word32) : Nat :=
  let (b, i, e) := selOf w
  s.pmc.cnt.get 0 (evKey b i e)

/-- PMC_STATUS.ERR of a district (R530). -/
def State.pmcErr (s : State) (d code : Nat) : State := s.setErr (distKey (slotOf d) Reg.pmcStatus) code

/-- A write to PMC_SEL: kept per initiator, and checked as a selection (R519). -/
def State.pmcSelect (s : State) (init : InitId) (v : Word32) : State :=
  let d := distOf init
  let v := v &&& 0x1F7F00FF#32
  let s := s.wr (initKey init Reg.pmcSel) v
  let c := s.selCode d v
  if c == 0 then s else s.pmcErr d c

/-- The value of pin `k` of slot `j`: 0 while disabled or not permitted (R520). -/
def State.pinValue (s : State) (j k : Nat) : Nat :=
  let w := s.rd (Reg.pmcPin j k)
  if w.getLsbD 31 && s.selCode (slotDist j) w == 0 then s.selValue w else 0

/-- PMC_PIN_WRITE: a write to a PMC pin selects an event, checked as a selection (R520, R531). -/
def execPmcPinWrite (init : InitId) (slot : Fin 5) (pin : Fin 64) (value : Word32) (s : State) :
    Host.Outcome State Fault Refusal :=
  .next (s.begin.access init 22 (fun s =>
    let d := distOf init
    if !slotAllowed d slot.val then s.pmcErr d 0x04
    else
      let w := value &&& 0x9F7F00FF#32
      let c := s.selCode (slotDist slot.val) w
      if w.getLsbD 31 && c != 0 then (s.wr (Reg.pmcPin slot.val pin.val) (putField w 31 1 0)).pmcErr d c
      else s.wr (Reg.pmcPin slot.val pin.val) w))

/-! ### Bandwidth windows -/

/-- The state at the end of the window under way (R521): WIN_US microseconds after its start, or none before the next
frame boundary of a window of one frame. -/
def State.windowOver (s : State) : Option State :=
  if s.pmc.cfg.getLsbD 31 then (if s.pmc.winFrame != s.frame then some s else none)
  else some (s.at_ (s.pmc.winStart + usRoot (field s.pmc.cfg 0 16)))

/-- The registers of the measured quantities of ports and hosts (R521). -/
def bwRegs : List Nat :=
  (List.range 64).flatMap (fun p => [Reg.pmcBwPort p 0, Reg.pmcBwPort p 1]) ++
  (List.range 4).flatMap (fun h => [Reg.pmcBwHost h 0, Reg.pmcBwHost h 1])

/-- The registers of the DRAM channels' bytes (R521). What the hosts move is counted by the interleave of
R91; how much the pipeline and the other Alley users move the specification does not count: a free value on top. -/
def bwChanRegs : List Nat := (List.range 32).flatMap (fun c => [Reg.pmcBwChan c 0, Reg.pmcBwChan c 1])

/-- BW_WINDOW_END: at each window end every quantity is latched, PMC_BWSEQ advances and counting restarts (R521). -/
def execBwWindowEnd (s : State) : Host.Outcome State Fault Refusal :=
  let s := s.begin
  match s.windowOver with
  | none => .next s
  | some s =>
    let (n, s) := s.draw
    let s := bwChanRegs.foldl (fun s k => s.wr k (w32 (s.pmc.bw.get 0 k) + Config.channelBytes n k)) s
    let s := bwRegs.foldl (fun s k => s.wr k (w32 (s.pmc.bw.get 0 k))) s
    let s := s.bump Reg.pmcBwseq
    .next { s with pmc := { s.pmc with bw := [], winStart := s.now, winFrame := s.frame, cfg := s.rd Reg.pmcBwcfg } }

/-! ### Error records -/

/-- The eight dwords of a record (R522). -/
def ErrRec.words (r : ErrRec) : List Word32 :=
  [ pack [(0, r.block), (8, r.code), (16, r.init),
      (24, r.sev + 4 * bit r.device + 8 * bit r.all + 16 * bit r.more + 0x80)],
    w32 r.seq, w32 r.ns, w32 r.sec, pack [(0, r.sec / 2 ^ 32 % 2 ^ 16), (16, r.dist)],
    w32 r.addr, w32 (r.addr / 2 ^ 32), 0 ]

/-- The slots whose logs receive a record (R524). -/
def ErrRec.slots (r : ErrRec) : List Nat :=
  let i : InitId := BitVec.ofNat 8 r.init
  ([0, 1, 2, 3].filter (fun d => r.all || r.dist == d ||
    (distOf i == d && (isHost i || (0x20 ≤ r.init && r.init < 0x30))))) ++ [4]

/-- The log with its newest record that is not fatal taken out (R525). -/
def dropNewestNonFatal (l : List ErrRec) : List ErrRec :=
  match l.reverse.findIdx? (·.sev != 2) with
  | none => l
  | some i => (l.reverse.eraseIdx i).reverse

/-- The record put into the log of slot `j` (R525), with the event of its delivery (R527). -/
def State.logPut (s : State) (r : ErrRec) (j : Nat) : State :=
  let l := s.err.logs.get [] j
  let put := fun (l : List ErrRec) (s : State) => { s with err := { s.err with logs := s.err.logs.set j (l ++ [r]) } }
  let done := fun (s : State) => (s.count 23 j r.sev).raise (slotDist j) (2 - r.sev) 23
  let lost := fun (s : State) => (s.count 23 j 3).setF (Reg.errDstatus j) 8 1 1
  if l.length < 64 then done (put l s)
  else if r.sev == 2 && l.any (·.sev != 2) then done (put (dropNewestNonFatal l) (lost s))
  else lost s

/-- The delivery of a record: it takes the next SEQ and goes to its logs (R522, R524). -/
def State.deliver (s : State) (r : ErrRec) : State :=
  let s := s.bump Reg.errSeq
  let r := { r with seq := (s.rd Reg.errSeq).toNat }
  r.slots.foldl (fun s j => s.logPut r j) s

/-- The block whose record the collector takes next (R523): round robin from the block after the last one taken. -/
def State.nextBlock (s : State) : Option Nat :=
  ((List.range 64).map (fun i => (s.err.last + 1 + i) % 64)).find? (fun b => !(s.err.bufs.get [] b).isEmpty)

/-- ERROR_COLLECT: the collector takes one waiting record and delivers it (R523, R524). -/
def execErrorCollect (s : State) : Host.Outcome State Fault Refusal :=
  let s := s.begin
  match s.nextBlock with
  | none => .next s
  | some b =>
    match s.err.bufs.get [] b with
    | [] => .next s
    | r :: t => .next ({ s with err := { s.err with bufs := s.err.bufs.set b t, last := b } }.deliver r)

/-- A write to a slot or register of ERR that its host may not reach: code 0x10 in its own slot (R532). -/
def State.errDenied (s : State) (d : Nat) : State := s.setErr (Reg.errDstatus (slotOf d)) 0x10

/-- ERR_POP: a read removes the oldest record and latches its dwords 1 to 7 for the reader (R525, R532). -/
def execErrPop (init : InitId) (slot : Fin 5) (s : State) : Host.Outcome State Fault Refusal :=
  .next (s.begin.access init 23 (write := false) (fun s =>
    if !slotAllowed (distOf init) slot.val then (s.errDenied (distOf init)).reply (.word 0)
    else
      match s.err.logs.get [] slot.val with
      | [] => s.reply (.word 0)
      | r :: t =>
        let s := { s with err := { s.err with logs := s.err.logs.set slot.val t } }
        let s := (List.range 7).foldl
          (fun s k => s.wr (initKey init (Reg.errRec slot.val k)) (r.words.getD (k + 1) 0)) s
        s.reply (.word (r.words.getD 0 0))))

/-- ERR_INJECT: a write with KEY 0xE1A injects a record into the buffer of the block it names (R530, R532). -/
def execErrInject (init : InitId) (value : Word32) (s : State) : Host.Outcome State Fault Refusal :=
  .next (s.begin.access init 23 (fun s =>
    let d := distOf init
    let sev := field value 18 2
    let block := field value 8 6
    let code := field value 0 8
    if d != houseDist then s.errDenied d
    else if field value 20 12 != 0xE1A || sev == 3 || (block == 23 && (code == 1 || code == 2)) then
      s.setErr (Reg.errDstatus 4) 0x11
    else
      let dist := field value 14 3
      s.report { block := block, code := code, sev := sev, all := value.getLsbD 17,
                 dist := if 4 ≤ dist && dist ≤ 6 then 0xFF else dist, addr := 0x03 }))

/-- DEVICE_FATAL_EVENT: the record is delivered at once to every district, NMI is raised and ERR_LASTFATAL stored; in
Standby, Active and Maintenance the reset of R35 follows 100 µs later (R526). -/
def execDeviceFatalEvent (code : Code) (init : InitId) (addr : U64) (s : State) : Host.Outcome State Fault Refusal :=
  let s := s.begin
  if s.mode.mode == .reset || !(code == 0x01#8 || code == 0x02#8) then .next s
  else
    let r : ErrRec := { block := 23, code := code.toNat, init := init.toNat, sev := 2, device := true, all := true,
                        ns := s.clt.ns, sec := s.clt.sec, addr := addr.toNat }
    let s := s.deliver r
    let ws := ({ r with seq := (s.rd Reg.errSeq).toNat } : ErrRec).words
    let s := (List.range 8).foldl (fun s k =>
      { s.wr (Reg.errLastfatal k) (ws.getD k 0) with nv := s.nv.set (Reg.errLastfatal k) (ws.getD k 0) }) s
    let s := (s.setF Reg.errNmisrc 1 1 1).emit .nmi
    if s.mode.mode == .standby || s.mode.mode == .active || s.mode.mode == .maintenance then
      .next { s with err := { s.err with fatalAt := some (s.err.fatalAt.getD s.now) } }
    else .next s

/-- A reset of host district `d`: its log, pins and ERR_REC latches (R528). -/
def State.resetObserve (s : State) (d : Nat) : State :=
  let s := { s with err := { s.err with logs := s.err.logs.set d [] } }
  let pins := fun k => (List.range 64).any (fun i => k == Reg.pmcPin d i)
  let recs := fun k => (List.range 7).any (fun i => k == initKey (BitVec.ofNat 8 (0x10 + d)) (Reg.errRec d i))
  { s with regs := s.regs.drop (fun k => pins k || recs k) }

end Sys2Proof.Machine
end

