-- ==== Sys2Proof/Machine/Boulevard.lean ====
section
/-! DEFINITION. Boulevard lamp mapping and correction (R179 to R203): lamp positions, sampling, correction, transfer,
masters, dither and packing; tile settings and global masters; runs and frames. -/

namespace Sys2Proof.Machine

/-! ### Tables -/

/-- Bytes a set holds; 0 for a set that does not exist. -/
def State.setBytes (s : State) (id : Nat) : Nat := ((s.set? id).map LotSet.bytes).getD 0

/-- B of R185: the bank size of an LCT set. -/
def State.lctBank (s : State) (id : Nat) : Nat :=
  24 * sumOf ((s.pl.tiles.filter (·.lctSet == id)).map (fun u => (s.tileLayout u).lamps))
/-- Byte offset of a tile's entries in a bank (R185). -/
def State.lctOff (s : State) (t : TileRec) : Nat :=
  24 * sumOf ((s.pl.tiles.filter (fun u => u.lctSet == t.lctSet && u.id < t.id)).map (fun u => (s.tileLayout u).lamps))
/-- The LCT set of a tile holds bank 1 (R185). -/
def State.lctTwo (s : State) (t : TileRec) : Bool := 2 * s.lctBank t.lctSet ≤ s.setBytes t.lctSet
/-- The LUT set of a tile holds bank 1 (R188). -/
def State.lutTwo (s : State) (t : TileRec) : Bool := t.lutSet != 0xFFFF && 16384 ≤ s.setBytes t.lutSet

/-! ### Lamp positions (R181 to R183), in 1/65,536 of a pixel -/

/-- A lamp's centre and the width and height of its cell. -/
structure LampPos where
  u : Int
  v : Int
  w : Nat
  h : Nat
deriving DecidableEq, Repr

/-- The position of lamp `i`; `entry` reads a position entry of the layout. -/
def lampPos (t : TileRec) (l : LoutRec) (entry : Nat → Nat × Nat) (i : Nat) : LampPos :=
  let w := t.pitchX * 256
  let h := t.pitchY * 256
  if l.kind == 1 then
    let e := entry i
    ⟨(t.orgX * 65536 + e.1 : Nat), (t.orgY * 65536 + e.2 : Nat), w, h⟩
  else
    let c := if l.cols == 0 then 0 else i % l.cols
    let r := if l.cols == 0 then 0 else i / l.cols
    ⟨(t.orgX * 65536 + c * w + w / 2 : Nat), (t.orgY * 65536 + r * h + h / 2 : Nat), w, h⟩

/-- The centre lies outside the canvas (R183). -/
def LampPos.off (q : LampPos) (c : CanRec) : Bool := q.u ≥ (c.width * 65536 : Nat) || q.v ≥ (c.height * 65536 : Nat)

/-- The least whole number not below `a / 65,536`. -/
def ceil16 (a : Int) : Int := Int.neg ((-a) / 65536)
/-- The indices below `n` of the pixels whose centres lie in a cell's extent around `centre` (R184). -/
def boxRange (centre : Int) (w n : Nat) : List Nat :=
  let lo := ceil16 (centre - (w / 2 : Nat) - 32768)
  let hi := ceil16 (centre - (w / 2 : Nat) + w - 32768)
  let a := (clampI 0 n lo).toNat
  let b := (clampI 0 n hi).toNat
  (List.range (b - a)).map (· + a)
/-- The two taps of a bilinear sample along an axis and the fraction of the second in 1/256 (R184). -/
def linTaps (centre : Int) (n : Nat) : Nat × Nat × Nat :=
  let a := centre - 32768
  let x0 := a / 65536
  let at_ := fun (x : Int) => (clampI 0 ((n : Int) - 1) x).toNat
  (at_ x0, at_ (x0 + 1), (a % 65536).toNat / 256)

/-- The pixels a sample takes, as (x, y, weight), and the sum of the weights (R184). -/
def samplePixels (sample : Nat) (c : CanRec) (q : LampPos) : List (Nat × Nat × Nat) × Nat :=
  let near := ([((q.u / 65536).toNat, (q.v / 65536).toNat, 1)], 1)
  match sample with
  | 0 => near
  | 1 =>
    let (x0, x1, fx) := linTaps q.u c.width
    let (y0, y1, fy) := linTaps q.v c.height
    ([(x0, y0, (256 - fx) * (256 - fy)), (x1, y0, fx * (256 - fy)), (x0, y1, (256 - fx) * fy), (x1, y1, fx * fy)], 65536)
  | _ =>
    let xs := boxRange q.u q.w c.width
    let ys := boxRange q.v q.h c.height
    if xs.isEmpty || ys.isEmpty then near
    else (ys.flatMap (fun y => xs.map (fun x => (x, y, 1))), xs.length * ys.length)

/-- The last canvas row that a lamp's sample needs (R194); a lamp off the canvas needs none. -/
def needRow (t : TileRec) (l : LoutRec) (c : CanRec) (i : Nat) : Nat :=
  let q := lampPos t l (fun _ => (0, 0)) i
  if q.off c then 0 else maxOf ((samplePixels t.sample c q).1.map (fun e => e.2.1))

/-! ### Correction (R185 to R190) -/

/-- The settings of a tile: MASTER, WGAIN, WSUB, DITHER, LUT_BANK, LCT_BANK. -/
structure TileSet where
  master : Nat
  wgain : Nat
  wsub : Nat
  dither : Bool
  lutBank : Nat
  lctBank : Nat
deriving DecidableEq, Repr

/-- Settings from the words of MASTER, WHITE and SEL. -/
def TileSet.ofWords (l : List Word32) : TileSet :=
  let m := l.getD 0 0
  let w := l.getD 1 0
  let e := l.getD 2 0
  { master := field m 0 16, wgain := field w 0 16, wsub := field w 16 16, dither := e.getLsbD 2, lutBank := field e 1 1,
    lctBank := field e 0 1 }

/-- Row `j` of the matrix and offset of an LCT entry applied to a sample, limited to 0 to 1.0, in 2^-25 (R186). -/
def matRow (e : List Byte) (rgb : List Nat) (j : Nat) : Nat :=
  let m := fun k => signed 16 (leAt e (2 * k) 2)
  let sum := m (3 * j) * rgb.getD 0 0 + m (3 * j + 1) * rgb.getD 1 0 + m (3 * j + 2) * rgb.getD 2 0 + m (9 + j) * 4096
  (clampI 0 (2 ^ 25 : Nat) sum).toNat

/-- The channel values of a lamp in 2^-37 (R186, R187). -/
def channels (n : Nat) (z : TileSet) (e : List Byte) (rgb : List Nat) : List Nat :=
  if n == 4 then
    let c := (List.range 3).map (matRow e rgb)
    let w := min (c.getD 0 0) (min (c.getD 1 0) (c.getD 2 0))
    c.map (fun x => x * 4096 - w * z.wsub) ++ [w * z.wgain]
  else (List.range n).map (fun j => matRow e rgb j * 4096)

/-- The LUT entries that a channel value in 2^-37 needs: the lower index, and the fraction in 1/4,096 (R188). -/
def lutIndex (x : Nat) : Nat × Nat := let p := x * 4095 * 4096 / 2 ^ 37; (p / 4096, p % 4096)

/-- The shaped value of R188 as a fraction. -/
def shape (lut : Option (Nat → Nat)) (x : Nat) : Nat × Nat :=
  match lut with
  | none => (x, 2 ^ 37)
  | some e =>
    let (i, f) := lutIndex x
    let a : Int := e i
    let b : Int := e (min (i + 1) 4095)
    ((a * 4096 + f * (b - a)).toNat, 4096 * 65535)

/-- The drive value with 20 fraction bits, rounded to nearest with halves up (R189). -/
def drive20 (y : Nat × Nat) (tm gm : Nat) : Nat :=
  let n := y.1 * tm * gm * 2 ^ 20
  let d := y.2 * 2 ^ 24
  (2 * n + d) / (2 * d)

/-- The low 16 bits of a number in reverse order. -/
def bitReverse16 (t : Nat) : Nat := sumOf ((List.range 16).map (fun i => if t.testBit i then 2 ^ (15 - i) else 0))

/-- The dither of channel `ch` of lamp `i` of a tile in a frame, in 1/65,536 (R190). -/
def ditherOf (frame tile i ch : Nat) : Nat :=
  bitReverse16 ((frame % 65536 * 0x9E37 + tile * 0x03B9 + i * 0x02C5 + ch * 0x01B3) % 65536)

/-- The quantised value: `v` with 20 fraction bits, `b` bits, dither `d` in 1/65,536 (R190). -/
def quantise (v b d : Nat) : Nat := min (2 ^ b - 1) ((v * (2 ^ b - 1) * 65536 + d * 2 ^ 20) / 2 ^ 36)

/-! ### One lamp -/

/-- What a Boulevard reads for a tile in a frame. -/
structure TileCtx where
  t : TileRec
  l : LoutRec
  c : CanRec
  n : Word32
  z : TileSet
  gm : Nat

/-- The settings that govern a tile in frame `n`. -/
def State.tileWords (s : State) (t : Nat) (n : Word32) : List Word32 :=
  let act := [s.rd (Reg.blvTactMaster t), s.rd (Reg.blvTactWhite t), w32 (s.fld (Reg.blvTstatus t) 1 3)]
  ((s.hist.filter (fun h => frameLater h.frame n)).reverse.findSome? (fun h => h.tiles.find? t)).getD act

/-- The context of a tile in frame `n`. -/
def State.tileCtx (s : State) (t : TileRec) (c : CanRec) (n : Word32) : TileCtx :=
  { t := t, l := (s.asOf n).tileLayout t, c := c, n := n, z := TileSet.ofWords (s.tileWords t.id n),
    gm := s.fld (Reg.blvGmasterAct c.plaza) 0 16 }

/-- What became of a lamp: its channel values, whether it lay off the canvas, and whether it was poisoned. -/
structure LampOut where
  q : List Nat
  off : Bool := false
  poison : Bool := false
deriving DecidableEq, Repr

/-- The bytes of a set at an offset, and whether poison lies in them. -/
def State.readMark (s : State) (id off n : Nat) : List Byte × Bool :=
  match s.set? id with
  | some z => (s.readSet z off n, s.poisoned z off n)
  | none => (List.replicate n 0, false)

/-- One lamp processed (R181 to R191, R201). `s` is the state as it governs the frame. -/
def State.lamp (s : State) (x : TileCtx) (i : Nat) : LampOut :=
  let zero := List.replicate x.l.channels 0
  let pos := if x.l.kind == 1 then s.readMark x.l.posSet (8 * i) 8 else ([], false)
  if pos.2 then { q := zero, poison := true }
  else
    let q := lampPos x.t x.l (fun _ => (leAt pos.1 0 4, leAt pos.1 4 4)) i
    if q.off x.c then { q := zero, off := true }
    else
      let (px, total) := samplePixels x.t.sample x.c q
      let buf := x.n.toNat % 2 * (x.c.width * x.c.height * 8)
      let read := px.map (fun e => (e.2.2, s.readMark x.c.setId (buf + (e.2.1 * x.c.width + e.1) * 8) 8))
      let rgb := (List.range 3).map (fun k =>
        (2 * sumOf (read.map (fun e => e.1 * leAt e.2.1 (2 * k) 2)) + total) / (2 * total))
      let entry := s.readMark x.t.lctSet (x.z.lctBank * s.lctBank x.t.lctSet + s.lctOff x.t + 24 * i) 24
      let ch := channels x.l.channels x.z entry.1 rgb
      let lutOff := fun k => x.z.lutBank * 8192 + 2 * k
      let lutBad := x.t.lutSet != 0xFFFF && ch.any (fun v =>
        let k := (lutIndex v).1
        (s.readMark x.t.lutSet (lutOff k) 2).2 || (s.readMark x.t.lutSet (lutOff (min (k + 1) 4095)) 2).2)
      if read.any (·.2.2) || entry.2 || lutBad then { q := zero, poison := true }
      else
        let lut := if x.t.lutSet == 0xFFFF then none else some (fun k => leAt (s.readMark x.t.lutSet (lutOff k) 2).1 0 2)
        let b := fmtBits x.l.format
        { q := ch.zipIdx.map (fun e =>
            quantise (drive20 (shape lut e.1) x.z.master x.gm) b
              (if x.z.dither then ditherOf x.n.toNat x.t.id i e.2 else 32768)) }

/-! ### Packing (R191, R192) -/

/-- The bits of a value, most significant first. -/
def valueBits (b v : Nat) : List Bool := (List.range b).map (fun i => v.testBit (b - 1 - i))

/-- The packed bits of lamps in index order. -/
def lampBits (b : Nat) (l : List LampOut) : List Bool := l.flatMap (fun o => o.q.flatMap (valueBits b))

/-- Bytes of a bit stream, bit 7 first, the last padded with zero bits. -/
def packBits : Nat → List Bool → List Byte
  | 0, _ => []
  | n + 1, l => b8 (sumOf ((List.range 8).map (fun i => if l.getD i false then 2 ^ (7 - i) else 0))) :: packBits n (l.drop 8)

/-- Bytes of a bit stream. -/
def bitsOut (l : List Bool) : List Byte := packBits (ceilDiv l.length 8) l

/-- The bits of a byte, bit 7 first. -/
def byteBits (b : Byte) : List Bool := valueBits 8 b.toNat

/-- Lamps written into a slice's bytes at a bit offset: bits before it in the first byte stay, and so do bits after the
end in the last byte unless the slice ends there. -/
def State.putBits (s : State) (setId off bitOff : Nat) (bits : List Bool) (last : Bool) : State :=
  if bits.isEmpty then s
  else
    let a := off + bitOff / 8
    let head := (byteBits ((s.readSetId setId a 1).getD 0 0)).take (bitOff % 8)
    let n := head.length + bits.length
    let tail := if last || n % 8 == 0 then [] else
      (byteBits ((s.readSetId setId (a + n / 8) 1).getD 0 0)).drop (n % 8)
    s.writeSetId setId a (bitsOut (head ++ bits ++ tail))

/-- What the lamps of a tile leave in its status and the Boulevard's counters (R183, R201). -/
def State.noteLamps (s : State) (blv tile : Nat) (l : List LampOut) : State :=
  let k := Reg.blvTstatus tile
  let s := (s.count 5 blv 0 l.length).count 5 blv 3 l.length
  let s := if l.any (·.off) then s.setF k 18 1 1 else s
  let bad := (l.filter (·.poison)).length
  if bad == 0 then s
  else ((s.bump (Reg.blvBpoison blv) bad).count 5 blv 2 bad).setF k 17 1 1 |>.setErr k 0x06

/-- The lamps [a, b) of a tile processed. -/
def State.lamps (s : State) (x : TileCtx) (a b : Nat) : List LampOut := (List.range (b - a)).map (fun i => s.lamp x (a + i))

/-- The lamps of a run processed and written to the canvas's OUT_SET (R191, R192). -/
def State.processRun (s : State) (j : RunJob) : State :=
  let v := s.asOf j.n
  match v.pl.tile? j.tile with
  | none => s
  | some t =>
    match v.pl.canvas? t.plaza with
    | none => s
    | some c =>
      let x := { s.tileCtx t c j.n with l := v.tileLayout t }
      let per := max 1 (v.perSlice t.id)
      let a := j.k * runLamps
      let b := min x.l.lamps (a + runLamps)
      let outs := v.lamps x a b
      let bits := fmtBits x.l.format
      let s := (List.range (if b ≤ a then 0 else (b - 1) / per + 1 - a / per)).foldl (fun s n =>
        let i := a / per + n
        let lo := max a (i * per)
        let hi := min b (min x.l.lamps ((i + 1) * per))
        s.putBits c.outSet (v.sliceOffset t j.n i) ((lo - i * per) * x.l.channels * bits)
          (lampBits bits ((outs.drop (lo - a)).take (hi - lo))) (hi == min x.l.lamps ((i + 1) * per))) s
      s.noteLamps j.blv t.id outs

/-! ### Runs and frames (R193, R195, R197) -/

/-- Run `a` goes before run `b` on a Boulevard. -/
def RunJob.before (a b : RunJob) : Bool :=
  frameLater b.n a.n || (a.n == b.n && (a.tile < b.tile || (a.tile == b.tile && a.k < b.k)))

/-- Boulevard `b` takes its next eligible run when it has none. -/
def State.blvNext (s : State) (b : Nat) : State :=
  if (s.blv.cur.find? b).isSome then s
  else
    match (s.blv.todo.filter (·.blv == b)).foldl (fun (acc : Option RunJob) j =>
        match acc with | none => some j | some k => if j.before k then some j else acc) none with
    | none => s
    | some j => { s with blv := { s.blv with cur := s.blv.cur.set b j } }

/-- Every Boulevard takes its next run. -/
def State.blvAll (s : State) : State := (List.range 16).foldl State.blvNext s

/-- A frame `n` of cut-through canvas `c` is in progress with lamps of Boulevard `b`'s runs still to come: their rows are not
composed (R194). -/
def State.ctHolds (s : State) (runs : List BlvRun) (c : CanRec) (n : Word32) : Bool :=
  let z := s.pz c.plaza
  let v := s.asOf n
  z.composing && z.frame == n && runs.any (fun r =>
    (v.pl.tile? r.tile).any (fun t => t.plaza == c.plaza &&
      (List.range r.lamps).any (fun i => z.next ≤ needRow t (v.tileLayout t) c (r.k * runLamps + i))))

/-- BLV_BFRAME and BLV_BBUSY once a Boulevard has finished every run it holds for frame `n` (R193). -/
def State.blvFinish (s : State) (b : Nat) (n : Word32) : State :=
  let v := s.asOf n
  let runs := v.pl.runs.filter (fun r => r.blv == b && (v.pl.tile? r.tile).any (fun t => (v.canvas? t.plaza).isSome))
  let canvases := (runs.filterMap (fun r => (v.pl.tile? r.tile).bind (fun t => v.canvas? t.plaza))).eraseDups
  if s.blv.todo.any (fun j => j.blv == b && j.n == n) ||
      canvases.any (fun c => if c.cut then s.ctHolds runs c n else s.blv.frame.find? c.plaza != some n) then s
  else (s.wr (Reg.blvBframe b) n).wr (Reg.blvBbusy b) (w32 (sumOf (runs.map (·.lamps))))

/-- The sample point of a canvas for frame `n`: pending tile settings and the global master become active (R197, R198). -/
def State.samplePoint (s : State) (c : Nat) (n : Word32) : State :=
  let s := (s.pl.tiles.filter (·.plaza == c)).foldl (fun s t =>
    match s.blv.pend.find? t.id with
    | none => s
    | some w =>
      let s := { s with blv := { s.blv with pend := s.blv.pend.drop (· == t.id) } }
      let k := Reg.blvTstatus t.id
      (((s.wr (Reg.blvTactMaster t.id) (w.getD 0 0)).wr (Reg.blvTactWhite t.id) (w.getD 1 0)).setF k 1 3
        (field (w.getD 2 0) 0 3)).setF k 16 1 0 |>.wr (Reg.blvTapplied t.id) n) s
  if s.blv.gpend.get false c then
    let s := { s with blv := { s.blv with gpend := s.blv.gpend.drop (· == c) } }
    (s.wr (Reg.blvGmasterAct c) (s.rd (Reg.blvGmaster c))).wr (Reg.blvGapplied c) n
  else s

/-- Runs of canvas `c` for earlier frames are abandoned (R195). -/
def State.abandonRuns (s : State) (c : Nat) : State :=
  let old := s.blv.todo.filter (·.plaza == c)
  if old.isEmpty then s
  else
    let s := { s with blv := { s.blv with todo := s.blv.todo.filter (·.plaza != c), cur := s.blv.cur.filter (·.2.plaza != c) } }
    let s := ((old.map (·.blv)).eraseDups).foldl (fun s b => (s.bump (Reg.blvBlate b)).count 5 b 1) s
    ((old.map (fun j => (j.tile, j.n))).eraseDups).foldl (fun s e =>
      match (s.asOf e.2).pl.tile? e.1 with
      | some t => s.tileBad t e.2
      | none => s) s

/-- A framed canvas is complete for frame `n`: its sample point, and its runs become eligible (R193, R195, R197). -/
def State.handCanvas (s : State) (c : Nat) (n : Word32) : State :=
  let s := (s.abandonRuns c).samplePoint c n
  let runs := (s.pl.runs.filter (fun r => (s.pl.tile? r.tile).any (·.plaza == c))).map (fun r =>
    ({ n := n, tile := r.tile, k := r.k, blv := r.blv, plaza := c } : RunJob))
  let s := { s with blv := { s.blv with frame := s.blv.frame.set c n, todo := s.blv.todo ++ runs } }
  s.blvAll

/-- A Boulevard's run in hand is finished: its last byte is written; the tile may be ready and the Boulevard done with
the frame (R193). -/
def State.runDone (s : State) (j : RunJob) : State :=
  let s := s.processRun j
  let s := { s with blv := { s.blv with todo := s.blv.todo.filter (· != j), cur := s.blv.cur.drop (· == j.blv) } }
  let s := if s.blv.todo.any (fun r => r.tile == j.tile && r.n == j.n) then s
    else match (s.asOf j.n).pl.tile? j.tile with
      | some t => s.tileReady t j.n
      | none => s
  (s.blvFinish j.blv j.n).blvNext j.blv

/-- BLV_RUN_DONE: a Boulevard finishes the run it is processing (R193). -/
def execBlvRunDone (boulevard : Fin 16) (tile : Fin 4096) (run : Nat) (s : State) : Host.Outcome State Fault Refusal :=
  let s := s.begin
  .next (match s.blv.cur.find? boulevard.val with
    | some j => if s.plazaOn && j.tile == tile.val && j.k == run then s.runDone j else s
    | none => s)

/-! ### Settings (R196, R198, R202) -/

/-- A tile's shadow words. -/
def State.tileShadow (s : State) (t : Nat) : List Word32 :=
  [s.rd (Reg.blvTmaster t), s.rd (Reg.blvTwhite t), s.rd (Reg.blvTsel t)]

/-- The code that refuses a tile commit, 0 when it passes (R196). -/
def State.tileCommitCode (s : State) (t : TileRec) : Nat :=
  let z := TileSet.ofWords (s.tileShadow t.id)
  if (s.canvas? t.plaza).isNone then 0x04
  else if z.master > 0x1000 || z.wgain > 0x1000 || z.wsub > 0x1000 then 0x03
  else if z.lctBank == 1 && !s.lctTwo t then 0x01
  else if z.lutBank == 1 && !s.lutTwo t then 0x02
  else 0

/-- A commit of a tile's shadow settings (R196). -/
def State.tileCommit (s : State) (t : TileRec) : State :=
  let k := Reg.blvTstatus t.id
  let c := s.tileCommitCode t
  if c != 0 then s.setErr k c
  else ({ s with blv := { s.blv with pend := s.blv.pend.set t.id (s.tileShadow t.id) } }.setF k 16 1 1).setErr k 0

/-- A host may reach a tile or master of a canvas of its own district, the house district every one (R202). -/
def State.blvMay (s : State) (d plaza : Nat) : Bool := d == houseDist || (s.pl.canvas? plaza).any (·.dist == d)

/-- BLV_TCOMMIT: a write of 1 checks and copies the tile's shadow settings (R196, R202). -/
def execBlvTcommit (init : InitId) (tile : Fin 4096) (value : Word32) (s : State) : Host.Outcome State Fault Refusal :=
  .next (s.begin.access init 5 (fun s =>
    match s.pl.tile? tile.val with
    | none => s
    | some t =>
      if !s.blvMay (distOf init) t.plaza then s.setErr (Reg.blvTstatus t.id) 0x05
      else if value.getLsbD 0 then s.tileCommit t else s))

/-- The access of another district to a canvas's global master is noted in its lowest-numbered tile (R202). -/
def State.masterDenied (s : State) (c : Nat) : State :=
  match s.pl.tiles.find? (·.plaza == c) with
  | some t => s.setErr (Reg.blvTstatus t.id) 0x05
  | none => s

/-- BLV_GMASTER_WRITE: a write sets the canvas's global master from its next sample point; a value above 0x1000 is
ignored (R198, R202). -/
def execBlvGmasterWrite (init : InitId) (canvas : Fin 4) (value : Word32) (s : State) : Host.Outcome State Fault Refusal :=
  .next (s.begin.access init 5 (fun s =>
    let c := canvas.val
    if !s.blvMay (distOf init) c then s.masterDenied c
    else if field value 0 16 > 0x1000 then s
    else
      let s := s.wr (Reg.blvGmaster c) (w32 (field value 0 16))
      { s with blv := { s.blv with gpend := s.blv.gpend.set c true } }))

/-! ### Applies (R110, R200) -/

/-- A tile's settings in all three copies (R200). -/
def State.loadTile (s : State) (t : TileRec) (n : Word32) : State :=
  let k := Reg.blvTstatus t.id
  let white := pack [(16, 0x1000), (0, 0x1000)]
  let sel := w32 (4 * bit (t.dither != 0))
  let s := { s with blv := { s.blv with pend := s.blv.pend.drop (· == t.id) } }
  let s := ((s.wr (Reg.blvTmaster t.id) (w32 t.master)).wr (Reg.blvTwhite t.id) white).wr (Reg.blvTsel t.id) sel
  let s := ((s.wr (Reg.blvTactMaster t.id) (w32 t.master)).wr (Reg.blvTactWhite t.id) white).setF k 1 3 sel.toNat
  (s.setF k 16 1 0).wr (Reg.blvTapplied t.id) n

/-- The read-only registers of a defined tile, from the plan in force. -/
def State.showTile (s : State) (t : TileRec) (runs : List BlvRun) : State :=
  let k := Reg.blvTstatus t.id
  let cut := (s.pl.canvas? t.plaza).any (·.cut)
  let mine := runs.filter (·.tile == t.id)
  let nib := fun lo => pack ((mine.filter (fun r => lo ≤ r.k && r.k < lo + 8)).map (fun r => (4 * (r.k - lo), r.blv)))
  let s := ((s.setF k 19 5 mine.length).setF k 7 1 (bit (s.lutTwo t))).setF k 6 1 (bit (s.lctTwo t))
  let s := ((s.setF k 5 1 (bit (t.lutSet == 0xFFFF))).setF k 4 1 (bit cut)).setF k 0 1 (bit (s.canvas? t.plaza).isSome)
  let s := (s.wr (Reg.blvTlctoff t.id) (w32 (s.lctOff t))).wr (Reg.blvTlctbank t.id) (w32 (s.lctBank t.lctSet))
  let s := (s.wr (Reg.blvToutoff t.id) (if cut then 0xFFFFFFFF else w32 (s.outOffset t))).wr (Reg.blvToutbuf t.id)
    (if cut then 0 else w32 (s.outSize t.plaza))
  (s.wr (Reg.blvTrunsLo t.id) (nib 0)).wr (Reg.blvTrunsHi t.id) (nib 8)

/-- The registers of every Boulevard and tile that come from the plan (R110, R185, R192). -/
def State.showBoulevards (s : State) : State :=
  let runs := s.pl.runs
  let s := (List.range 16).foldl (fun s b =>
    let mine := runs.filter (·.blv == b)
    (s.wr (Reg.blvBload b) (w32 (sumOf (mine.map (·.lamps))))).wr (Reg.blvBruns b) (w32 mine.length)) s
  s.pl.tiles.foldl (fun s t => s.showTile t runs) s

/-- The key of a register of a tile. -/
def isTileKey (t k : Nat) : Bool := 0x510000 + t * 0x40 ≤ k && k < 0x510000 + (t + 1) * 0x40

/-- A full apply that takes effect at the boundary that begins frame `n` (R200). What a defined tile's status has recorded
stays. -/
def State.loadBoulevardsFull (s : State) (n : Word32) : State :=
  let s := { s with blv := {}, hist := [], regs := s.regs.drop (fun k =>
    0x510000 ≤ k && k < 0x550000 && (s.pl.tile? ((k - 0x510000) / 0x40)).isNone) }
  let s := s.pl.tiles.foldl (fun s t => s.loadTile t n) s
  let s := (List.range 4).foldl (fun s c =>
    ((s.wr (Reg.blvGmaster c) 0x1000).wr (Reg.blvGmasterAct c) 0x1000).wr (Reg.blvGapplied c) n) s
  s.showBoulevards

/-- A live apply from the plan `old`: tiles of touched canvas `c` whose record is new or differs are loaded, and every
tile of it drops its pending copy with code 0x07 (R200). `n` is the frame the plan first governs. -/
def State.loadBoulevardLive (s : State) (old : Plan) (c : Nat) (n : Word32) : State :=
  let gone := old.tiles.filter (fun t => (s.pl.tile? t.id).isNone)
  let s := gone.foldl (fun s t => { s with regs := s.regs.drop (isTileKey t.id),
                                           blv := { s.blv with pend := s.blv.pend.drop (· == t.id) } }) s
  (s.pl.tiles.filter (·.plaza == c)).foldl (fun s t =>
    let k := Reg.blvTstatus t.id
    let s := if (s.blv.pend.find? t.id).isSome then
        ({ s with blv := { s.blv with pend := s.blv.pend.drop (· == t.id) } }.setF k 16 1 0).setErr k 0x07
      else s
    if old.tile? t.id == some t then s else s.loadTile t n) s

end Sys2Proof.Machine
end

