-- ==== Sys2Proof/Machine/Canvas.lean ====
section
/-! DEFINITION. Canvas frames from composition to the Avenues: rows composed in framed and in line cut-through egress
(R157, R158, R194), frame starts of cut-through canvases (R212) and the delivery of their slices (R213, R215). -/

namespace Sys2Proof.Machine

/-! ### Line cut-through -/

/-- The reference input of a cut-through canvas: that of its lowest-numbered enabled layer (R212). -/
def State.refInput (s : State) (p : Nat) : Option Nat :=
  ((List.range 16).find? (fun l => s.layOn p l)).map (fun l => (Lay.ofWords (s.layActive p l)).inId)

/-- Canvas frame `n` of a cut-through canvas begins now (R205, R212): its sample point, and its tiles' jobs. -/
def State.ctBegin (s : State) (c : CanRec) (n : Word32) : State :=
  let p := c.plaza
  let s := (s.beginCanvas p c n).samplePoint p n
  let s := s.setPres p n (s.ptpNow + c.presDelay)
  let s := s.setF (Reg.aveCstatus p) 0 3 (if (s.avc p).mark then 3 else 1)
  let s := s.setAvc p { s.avc p with prev := some n, mark := false }
  -- begun after the entry into Active or the release of a blackout (R211, R236)
  if !s.active || s.black then s
  else (s.pl.tiles.filter (fun t => t.plaza == p && s.tileSlices t > 0)).foldl (fun s t =>
    let s := s.expect t.port n [t.id]
    let x := s.av t.port
    s.setAv t.port { x with jobs := x.jobs ++ [{ tile := t.id, n := n, cut := true, total := s.tileSlices t }] }) s

/-- A frame start of the reference input of a cut-through canvas (R212). -/
def State.ctStart (s : State) (c : CanRec) : State :=
  let p := c.plaza
  if !s.plazaOn || (s.pz p).gap then s
  else
    let k := s.frame
    match (s.avc p).prev with
    | none => s.ctBegin c k
    | some v =>
      let n := if frameLater (v + 1) k then v + 1 else k
      if frameLater n (k + 1) then
        ((s.setPz p { s.pz p with composing := false }).setAvc p { s.avc p with mark := true }).ctSlip p 1
      else
        let lost := if frameLater k (v + 1) then (k - (v + 1)).toNat else 0
        let s := s.ctBegin c n
        if lost == 0 then s else s.ctSlip p lost

/-- Frame starts of inputs noted by ingress begin frames of the cut-through canvases they are the reference of. -/
def State.ctStarts (s : State) (i : Nat) : State :=
  if !(s.inp i).fresh then s
  else
    let s := s.setInp i { s.inp i with fresh := false }
    (List.range 4).foldl (fun s p =>
      match s.canvas? p with
      | some c => if c.cut && s.refInput p == some i then s.ctStart c else s
      | none => s) s

/-- INGRESS_PACKET: a packet for a network input is checked and written into the input's frame buffer; the first of a frame
starts a frame of a cut-through canvas (R134 to R141, R212). -/
def execIngressPacket (port : Fin 64) (bytes : List Byte) (room : Room) (s : State) : Host.Outcome State Fault Refusal :=
  let s := s.begin
  .next (match s.inputOf port.val bytes with
    | some r => (s.ingPacket port.val bytes room).ctStarts r.id
    | none => s)

/-- A slice of a cut-through tile reaches the Avenue: held until it may start, or dropped where the slice buffer cannot
hold it (R213, R215). -/
def State.ctDeliver (s : State) (t : TileRec) (n : Word32) (i : Nat) (bytes : List Byte) : State :=
  let p := t.port
  let x := s.av p
  match x.jobs.find? (fun j => j.cut && j.tile == t.id && j.n == n) with
  | none => s
  | some j =>
    if x.occupied + bytes.length > sliceBuffer then
      let d := j.dropped ++ [i]
      let j' := { j with dropped := d, next := nextIndex d d.length j.next }
      let s := (s.putJob p j' true).incomplete p t.id n 0x03 j.sent
      if j'.next ≥ j'.limit && j'.held.isEmpty then (s.putJob p j' false).tileDone p t.id n true 0 else s
    else s.putJob p { j with held := j.held ++ [{ i := i, bytes := bytes, at_ := s.now, go := false }] } true

/-- The slices of a tile whose lamps' last row is `y`, processed by its Boulevard as the plan that governs the frame assigns
it, and passed to the Avenue (R110, R194). -/
def State.ctTile (s : State) (c : CanRec) (n : Word32) (y : Nat) (t : TileRec) : State :=
  let v := s.asOf n
  let x := s.tileCtx t c n
  let per := max 1 (v.perSlice t.id)
  let rows := (List.range x.l.lamps).map (fun i => needRow t x.l c i)
  (List.range (v.tileSlices t)).foldl (fun s i =>
    let lo := i * per
    let hi := min x.l.lamps (lo + per)
    if maxOf ((rows.drop lo).take (hi - lo)) != y then s
    else
      let outs := (s.asOf n).lamps x lo hi
      let blv := ((v.pl.runs.find? (fun r => r.tile == t.id && r.k == lo / runLamps)).map (·.blv)).getD 0
      (s.noteLamps blv t.id outs).ctDeliver t n i (bitsOut (lampBits (fmtBits x.l.format) outs))) s

/-- The Boulevards that finish their last lamp of a cut-through frame with row `y` show it (R193). -/
def State.ctFinish (s : State) (c : CanRec) (n : Word32) (y : Nat) : State :=
  let v := s.asOf n
  let mine := v.pl.runs.filter (fun r => (v.pl.tile? r.tile).any (fun t => t.plaza == c.plaza &&
    (List.range r.lamps).any (fun i => needRow t (v.tileLayout t) c (r.k * runLamps + i) == y)))
  ((mine.map (·.blv)).eraseDups).foldl (fun s b => s.blvFinish b n) s

/-! ### Rows and frames -/

/-- CANVAS_ROW_COMPOSE: the Plaza composes the next row of the frame in progress (R157, R158). PLZ_DONE takes the number of a cut-through frame with its
last row; its source rows must have come, and the Boulevards process the lamps that needed the row (R194). -/
def execCanvasRowCompose (plaza : Fin 4) (row : Nat) (late : List (Fin 16 × Nat)) (wbFull : Bool) (s : State) :
    Host.Outcome State Fault Refusal :=
  let s := s.begin
  let p := plaza.val
  .next (match s.canvas? p with
    | none => s
    | some c =>
      let z := s.pz p
      if !s.plazaOn || !z.composing || row != z.next || row ≥ c.height then s
      else if !c.cut then s.composeRow p c row late wbFull
      else if !s.sourceReady p c row (late.map (fun e => e.1.val)) then s
      else
        let n := z.frame
        let s := s.composeRow p c row late wbFull
        let s := ((s.asOf n).pl.tiles.filter (·.plaza == p)).foldl (fun s t => s.ctTile c n row t) s
        let s := s.ctFinish c n row
        if row + 1 == c.height then ((s.setPz p { s.pz p with composing := false }).wr (Reg.plzDone p) n).count 4 p 0 else s)

/-- CANVAS_COMPLETE: a framed canvas's last row has been written; PLZ_DONE takes the frame number, unfinished runs of the
last frame are abandoned, and the runs of this one become eligible (R158, R193, R195, R197). -/
def execCanvasComplete (plaza : Fin 4) (s : State) : Host.Outcome State Fault Refusal :=
  let s := s.begin
  let p := plaza.val
  .next (match s.canvas? p with
    | none => s
    | some c =>
      let z := s.pz p
      if !s.plazaOn || c.cut || !z.composing || z.next != c.height then s
      else
        let s := ((s.setPz p { z with composing := false }).wr (Reg.plzDone p) z.frame).count 4 p 0
        s.handCanvas p z.frame)

end Sys2Proof.Machine
end

