-- ==== Sys2Proof/Machine/Clocktower.lean ====
section
/-! DEFINITION. The Clocktower (R289 to R307): increment, slew and step, its states, the frame tick, linear timecode and
the latching reads. -/

namespace Sys2Proof.Machine

/-- The state with Clocktower data replaced by a function of it. -/
def State.clk (s : State) (f : CltState → CltState) : State := { s with clt := f s.clt }
/-- CLT_STATUS.ERR. -/
def State.cltErr (s : State) (c : Nat) : State := s.setErr Reg.cltStatus c
/-- A write to a CLT register: only the house district writes (R306). -/
def State.cltWrite (s : State) (init : InitId) (f : State → State) : State :=
  s.access init 9 (fun s => if isHouse init then f s else s)

/-- CLT_STATUS.STATE: 0 FREE, 1 ACQUIRING, 2 LOCKED, 3 HOLDOVER, 4 DEGRADED. -/
def State.cltSt (s : State) : Nat := s.fld Reg.cltStatus 0 3
/-- HAVE_TIME. -/
def State.haveTime (s : State) : Bool := s.bitOf Reg.cltStatus 7

/-- The Clocktower enters a state: the CLT event of every district granted CLT (R299). -/
def State.cltEnter (s : State) (st : Nat) : State :=
  let s := (s.setF Reg.cltStatus 0 3 st).count 9 0 3
  [0, 1, 2, 3, 7].foldl (fun s d => if s.granted d 9 then s.raise d 8 9 else s) s

/-- The fields of `n` units as the read-only copies of the counter. -/
def State.cltShow (s : State) : State :=
  s.setF Reg.cltStatus 6 1 (bit (s.clt.slew != 0))

/-! ### Increment, slew, step (R290 to R293) -/

/-- Bounds of the increment in units: ±100 ppm of nominal (R290). -/
def incrMin : Nat := 2 * 2 ^ 32 + 0x7FEF9DB3
/-- Upper bound of the increment. -/
def incrMax : Nat := 2 * 2 ^ 32 + 0x8010624D

/-- The TICK cycle that the ROOT time lies in: 24 ROOT cycles each (R15). -/
def State.tickNo (s : State) : Nat := s.now / 24

/-- The increment written (R290). -/
def State.setIncr (s : State) (hi lo : Word32) : State :=
  let v := field hi 0 8 * 2 ^ 32 + lo.toNat
  if v < incrMin || v > incrMax then s.cltErr 0x01
  else ((s.wr Reg.cltIncrLo lo).wr Reg.cltIncrHi (hi &&& 0xFF)).cltErr 0

/-- CLT_INCR_WRITE: a write of CLT_INCR_LO with the staged half (R290, R24). -/
def execCltIncrWrite (init : InitId) (value : Word32) (s : State) : Host.Outcome State Fault Refusal :=
  .next (s.begin.cltWrite init (fun s => s.setIncr (s.hiStage.get 0 (initKey init Reg.cltIncrLo)) value))

/-- A slew of `a` ns (R291); one in the TICK cycle of a step is discarded (R293). -/
def State.slewBy (s : State) (a : Int) : State :=
  if s.clt.stepAt == some s.tickNo then s.cltErr 0x04
  else if a.natAbs > 1000000 then s.cltErr 0x02
  else ((s.clk (fun c => { c with slew := a * 4294967296, adjAt := some s.tickNo })).cltShow).cltErr 0

/-- SLEW_START: a write to CLT_ADJ starts, replaces or cancels a slew (R291). -/
def execSlewStart (init : InitId) (value : Word32) (s : State) : Host.Outcome State Fault Refusal :=
  .next (s.begin.cltWrite init (fun s => s.slewBy (signed 32 value.toNat)))

/-- SLEW_DONE: the slew's remainder is used up (R291). -/
def execSlewDone (s : State) : Host.Outcome State Fault Refusal :=
  let s := s.begin
  .next (if s.clt.slew == 0 || s.mode.mode == .reset then s
    else (s.passTicks (ceilDiv s.clt.slew.natAbs slewStep)).cltShow)

/-- LTC words begin anew at the next qualifying grid point from here on (R304). -/
def State.ltcFrom (s : State) : State := s.clk (fun c => { c with ltcMin := s.gridFrom s.clt.units })

/-- A step of the counter to a value in units: it cancels the slew, and an armed tick takes a new grid point (R292, R302).
A slew write of the same TICK cycle is discarded with code 0x04 (R293). A running LTC output re-times its word (R304). -/
def State.stepTo (s : State) (units : Nat) : State :=
  let lost := s.clt.adjAt == some s.tickNo
  let s := s.clk (fun c => { c.setUnits (units % (2 ^ 48 * secUnits)) with slew := 0, stepAt := some s.tickNo, adjAt := none })
  let s := if s.clt.armed.isSome then s.clk (fun c => { c with armed := some (s.gridFrom s.clt.units), off := s.foffset }) else s
  let s := if s.clt.ltcK.isSome then s.setF Reg.cltStatus 8 1 1 else s
  (s.ltcFrom.cltShow.cltErr (if lost then 0x04 else 0)).count 9 0 2

/-- A step by a signed number of nanoseconds, modulo the counter's range. -/
def State.stepAdd (s : State) (a : Int) : State :=
  s.stepTo (((s.clt.units : Int) + a * 4294967296) % ((2 ^ 48 * secUnits : Nat) : Int)).toNat

/-- CLT_STEP_ADD: CLT_STEP_CTL MODE 1 adds the staged signed offset (R292). -/
def execCltStepAdd (init : InitId) (key : BitVec 16) (s : State) : Host.Outcome State Fault Refusal :=
  .next (s.begin.cltWrite init (fun s =>
    if key != 0x57E9 then s.cltErr 0x03
    else s.stepAdd (signed 32 (s.rd (initKey init Reg.cltStepNs)).toNat)))

/-- CLT_STEP_SET: CLT_STEP_CTL MODE 2 sets the counter to the staged time (R292). -/
def execCltStepSet (init : InitId) (key : BitVec 16) (s : State) : Host.Outcome State Fault Refusal :=
  .next (s.begin.cltWrite init (fun s =>
    let ns := (s.rd (initKey init Reg.cltStepNs)).toNat
    let sec := s.fld (initKey init Reg.cltStepSecHi) 0 16 * 2 ^ 32 + (s.rd (initKey init Reg.cltStepSecLo)).toNat
    if key != 0x57E9 then s.cltErr 0x03
    else if ns > 999999999 then s.cltErr 0x05
    else s.stepTo (sec * secUnits + ns * 2 ^ 32)))

/-! ### The frame tick (R301 to R303) -/

/-- The tick that begins the next frame is raised: CLT_FRAME advances by 1 and T is the grid point (R302, R303). -/
def State.raiseTick (s : State) : State :=
  let s := s.toTick
  let k := s.clt.armed.getD 0
  let t := s.armedNs k
  let jump := match s.clt.lastK with | some j => k != j + 1 | none => false
  let s := s.clk (fun c => { c with elapsed := 0, armed := none, lastK := some k })
  let s := s.wr Reg.cltFrame (s.frame + 1)
  let s := s.wr Reg.cltFtNs (w32 (t % 1000000000))
  let s := (s.wr Reg.cltFtSecLo (w32 (t / 1000000000))).wr Reg.cltFtSecHi (w32 (t / 1000000000 / 2 ^ 32))
  let s := s.count 9 0 0
  if jump then (s.bump Reg.cltFdisc).count 9 0 1 else s

/-! ### Linear timecode (R304, R305) -/

/-- The LTC rates in the order of CLT_LTC_CFG.RATE: code, numerator, denominator. -/
def ltcRates : List (Nat × Nat × Nat) := [(1, 24, 1), (2, 25, 1), (3, 30000, 1001), (4, 30, 1), (5, 24000, 1001)]

/-- The rate code, M and the rate of the LTC output for a frame rate (R304). -/
def ltcRate (n d : Nat) : Option (Nat × Nat × Nat × Nat) :=
  (List.range 400).findSome? (fun i =>
    (ltcRates.find? (fun r => n * r.2.2 == r.2.1 * d * (i + 1))).map (fun r => (r.1, i + 1, r.2.1, r.2.2)))

/-- The LTC output runs: enabled, in Standby, Active or Maintenance (R304). -/
def State.ltcOn (s : State) : Bool :=
  s.bitOf Reg.cltLtcCfg 0 && (s.mode.mode == .standby || s.mode.mode == .active || s.mode.mode == .maintenance)

/-- CLT_LTC_CFG.RATE in line with the frame rate, and the output idle while it does not run; the first word of a run begins
at the next qualifying grid point (R304). -/
def State.ltcShow (s : State) : State :=
  let (n, d) := s.frameRate
  let idle := fun (s : State) => s.clk (fun c => { c with ltcK := none })
  let s := if s.clt.ltcK.isNone then s.ltcFrom else s
  if !s.bitOf Reg.cltLtcCfg 0 then idle (s.setF Reg.cltLtcCfg 4 3 0)
  else match ltcRate n d with
    | some r =>
      let s := s.setF Reg.cltLtcCfg 4 3 r.1
      if s.ltcOn then s else idle s
    | none => (idle (s.setF Reg.cltLtcCfg 4 3 0)).cltErr 0x06

/-- Local time at a grid point, exact, in units of 2^-32 ns divided by N: PTP seconds less CLT_UTCOFF, plus 900 × TZ
(R304). -/
def State.localTime (s : State) (k : Int) : Int :=
  s.gridTimesN k + (900 * signed 8 (s.fld Reg.cltLtcCfg 8 8) - signed 16 (s.fld Reg.cltUtcoff 0 16)) *
    ((secUnits * s.frameRate.1 : Nat) : Int)

/-- Drop-frame label of frame `f` of a day at 30,000/1,001, as hours, minutes, seconds, frames. -/
def dropLabel (f : Nat) : Nat × Nat × Nat × Nat :=
  let f := f % 2589408
  let d := f / 17982
  let m := f % 17982
  let f := f + 18 * d + (if m < 2 then 0 else 2 * ((m - 2) / 1798))
  (f / 108000 % 24, f / 1800 % 60, f / 30 % 60, f % 30)

/-- Non-drop label of frame `f` of a day at `r` frames per second. -/
def plainLabel (r f : Nat) : Nat × Nat × Nat × Nat :=
  let f := f % (86400 * r)
  (f / (3600 * r), f / (60 * r) % 60, f / r % 60, f % r)

/-- The label of the LTC frame that begins at grid point `k` (R304). -/
def State.ltcLabel (s : State) (code num den : Nat) (k : Int) : Nat × Nat × Nat × Nat :=
  let sec := secUnits * s.frameRate.1
  let loc := s.localTime k
  if den == 1 then
    let day := (loc % ((86400 * sec : Nat) : Int)).toNat
    plainLabel num (day / sec * num + day % sec * num / sec)
  else
    let jam := s.fld Reg.cltLtcJam 0 17
    let since := ((loc - ((jam * sec : Nat) : Int)) % ((86400 * sec : Nat) : Int)).toNat
    -- the LTC frames that began since the day's jam, the first of them at or after it
    let count := since * num / (den * sec)
    if code == 3 then dropLabel (jam * 30000 / 1001 + count) else plainLabel 24 (jam * 24 + count)

/-- Two BCD digits. -/
def bcd (n : Nat) : Nat := n / 10 * 16 + n % 10

/-- The 80 bits of an LTC word, first bit first (SMPTE ST 12-1): user bits 0, polarity correction in bit 27, or 59 at 25. -/
def ltcBits (code : Nat) (l : Nat × Nat × Nat × Nat) : List Bool :=
  let bits := fun (n w : Nat) => (List.range w).map (fun i => n.testBit i)
  let (h, m, sec, f) := l
  let zero4 := bits 0 4
  let mk := fun (b27 b59 : Bool) =>
    bits (f % 10) 4 ++ zero4 ++ bits (f / 10) 2 ++ [code == 3, false] ++ zero4 ++
    bits (sec % 10) 4 ++ zero4 ++ bits (sec / 10) 3 ++ [b27] ++ zero4 ++
    bits (m % 10) 4 ++ zero4 ++ bits (m / 10) 3 ++ [false] ++ zero4 ++
    bits (h % 10) 4 ++ zero4 ++ bits (h / 10) 2 ++ [false, b59] ++ zero4 ++
    [false, false, true, true, true, true, true, true, true, true, true, true, true, true, false, true]
  let odd := ((mk false false).filter (!·)).length % 2 == 1
  if code == 2 then mk false odd else mk odd false

/-- Bits packed into bytes, the first bit lowest. -/
def bitsToBytes : List Bool → List Byte
  | a :: b :: c :: d :: e :: f :: g :: h :: t =>
    b8 (bit a + 2 * bit b + 4 * bit c + 8 * bit d + 16 * bit e + 32 * bit f + 64 * bit g + 128 * bit h) :: bitsToBytes t
  | _ => []

/-- The grid index of the next LTC word: the grid point that the counter has passed last if it qualifies and no word has
begun there, else the next qualifying one (R304). -/
def State.ltcNextK (s : State) (m : Nat) : Int :=
  let c := s.gridFrom (s.clt.units + 1) - 1
  if c % (m : Int) == 0 && c ≥ s.clt.ltcMin then c
  else
    let k := if c + 1 ≥ s.clt.ltcMin then c + 1 else s.clt.ltcMin
    Int.neg ((-k) / (m : Int)) * (m : Int)

/-- LTC_WORD_START: an LTC output word begins at a qualifying grid point (R304). -/
def execLtcWordStart (s : State) : Host.Outcome State Fault Refusal :=
  let s := s.begin
  let (n, d) := s.frameRate
  match ltcRate n d with
  | some (code, m, num, den) =>
    if !s.ltcOn then .next s
    else
      let k := s.ltcNextK m
      let s := s.passTicks (s.cyclesTo (Int.neg ((-(s.gridTimesN k)) / (n : Int))).toNat)
      let l := s.ltcLabel code num den k
      let s := s.clk (fun c => { c with ltcK := some k, ltcMin := k + 1 })
      let s := s.wr Reg.cltLtcOut (pack [(24, bcd l.1), (16, bcd l.2.1), (8, bcd l.2.2.1), (0, bcd l.2.2.2)])
      .next (s.emit (.ltc (bitsToBytes (ltcBits code l))))
  | none => .next s

/-- The rate of a measured word period in nanoseconds, as CLT_LTCIN_STAT codes it: the nearest of 24, 25, 29.97 and 30 frames
per second (R305; DESIGN CHOICE, log 246). -/
def ltcInRate (period : Nat) : Nat :=
  if 2 * period > 41666667 + 40000000 then 1
  else if 2 * period > 40000000 + 33366667 then 2
  else if 2 * period > 33366667 + 33333333 then 3 else 4

/-- LTC_INPUT_WORD: a complete word is decoded and latched with the counter time; its rate is that of the measured word
period (R305). -/
def execLtcInputWord (word : BitVec 80) (period : Nat) (s : State) : Host.Outcome State Fault Refusal :=
  let s := s.begin
  if s.mode.mode == .reset then .next s
  else
    let v := word.toNat
    let f := fun lo w => v / 2 ^ lo % 2 ^ w
    let tc := pack [(28, f 56 2), (24, f 48 4), (20, f 40 3), (16, f 32 4), (12, f 24 3), (8, f 16 4), (4, f 8 2), (0, f 0 4)]
    let ub := pack [(28, f 60 4), (24, f 52 4), (20, f 44 4), (16, f 36 4), (12, f 28 4), (8, f 20 4), (4, f 12 4), (0, f 4 4)]
    let s := (s.wr Reg.cltLtcin tc).wr Reg.cltLtcinUb ub
    let s := s.wr Reg.cltLtcinStat (pack [(31, 1), (4, f 10 1), (0, ltcInRate period)])
    let s := (s.wr Reg.cltLtcinTns (w32 s.clt.ns)).wr Reg.cltLtcinTsec (w32 s.clt.sec)
    .next (s.clk (fun c => { c with ltcIn := s.now }))

/-- LTC_INPUT_TIMEOUT: no complete word for 200 ms (R305). -/
def execLtcInputTimeout (s : State) : Host.Outcome State Fault Refusal :=
  let s := s.begin
  .next (if s.bitOf Reg.cltLtcinStat 31 then (s.at_ (s.clt.ltcIn + msRoot 200)).setF Reg.cltLtcinStat 31 1 0 else s)

/-! ### Latching reads (R306) -/

/-- What an initiator's latching read returns and the words it latches, by register. -/
def State.cltLatch (s : State) (which : Fin 3) : Nat × Word32 × List (Nat × Word32) :=
  if which.val == 0 then
    (Reg.cltTns, w32 s.clt.ns,
      [(Reg.cltTsecLo, w32 s.clt.sec), (Reg.cltTsecHi, w32 (s.clt.sec / 2 ^ 32)), (Reg.cltTfrac, w32 s.clt.frac)])
  else if which.val == 1 then
    (Reg.cltFtNs, s.rd Reg.cltFtNs,
      [(Reg.cltFtSecLo, s.rd Reg.cltFtSecLo), (Reg.cltFtSecHi, s.rd Reg.cltFtSecHi), (Reg.cltFrame, s.rd Reg.cltFrame)])
  else (Reg.cltLtcinTns, s.rd Reg.cltLtcinTns, [(Reg.cltLtcinTsec, s.rd Reg.cltLtcinTsec)])

/-- CLT_LATCHING_READ: a read of CLT_TNS (0), CLT_FT_NS (1) or CLT_LTCIN_TNS (2) latches its companions for the initiator. -/
def execCltLatchingRead (init : InitId) (which : Fin 3) (s : State) : Host.Outcome State Fault Refusal :=
  .next (s.begin.access init 9 (write := false) (fun s =>
    let (_, v, ls) := s.cltLatch which
    let s := ls.foldl (fun s e => { s with hiLatch := s.hiLatch.set (initKey init e.1) e.2 }) s
    s.reply (.word v)))

end Sys2Proof.Machine
end

