-- ==== Sys2Proof/Machine/Queues.lean ====
section
/-! DEFINITION. The Queue Bank and the mailboxes (R352 to R371): lanes with guarded pointers, posting, popping, marks, the
submission windows, the messages of the mailbox pairs and firmware's answers to them. -/

namespace Sys2Proof.Machine

/-! ### Lanes -/

/-- Entries per lane of a queue (R352). -/
def laneSize (q : Nat) : Nat :=
  if q < 0x08 then 64 else if q < 0x10 then 32 else if q < 0x40 then 16 else 256

/-- Lanes of a queue (R352). -/
def laneCount (q : Nat) : Nat := if q < 0x10 then 8 else 1

/-- The key of lane `l` of queue `q`. -/
def laneKey (q l : Nat) : Nat := 8 * q + l

/-- Lane `l` of queue `q`. -/
def State.lane (s : State) (q l : Nat) : Lane := s.que.lanes.get {} (laneKey q l)
/-- The state with a lane replaced. -/
def State.setLane (s : State) (q l : Nat) (x : Lane) : State :=
  { s with que := { s.que with lanes := s.que.lanes.set (laneKey q l) x } }

/-- Entries that a lane of `n` entries holds: WP − RP modulo 2n (R353). -/
def Lane.level (x : Lane) (n : Nat) : Nat := (x.wp + 2 * n - x.rp) % (2 * n)

/-- The lane after an entry has been written at WP (R353); the post at mark + n overwrites the marked entry and
invalidates the mark (R358). -/
def Lane.post (x : Lane) (n : Nat) (e : List Word32) : Lane :=
  let overrun := x.markValid && x.wp == (x.mark + n) % (2 * n)
  { x with slots := x.slots.set (x.wp % n) e, wp := (x.wp + 1) % (2 * n), wp' := (x.wp + 1) % (2 * n),
           markValid := x.markValid && !overrun }

/-- The entry at the head of a lane. -/
def Lane.head (x : Lane) (n : Nat) : List Word32 := x.slots.get [] (x.rp % n)

/-- The lane after its head has been taken. -/
def Lane.pop (x : Lane) (n : Nat) : Lane := { x with rp := (x.rp + 1) % (2 * n), rp' := (x.rp + 1) % (2 * n) }

/-- True when a pointer of the lane and its shadow copy differ (R360). -/
def Lane.mismatch (x : Lane) : Bool := x.wp != x.wp' || x.rp != x.rp' || x.mark != x.mark'

/-! ### The Lamp Stream control queues (R238, R246) -/

/-- Port `p`'s control queue and completion FIFO. -/
def State.lp (s : State) (p : Nat) : LmsPort := s.lms.ports.get {} p
/-- The state with them replaced. -/
def State.setLp (s : State) (p : Nat) (x : LmsPort) : State := { s with lms := { s.lms with ports := s.lms.ports.set p x } }
/-- The control session of tile `t`. -/
def State.ses (s : State) (t : Nat) : Session := s.lms.sess.get {} t

/-- The encoding of a session's state in LMS_TSTAT.SESSION. -/
def SessSt.code : SessSt → Nat
  | .none => 0
  | .up => 1
  | .replay => 2
  | .resync => 3
  | .down => 4

/-- LMS_TSTAT, LMS_TTSN and LMS_TMARK in line with a tile's session. -/
def State.sesShow (s : State) (t : Nat) : State :=
  let x := s.ses t
  let k := Reg.lmsTstat t
  let s := ((s.setF k 8 4 x.out.length).setF k 4 4 x.retries).setF k 0 3 x.st.code
  let ack := match x.out.head? with | some o => o.tsn | none => x.next
  let s := s.wr (Reg.lmsTtsn t) (pack [(16, x.next), (0, ack)])
  match x.out.head? with
  | some o => s.wr (Reg.lmsTmark t) (pack [(31, bit (!x.lost)), (0, o.qpos)])
  | none => s.setF (Reg.lmsTmark t) 31 1 0

/-- The state with a tile's session replaced and shown. -/
def State.setSes (s : State) (t : Nat) (x : Session) : State :=
  ({ s with lms := { s.lms with sess := s.lms.sess.set t x } }).sesShow t

/-- WP of a port's control queue. -/
def State.cqWp (s : State) (p : Nat) : Nat := s.fld (Reg.lmsCqPtr p) 16 9
/-- RP of a port's control queue. -/
def State.cqRp (s : State) (p : Nat) : Nat := s.fld (Reg.lmsCqPtr p) 0 9
/-- The state with the pointers of a port's control queue, and their shadow copies, set. -/
def State.cqSet (s : State) (p wp rp : Nat) : State :=
  let s := s.setLp p { s.lp p with wp' := wp % 512, rp' := rp % 512 }
  (s.setF (Reg.lmsCqPtr p) 16 9 wp).setF (Reg.lmsCqPtr p) 0 9 rp
/-- The state with RP advanced by one entry. -/
def State.cqNext (s : State) (p : Nat) : State := s.cqSet p (s.cqWp p) (s.cqRp p + 1)
/-- True when a pointer of a port's control queue, or the mark of one of its tiles, differs from its shadow copy (R360). -/
def State.cqMismatch (s : State) (p : Nat) : Bool :=
  s.cqWp p != (s.lp p).wp' || s.cqRp p != (s.lp p).rp' ||
    (s.pl.tiles.filter (·.port == p)).any (fun t => (s.ses t.id).out.any (fun o => o.qpos != o.qpos'))
/-- A port's control queue emptied after a mismatch: entries not yet sent are gone and every tile mark is invalid; a
transaction whose segments are leaving stays outstanding (R360). -/
def State.cqEmpty (s : State) (p : Nat) : State :=
  let s := s.cqSet p 0 0
  let s := s.setLp p { s.lp p with cur := (s.lp p).cur.map (fun c => { c with replay := true }) }
  (s.pl.tiles.filter (·.port == p)).foldl (fun s t =>
    let x := s.ses t.id
    s.setSes t.id { x with out := x.out.map (fun o => { o with overwritten := true, qpos' := o.qpos }) }) s

/-! ### Guarded pointers (R360) -/

/-- True when any pointer of queue `q` differs from its shadow copy (R360). -/
def State.queMismatch (s : State) (q : Nat) : Bool :=
  if q < 0x40 then (List.range (laneCount q)).any (fun l => (s.lane q l).mismatch) else s.cqMismatch (q - 0x40)

/-- The district slot of a queue (R352); of a control queue, the slot of its port's district. -/
def State.queSlot (s : State) (q : Nat) : Nat :=
  if q < 0x40 then q % 8 else match s.pl.port? (q - 0x40) with | some p => slotOf p.dist | none => 4

/-- The queue emptied: pointers 0, marks invalid and never set, entries gone. -/
def State.emptyQueue (s : State) (q : Nat) : State :=
  if 0x40 ≤ q then s.cqEmpty (q - 0x40) else
  let s := { s with que := { s.que with mirrored := s.que.mirrored.filter (fun e => e.1 / 8 != q) } }
  (List.range (laneCount q)).foldl (fun s l => s.setLane q l {}) s

/-- The reset of a queue whose pointers disagree (R360). -/
def State.queReset (s : State) (q : Nat) (init : InitId) : State :=
  let j := s.queSlot q
  let s := s.emptyQueue q
  let s := s.report { block := 12, code := 0x07, init := init.toNat, sev := 1, dist := slotDist j, addr := q }
  let s := s.count 12 j 1
  if q < 0x08 then s.setF (Reg.queStatus j) 8 1 1
  else if q < 0x10 then s.setF (Reg.queStatus j) 9 1 1
  else if q < 0x40 then (s.setF (distKey j Reg.hstMbxStatus) 3 1 1).setF (Reg.mbxStatus j) 3 1 1
  else s

/-- An access to the pointers of queue `q` compares both copies (R360). -/
def State.queGuard (s : State) (q : Nat) (init : InitId) : State := if s.queMismatch q then s.queReset q init else s

/-- How a post ended. -/
inductive Posted where
  | stored
  | full
  | queueReset
deriving DecidableEq, Repr

/-- A post of an entry to lane `l` of queue `q` (R353, R357, R358, R360). -/
def State.quePost (s : State) (q l : Nat) (init : InitId) (e : List Word32) : Posted × State :=
  if s.queMismatch q then (.queueReset, s.queReset q init)
  else
    let x := s.lane q l
    let n := laneSize q
    if x.level n ≥ n then (.full, s)
    else
      let y := x.post n e
      let s := s.setLane q l y
      (.stored, if x.markValid && !y.markValid && 0x08 ≤ q && q < 0x10 then s.setF (Reg.queStatus (q - 8)) 17 1 1 else s)

/-- The highest non-empty lane of a queue (R354). -/
def State.topLane (s : State) (q : Nat) : Option Nat :=
  ((List.range (laneCount q)).reverse).find? (fun l => (s.lane q l).level (laneSize q) != 0)

/-- A read of a queue: the head of its highest non-empty lane, taken (R354, R360). -/
def State.quePop (s : State) (q : Nat) (init : InitId) : Option (Nat × List Word32) × State :=
  if s.queMismatch q then (none, s.queReset q init)
  else
    match s.topLane q with
    | none => (none, s)
    | some l => (some (l, (s.lane q l).head (laneSize q)), s.setLane q l ((s.lane q l).pop (laneSize q)))

/-- The number of entries of a single-lane queue. -/
def State.queLevel (s : State) (q : Nat) : Nat := (s.lane q 0).level (laneSize q)

/-! ### Submission windows -/

/-- AER: Completer Abort logged and ERR_NONFATAL sent (R357). -/
def State.aerAbort (s : State) (d : Nat) : State :=
  (s.setHp d { s.hp d with aer := (s.hp d).aer ||| fieldMask 15 1 }).emit (.aer d 15 true)

/-- The dwords written from `k` on staged by an initiator, under the keys `f` gives. -/
def State.stage (s : State) (f : Nat → Nat) (k : Nat) : List Word32 → State
  | [] => s
  | w :: t => State.stage (s.wr (f k) w) f (k + 1) t

/-- The sixteen staged dwords of a window. -/
def State.staged (s : State) (f : Nat → Nat) : List Word32 := (List.range 16).map (fun k => s.rd (f k))

/-- The window's staging cleared (R356). -/
def State.unstage (s : State) (f : Nat → Nat) : State := { s with regs := s.regs.drop (fun k => (List.range 16).any (fun i => f i == k)) }

/-- An access of a host to a slot of another district (QUE registers): code 0x03 in that slot. -/
def State.queDenied (s : State) (j : Nat) : State := s.setErr (Reg.queStatus j) 0x03

/-- A whole staged submission entry posted to lane `l` of slot `j` (R356, R357). -/
def State.submitEntry (s : State) (init : InitId) (j l : Nat) (e : List Word32) : State :=
  let e := match e with | [] => [] | w :: t => putField w 16 8 l :: t
  match s.quePost j l init e with
  | (.stored, s) => ((s.setErr (Reg.queStatus j) 0).mirrorTo (slotDist j) (.submission (slotDist j) l e)).reply .ack
  | (.queueReset, s) => s.setErr (Reg.queStatus j) 0x08
  | (.full, s) =>
    let s := ((s.setF (Reg.queStatus j) 16 1 1).bump (Reg.queRejcnt j)).setErr (Reg.queStatus j) 0x01
    let s := s.count 12 j 0
    if isHost init then s.aerAbort (distOf init) else s.reply .busError

/-- SUBMISSION_POST: dwords written to a submission window; a write that covers bytes 60 to 63 posts the staged item and
clears the staging (R356). -/
def execSubmissionPost (init : InitId) (slot : Fin 5) (lane : Fin 8) (dword : Fin 16) (words : List Word32) (s : State) :
    Host.Outcome State Fault Refusal :=
  .next (s.begin.access init 12 (fun s =>
    if !slotAllowed (distOf init) slot.val then s.queDenied slot.val
    else if isHost init && s.mirrorLocked (distOf init) then s.mirrorDrop.reply .ack
    else
      let f := fun k => initKey init (Reg.queSqWin slot.val lane.val k)
      let s := s.stage f dword.val (words.take (16 - dword.val))
      if dword.val + words.length < 16 then s.reply .ack
      else (s.unstage f).submitEntry init slot.val lane.val (s.staged f)))

/-! ### Completions: pop, mark, rewind -/

/-- QUE_CQ_POP: a read removes the head completion of the highest non-empty lane and latches it for the reader (R354). -/
def execQueCqPop (init : InitId) (slot : Fin 5) (s : State) : Host.Outcome State Fault Refusal :=
  .next (s.begin.access init 12 (write := false) (fun s =>
    if !slotAllowed (distOf init) slot.val then (s.queDenied slot.val).reply (.word 0)
    else
      match s.quePop (8 + slot.val) init with
      | (none, s) => s.reply (.word 0)
      | (some (l, e), s) =>
        let s := (List.range 8).foldl (fun s k => s.wr (initKey init (Reg.queCqData slot.val k)) (e.getD k 0)) s
        s.reply (.word (pack [(31, 1), (24, l)]))))

/-- MARK: each lane's mark takes its RP and becomes valid (R359). -/
def State.cqMark (s : State) (j : Nat) : State :=
  (List.range 8).foldl (fun s l =>
    let x := s.lane (8 + j) l
    s.setLane (8 + j) l { x with mark := x.rp, mark' := x.rp, markValid := true, markEver := true }) s

/-- CQ_MARK: QUE_CQ_MARK CMD 1 (R359). -/
def execCqMark (init : InitId) (slot : Fin 5) (s : State) : Host.Outcome State Fault Refusal :=
  .next (s.begin.access init 12 (fun s =>
    if !slotAllowed (distOf init) slot.val then s.queDenied slot.val
    else if s.queMismatch (8 + slot.val) then s.queReset (8 + slot.val) init
    else (s.cqMark slot.val).setErr (Reg.queStatus slot.val) 0))

/-- CQ_REWIND: QUE_CQ_MARK CMD 2 restores every lane's RP to its mark if all marks are valid (R359). -/
def execCqRewind (init : InitId) (slot : Fin 5) (s : State) : Host.Outcome State Fault Refusal :=
  .next (s.begin.access init 12 (fun s =>
    let q := 8 + slot.val
    let lanes := (List.range 8).map (s.lane q)
    if !slotAllowed (distOf init) slot.val then s.queDenied slot.val
    else if s.queMismatch q then s.queReset q init
    else if lanes.any (!·.markEver) then s.setErr (Reg.queStatus slot.val) 0x05
    else if lanes.any (!·.markValid) then s.setErr (Reg.queStatus slot.val) 0x04
    else
      let s := (List.range 8).foldl (fun s l =>
        let x := s.lane q l
        s.setLane q l { x with rp := x.mark, rp' := x.mark }) s
      s.setErr (Reg.queStatus slot.val) 0))

/-- QUE_CQ_MARK with CMD 0 or 3: code 0x06 (R371). -/
def State.cqBadCmd (s : State) (init : InitId) (j : Nat) : State :=
  if !slotAllowed (distOf init) j then s.queDenied j
  else if s.queMismatch (8 + j) then s.queReset (8 + j) init
  else s.setErr (Reg.queStatus j) 0x06

/-! ### Mailboxes -/

/-- The message a header and fifteen payload dwords make: payload at or beyond LEN reads 0 (R361). -/
def mbxMessage (header : Word32) (payload : List Word32) : List Word32 :=
  ((List.range 15).map (fun k => if k < field header 24 4 then payload.getD k 0 else 0)) ++ [header]

/-- True when a header has VALID or a reserved bit set (R361). -/
def badHeader (header : Word32) : Bool := field header 28 4 != 0

/-- H2F_POST: a host write of the header dword posts an H2F message (R356, R357, R361, R364). -/
def execH2fPost (init : InitId) (header : Word32) (s : State) : Host.Outcome State Fault Refusal :=
  .next (s.begin.access init 0 (fun s =>
    if !isHost init then s
    else
      let d := distOf init
      let f := fun k => initKey init (Reg.hstMbxTx k)
      let msg := mbxMessage header (s.staged f)
      let st := distKey d Reg.hstMbxStatus
      let s := s.unstage f
      if badHeader header then s.setErr st 0x0A
      else
        match s.quePost (0x10 + d) 0 init msg with
        | (.stored, s) => (s.emit (.houseIrq 13)).reply .ack
        | (.queueReset, s) => s.setErr st 0x08
        | (.full, s) =>
          ((((s.setErr st 0x01).setF st 1 1 1).bump (distKey d Reg.hstMbxRejcnt)).count 12 d 0).aerAbort d))

/-- The post of an F2H message to district `d` by firmware (R357, R361, R364). -/
def State.f2hPost (s : State) (init : InitId) (d : Nat) (msg : List Word32) : State :=
  let st := Reg.mbxStatus d
  match s.quePost (0x18 + d) 0 init msg with
  | (.stored, s) => (s.raise d 6 13).reply .ack
  | (.queueReset, s) => s.setErr st 0x08
  | (.full, s) => (s.setErr st 0x01).reply .busError

/-- F2H_POST: a firmware write of the header dword posts an F2H message (R356, R357, R361). -/
def execF2hPost (init : InitId) (host : Fin 4) (header : Word32) (s : State) : Host.Outcome State Fault Refusal :=
  .next (s.begin.access init 13 (fun s =>
    if !isHouse init then s.reply .unsupported
    else
      let f := fun k => initKey init (Reg.mbxTx host.val k)
      let msg := mbxMessage header (s.staged f)
      let s := s.unstage f
      if badHeader header then s.setErr (Reg.mbxStatus host.val) 0x0A
      else s.f2hPost init host.val msg))

/-- Firmware serves mailboxes only in Standby, Active and Maintenance (R365). -/
def State.firmwareRuns (s : State) : Bool :=
  s.mode.mode == .standby || s.mode.mode == .active || s.mode.mode == .maintenance

/-- Firmware posts the pending replies of district `d`, oldest first, while F2H has space (R365); a post that finds a
mismatch is discarded (R360). -/
def State.flushReplies (s : State) (d : Nat) : Nat → State
  | 0 => s
  | fuel + 1 =>
    match s.que.replies.get [] d with
    | [] => s
    | m :: t =>
      if !s.firmwareRuns then s
      else
        match s.quePost (0x18 + d) 0 0x00#8 m with
        | (.full, _) => s
        | (r, s) =>
          let s := { s with que := { s.que with replies := s.que.replies.set d t } }
          State.flushReplies (if r == .stored then s.raise d 6 13 else s.setErr (Reg.mbxStatus d) 0x08) d fuel

/-- All replies of district `d` that F2H has space for. -/
def State.flushAll (s : State) (d : Nat) : State := s.flushReplies d 17

/-- F2H_POP: a read of HST_MBX_POP removes the head F2H message and latches its payload (R363, R364). -/
def execF2hPop (init : InitId) (s : State) : Host.Outcome State Fault Refusal :=
  .next (s.begin.access init 0 (write := false) (fun s =>
    if !isHost init then s.reply (.word 0)
    else
      let d := distOf init
      match s.quePop (0x18 + d) init with
      | (none, s) => (s.reply (.word 0)).flushAll d
      | (some (_, m), s) =>
        let s := (List.range 15).foldl (fun s k => s.wr (initKey init (Reg.hstMbxData k)) (m.getD k 0)) s
        let s := s.reply (.word (putField (m.getD 15 0) 31 1 1))
        let s := if s.queLevel (0x18 + d) == 0 then (s.setF (Reg.mbxStatus d) 2 1 1).emit (.houseIrq 13) else s
        s.flushAll d))

/-- The H2F head of district `d` taken by firmware (R363, R364). -/
def State.h2fTake (s : State) (d : Nat) (init : InitId) : Option (List Word32) × State :=
  match s.quePop (0x10 + d) init with
  | (none, s) => (none, s)
  | (some (_, m), s) =>
    (some m, if s.queLevel (0x10 + d) == 0 then (s.setF (distKey d Reg.hstMbxStatus) 2 1 1).raise d 6 13 else s)

/-- H2F_POP: a read of MBX_POP removes the head H2F message and latches its payload (R363). -/
def execH2fPop (init : InitId) (host : Fin 4) (s : State) : Host.Outcome State Fault Refusal :=
  .next (s.begin.access init 13 (write := false) (fun s =>
    if !isHouse init then s.reply .unsupported
    else
      match s.h2fTake host.val init with
      | (none, s) => s.reply (.word 0)
      | (some m, s) =>
        let s := (List.range 15).foldl (fun s k => s.wr (initKey init (Reg.mbxData host.val k)) (m.getD k 0)) s
        s.reply (.word (putField (m.getD 15 0) 31 1 1))))

/-- The reply to a message: CHAN and TOKEN of the request, the status in dword 0 (R362). -/
def mbxReply (header : Word32) (status : Nat) (payload : List Word32) : List Word32 :=
  mbxMessage (pack [(0, field header 0 16), (16, field header 16 8), (24, payload.length + 1)])
    (w32 status :: payload)

/-- Firmware's answer to a request (R362). -/
def State.firmwareAnswer (s : State) (m : List Word32) : List Word32 :=
  let h := m.getD 15 0
  let len := field h 24 4
  match field h 16 8 with
  | 0x00 => if len == 15 then mbxReply h 2 [] else mbxReply h 0 (m.take len)
  | 0x01 =>
    if len != 0 then mbxReply h 2 []
    else mbxReply h 0 [w32 (s.lcs.version % 2 ^ 24), w32 (s.fld Reg.updIfrun 16 16 * 256)]
  | _ => mbxReply h 1 []

/-- Firmware posts what it has pending for district `d`, then reads the head H2F message and answers it, if `want` accepts its
CHAN and fewer than 16 replies are pending (R362, R365). -/
def State.firmwareServe (s : State) (d : Nat) (want : Nat → Bool) : State :=
  let s := s.flushAll d
  let head := (s.lane (0x10 + d) 0).head 16
  if !s.firmwareRuns || (s.que.replies.get [] d).length ≥ 16 then s
  else if s.queMismatch (0x10 + d) then s.queReset (0x10 + d) 0x00#8
  else if s.queLevel (0x10 + d) == 0 || !want (field (head.getD 15 0) 16 8) then s
  else
    match s.h2fTake d 0x00#8 with
    | (none, s) => s
    | (some m, s) =>
      let r := s.que.replies.get [] d ++ [s.firmwareAnswer m]
      { s with que := { s.que with replies := s.que.replies.set d r } }.flushAll d

/-- MBX_ECHO: firmware answers the head message of CHAN 0x00 with its payload, and one of a CHAN it does not know with
status 1 (R362). -/
def execMbxEcho (host : Fin 4) (s : State) : Host.Outcome State Fault Refusal :=
  .next (s.begin.firmwareServe host.val (· != 0x01))

/-- MBX_VERSION: firmware answers the head message of CHAN 0x01 with its versions (R362). -/
def execMbxVersion (host : Fin 4) (s : State) : Host.Outcome State Fault Refusal :=
  .next (s.begin.firmwareServe host.val (· == 0x01))

/-- A write of MBX_FWHB for district `d`, mirrored to HST_FW_HB (R366). -/
def State.fwBeat (s : State) (d : Nat) (v : Word32) : State :=
  let s := { s with que := { s.que with beat := s.que.beat.set d v } }
  (s.wr (Reg.mbxFwhb d) v).wr (distKey d Reg.hstFwHb) v

/-- FW_HEARTBEAT: firmware writes a count one greater to MBX_FWHB, mirrored to HST_FW_HB (R366). -/
def execFwHeartbeat (host : Fin 4) (s : State) : Host.Outcome State Fault Refusal :=
  let s := s.begin
  if !s.firmwareRuns then .next s
  else
    .next (s.fwBeat host.val (s.que.beat.get 0 host.val + 1))

/-- A reset of host district `d` empties its queues and mailboxes (R370). -/
def State.resetQueues (s : State) (d : Nat) : State :=
  let s := [d, 8 + d, 0x10 + d, 0x18 + d].foldl (fun s q => s.emptyQueue q) s
  let staging := fun k => viewKey (0x20 + d) 0 ≤ k && k < viewKey (0x21 + d) 0 &&
    ((0x200 ≤ k % 0x4000000 && k % 0x4000000 < 0x300) ||
     (0xC00000 ≤ k % 0x4000000 && k % 0x4000000 < 0xD00000 && k % 0x10000 ≥ 0x1000))
  let page := fun k => Reg.mbxTx d 0 ≤ k % 0x4000000 && k % 0x4000000 < Reg.mbxTx (d + 1) 0
  let own := fun k => k == Reg.queStatus d || (distKey d 0x200 ≤ k && k < distKey d 0x300)
  { s with regs := s.regs.drop (fun k => staging k || page k || own k),
           que := { s.que with replies := s.que.replies.set d [] } }

end Sys2Proof.Machine
end

