-- ==== Sys2Proof/Machine/LampStream.lean ====
section
/-! DEFINITION. Lamp Stream control transactions (R238 to R251): control queues, tile sessions, replay, completions and
the messages of tiles. -/

namespace Sys2Proof.Machine

/-- The tile is on port `p` under the plan in force (R243). -/
def State.tileOn (s : State) (p t : Nat) : Option TileRec := (s.pl.tile? t).filter (fun r => r.port == p)

/-- LMS_CPL_LEVEL.LEVEL in line with the FIFO. -/
def State.cplShow (s : State) (p : Nat) : State := s.setF (Reg.lmsCplLevel p) 0 10 (s.lp p).cpl.length

/-- A completion of an entry (R250). -/
def State.completion (s : State) (p tile tag qpos code tileStatus : Nat) : State :=
  let x := s.lp p
  let s := s.count 7 p 2
  let s := if x.cpl.length ≥ 512 then
      let s := (s.setF (Reg.lmsPstatus p) 16 1 1).count 7 p 3
      s.setF (Reg.lmsCplLevel p) 16 16 (s.fld (Reg.lmsCplLevel p) 16 16 + 1)
    else
      (s.setLp p { x with cpl := x.cpl ++ [(pack [(31, 1), (16, code), (0, tag)],
        pack [(24, tileStatus), (16, qpos % 256), (0, tile)])] }).cplShow p
  match s.pl.port? p with
  | some pr => s.raise pr.dist (128 + p) 7
  | none => s

/-- An outstanding transaction of a tile completes with a code; LMS_TSTAT.ERR takes a code other than 0. -/
def State.endOut (s : State) (p t : Nat) (o : Outst) (code tileStatus : Nat) : State :=
  let s := if code == 0 then s else s.setErr (Reg.lmsTstat t) code
  if o.mute then s else s.completion p t o.tag o.qpos code tileStatus

/-- The transaction whose segments a port is sending has left its session: the rest of it is not sent, and RP passes its
entry. A transaction is outstanding from its first segment on (DEDUCED, R244, R247). -/
def State.curEnds (s : State) (p t : Nat) : State :=
  let y := s.lp p
  match y.cur with
  | some c =>
    if c.tile != t || (s.ses t).out.any (·.tsn == c.tsn) then s
    else
      let s := s.setLp p { y with cur := none }
      if c.replay then s else s.cqNext p
  | none => s

/-- Every outstanding transaction of a tile completes with a code and leaves the session (R247). -/
def State.endAll (s : State) (p t code : Nat) : State :=
  let x := s.ses t
  let s := x.out.foldl (fun s o => s.endOut p t o code 0) s
  (s.setSes t { s.ses t with out := [], retries := 0, timer := none, again := [] }).curEnds p t

/-- A RESYNC is to be sent to a tile with BASE_TSN = NEXT_TSN (R247). -/
def State.askResync (s : State) (p t : Nat) (st : SessSt) : State :=
  let x := s.ses t
  let s := s.setSes t { x with st := st, base := some x.next, timer := none, again := [] }
  let y := s.lp p
  s.setLp p { y with resync := y.resync.filter (· != t) ++ [t] }

/-- LMS_TIMING.RETRY. -/
def State.lmsRetry (s : State) : Nat := s.fld Reg.lmsTiming 16 4
/-- LMS_TIMING.RESP_US in ROOT cycles. -/
def State.respRoot (s : State) : Nat := s.fld Reg.lmsTiming 0 16 * 9600

/-- The entry at RP, if the queue holds one. -/
def State.cqHead (s : State) (p : Nat) : Option (List Word32) :=
  if s.cqWp p == s.cqRp p then none else some ((s.lp p).slots.get [] (s.cqRp p % 256))

/-- TILE_ID of a descriptor. -/
def descTile (d : List Word32) : Nat := field (d.getD 1 0) 0 12
/-- TAG of a descriptor. -/
def descTag (d : List Word32) : Nat := field (d.getD 0 0) 16 16

/-- Entries at RP that need no transmission complete, and a tile without a session is sent a RESYNC (R244, R247). -/
def State.pump (s : State) (p : Nat) : Nat → State
  | 0 => s
  | fuel + 1 =>
    if !s.active || (s.lp p).cur.isSome then s
    else if s.cqMismatch p then s.queReset (0x40 + p) 0xFF
    else match s.cqHead p with
      | none => s
      | some d =>
        let t := descTile d
        if (s.tileOn p t).isNone then
          State.pump ((s.completion p t (descTag d) (s.cqRp p) 0x04 0).cqNext p) p fuel
        else match (s.ses t).st with
          | .none => s.askResync p t .resync
          | .down =>
            State.pump (((s.setErr (Reg.lmsTstat t) 0x06).completion p t (descTag d) (s.cqRp p) 0x06 0).cqNext p) p fuel
          | _ => s

/-- `pump` over a whole queue. -/
def State.pumpAll (s : State) (p : Nat) : State := s.pump p 257

/-! ### Posting (R238, R239) -/

/-- The code that refuses a post of the staged descriptor, 0 when it passes (R239). -/
def State.cqCheck (s : State) (p : Nat) (d : List Word32) : Nat :=
  let w := fun k => d.getD k 0
  let op := field (w 0) 0 8
  let seg := field (w 1) 16 16
  let len := field (w 3) 0 25
  let maxF := ((s.pl.port? p).map (·.maxFrame)).getD 0
  let dist := ((s.pl.port? p).map (·.dist)).getD 0xFF
  let off := (w 6).toNat * 2 ^ 32 + (w 5).toNat
  if (s.cqWp p + 512 - s.cqRp p) % 512 == 256 then 0x01
  else if (op != 1 && op != 2) || field (w 0) 8 8 != 0 || field (w 1) 12 4 != 0 || field (w 3) 25 7 != 0 ||
      field (w 4) 16 16 != 0 || w 7 != 0 then 0x02
  else if (s.tileOn p (descTile d)).isNone then 0x04
  else if seg < 64 || seg > maxF - 96 then 0x03
  else if len > 16777216 then 0x0D
  else if ceilDiv len seg > 65535 then 0x03
  else if len != 0 && (s.setRange dist (field (w 4) 0 16) off len).isNone then 0x09
  else 0

/-- Outstanding transactions whose slot a post overwrites lose their mark (R246). -/
def State.overwrite (s : State) (p slot : Nat) : State :=
  (s.pl.tiles.filter (·.port == p)).foldl (fun s t =>
    let x := s.ses t.id
    if x.out.any (fun o => o.qpos % 256 == slot) then
      (s.setSes t.id { x with out := x.out.map (fun o => if o.qpos % 256 == slot then { o with overwritten := true } else o) }).setF
        (Reg.lmsTstat t.id) 16 1 1
    else s) s

/-- The staged descriptor of an initiator. -/
def State.cqStaged (s : State) (init : InitId) (p : Nat) : List Word32 :=
  (List.range 8).map (fun k => s.rd (initKey init (Reg.lmsCqStage p k)))

/-- A write to LMS_CQ_POST (R239). -/
def State.cqPost (s : State) (init : InitId) (p : Nat) (v : Word32) : State :=
  if !v.getLsbD 0 then s
  else if s.cqMismatch p then (s.queReset (0x40 + p) init).setErr (Reg.lmsPstatus p) 0x08
  else
    let d := s.cqStaged init p
    let c := s.cqCheck p d
    if c != 0 then s.setErr (Reg.lmsPstatus p) c
    else
      let wp := s.cqWp p
      let s := s.overwrite p (wp % 256)
      let x := s.lp p
      let s := (s.setLp p { x with slots := x.slots.set (wp % 256) d }).cqSet p (wp + 1) (s.cqRp p)
      (s.setErr (Reg.lmsPstatus p) 0).pumpAll p

/-- An access to the registers of port `p` in LMS, of its district (R258). -/
def State.lmsPortAccess (s : State) (init : InitId) (p : Nat) (f : State → State) (write : Bool := true) : State :=
  s.access init 7 (fun s =>
    let d := distOf init
    if (s.pl.port? p).any (·.dist == d) then f s else s.setErr (Reg.lmsPstatus p) 0x0A) write

/-- LMS_CQ_POST: the staged descriptor is posted to a port's control queue (R239). -/
def execLmsCqPost (init : InitId) (port : Fin 64) (value : Word32) (s : State) : Host.Outcome State Fault Refusal :=
  .next (s.begin.lmsPortAccess init port.val (fun s => s.cqPost init port.val value))

/-- LMS_CPL_POP: a read of LMS_CPL_LO removes the oldest completion and latches its second half (R250). -/
def execLmsCplPop (init : InitId) (port : Fin 64) (s : State) : Host.Outcome State Fault Refusal :=
  let p := port.val
  .next (s.begin.access init 7 (write := false) (fun s =>
    let d := distOf init
    if d == houseDist || (s.pl.port? p).any (·.dist == d) then
      let x := s.lp p
      match x.cpl with
      | [] => s.reply (.word 0)
      | (lo, hi) :: t =>
        let s := (s.setLp p { x with cpl := t }).cplShow p
        ({ s with hiLatch := s.hiLatch.set (initKey init (Reg.lmsCplLo p)) hi }).reply (.word lo)
    else (s.setErr (Reg.lmsPstatus p) 0x0A).reply (.word 0)))

/-! ### Sending control items (R241, R244, R246, R249) -/

/-- Segments of a transaction (R241). -/
def descSegs (d : List Word32) : Nat :=
  if field (d.getD 0 0) 0 8 == 2 then 1 else max 1 (ceilDiv (field (d.getD 3 0) 0 25) (max (field (d.getD 1 0) 16 16) 1))

/-- Byte offset in its set of a descriptor's data. -/
def descOff (d : List Word32) : Nat := (d.getD 6 0).toNat * 2 ^ 32 + (d.getD 5 0).toNat

/-- A CTRL_REQ segment of a transaction (R241); a poisoned block of its data ends it with ABORT (R244). -/
def State.segmentMsg (s : State) (p : Nat) (t : TileRec) (o : Outst) (seg total : Nat) : List Byte × Bool × State :=
  let d := o.desc
  let op := field (d.getD 0 0) 0 8
  let size := field (d.getD 1 0) 16 16
  let len := field (d.getD 3 0) 0 25
  let set := field (d.getD 4 0) 0 16
  let n := if op == 2 then 0 else min size (len - seg * size)
  let bad := n != 0 && (s.set? set).any (fun z => s.poisoned z (descOff d + seg * size) n)
  let data := if n == 0 || bad then [] else s.readSetId set (descOff d + seg * size) n
  let last := bad || seg + 1 == total
  let (bytes, s) := s.toTile p t 0x10 (bit last + 16 * bit bad) s.frame.toNat
    (beBytes 2 o.tsn ++ [b8 op, 0] ++ beBytes 4 (d.getD 2 0).toNat ++ beBytes 4 len ++ beBytes 4 (seg * size) ++
      beBytes 2 seg ++ beBytes 2 total ++ beBytes 2 size) data
  (bytes, bad, s)

/-- The next segment of the transaction a port is sending. -/
def State.nextSegment (s : State) (p : Nat) (c : CtlTx) : Option (TxFrame × State) :=
  let x := s.ses c.tile
  match s.tileOn p c.tile, x.out.find? (·.tsn == c.tsn) with
  | some t, some o =>
    if c.seg ≥ c.total then none
    else
      let (bytes, bad, s) := s.segmentMsg p t o c.seg c.total
      let last := bad || c.seg + 1 == c.total
      let s := if bad then s.setSes c.tile { x with out := x.out.map (fun q => if q.tsn == c.tsn then { q with aborted := true } else q) } else s
      let y := s.lp p
      some (⟨.control c.tile c.tsn last, bytes⟩,
        s.setLp p { y with cur := some { c with seg := if bad then c.total else c.seg + 1 } })
  | _, _ => none

/-- The control item of a port that goes next, if one waits: the segments of the transaction under way, then RESYNCs,
then replays, then the entry at RP (R244, R246, R247). -/
def State.nextControl (s : State) (p : Nat) : Option (TxFrame × State) :=
  if !s.active then none
  else
    let y := s.lp p
    match y.cur with
    | some c => s.nextSegment p c
    | none =>
      match y.resync with
      | t :: rest =>
        (s.tileOn p t).map (fun r =>
          let x := s.ses t
          let (bytes, s) := s.toTile p r 0x12 0 s.frame.toNat (beBytes 2 (x.base.getD x.next)) []
          let s := (s.bump (Reg.lmsTresync t)).setSes t { x with timer := if x.st == .resync then some s.now else none }
          (⟨.session t, bytes⟩, s.setLp p { s.lp p with resync := rest }))
      | [] =>
        match (s.pl.tiles.filter (fun t => t.port == p)).find? (fun t => !(s.ses t.id).again.isEmpty) with
        | some t =>
          let x := s.ses t.id
          match x.again with
          | n :: more =>
            match x.out.find? (·.tsn == n) with
            | some o =>
              let s := s.setSes t.id { x with again := more }
              s.nextSegment p { tile := t.id, tsn := n, seg := 0, total := descSegs o.desc, replay := true }
            | none => none
          | [] => none
        | none =>
          match s.cqHead p with
          | none => none
          | some d =>
            let t := descTile d
            let x := s.ses t
            if (s.tileOn p t).isSome && (x.st == .up || x.st == .replay) && x.out.length < 8 then
              let o : Outst := { tsn := x.next, tag := descTag d, qpos := s.cqRp p, qpos' := s.cqRp p, desc := d }
              let s := s.setSes t { x with next := (x.next + 1) % 65536, out := x.out ++ [o] }
              s.nextSegment p { tile := t, tsn := o.tsn, seg := 0, total := descSegs d, replay := false }
            else none

/-- A control item's transmission has ended: after a transaction's last segment RP advances past its entry, and the
response timer starts with the oldest (R240, R245). -/
def State.controlSent (s : State) (p tile tsn : Nat) (last : Bool) : State :=
  if !last then s
  else match (s.lp p).cur with
    | some c =>
    if c.tile != tile || c.tsn != tsn then s
    else
      let s := s.setLp p { s.lp p with cur := none }
      let s := if c.replay then s else s.cqNext p
      let x := s.ses tile
      let oldest := match x.out.head? with | some o => o.tsn == tsn | none => false
      let out := x.out.map (fun o => if o.tsn == tsn then { o with left := true } else o)
      (s.setSes tile { x with out := out, timer := if oldest then some s.now else x.timer }).pumpAll p
    | none => s

/-! ### Session events (R245 to R247) -/

/-- A NAK or an expiry of the response timer in UP or REPLAY (R246, R247). -/
def State.rewind (s : State) (p t : Nat) : State :=
  let x := s.ses t
  if x.lost then
    let s := (s.endAll p t 0x08).setF (Reg.lmsTstat t) 17 1 1
    (s.askResync p t .resync).pumpAll p
  else if x.retries < s.lmsRetry then
    let y := s.lp p
    -- a replay under way begins again; an entry still at RP goes on, and lies behind the scan
    let s := if y.cur.any (fun c => c.tile == t && c.replay) then s.setLp p { y with cur := none } else s
    let back := x.out.filter (fun o => !(y.cur.any (fun c => c.tile == t && c.tsn == o.tsn && !c.replay)))
    let s := s.setSes t { x with st := .replay, retries := x.retries + 1, timer := none, again := back.map (·.tsn) }
    s.bump (Reg.lmsTreplay t)
  else
    let s := s.endAll p t 0x05
    (s.setSes t { s.ses t with st := .down, ticks := 0 }).pumpAll p

/-- READ data segments expected (R242). -/
def Outst.whole (o : Outst) : Bool :=
  field (o.desc.getD 0 0) 0 8 != 2 ||
    (List.range (max 1 (ceilDiv (field (o.desc.getD 3 0) 0 25) (max (field (o.desc.getD 1 0) 16 16) 1)))).all (o.got.contains ·)

/-- `a` is not later than `b`, modulo 2^16 (R245). -/
def tsnUpTo (a b : Nat) : Bool := (b + 65536 - a) % 65536 < 32768

/-- What an answer ends: every transaction up to `lim`, and the answered one itself with any status. A READ that misses
data stays and is recovered by replay (DEDUCED, R245, R250). -/
def endedBy (lim : Nat) (final : Option Nat) (o : Outst) : Bool := tsnUpTo o.tsn lim && (o.whole || final == some o.tsn)

/-- Outstanding transactions of a tile up to `lim` end; `code` is the status of `tsn` itself (R245, R247). -/
def State.ackUpTo (s : State) (p t lim : Nat) (tsn : Option Nat) (code tileStatus : Nat) : State :=
  let x := s.ses t
  let ends := endedBy lim (if code == 0 then none else tsn)
  let done := x.out.filter ends
  let rest := x.out.filter (fun o => !ends o)
  let s := done.foldl (fun s o =>
    if some o.tsn == tsn then s.endOut p t o code tileStatus else s.endOut p t o 0 0) s
  if done.isEmpty then s
  else
    let y := { s.ses t with out := rest, again := x.again.filter (fun n => rest.any (·.tsn == n)) }
    -- the mark advances with the oldest transaction
    let moved := x.out.head?.any ends
    let s := s.setSes t (if moved then
      { y with retries := 0, st := .up, timer := if rest.isEmpty then none else some s.now } else y)
    let s' := s.curEnds p t
    if (s.lp p).cur.isSome && (s'.lp p).cur.isNone then s'.pumpAll p else s'

/-- A CTRL_RESP of a tile whose TSN is outstanding (R242, R245, R250). -/
def State.ctrlResp (s : State) (p : Nat) (t : TileRec) (h payload : List Byte) : State :=
  let tsn := beAt h 24 2
  let status := byteAt h 26
  let x := s.ses t.id
  match x.out.find? (·.tsn == tsn) with
  | none => s
  | some o =>
    if status == 1 then
      let lim := (beAt h 28 2 + 65535) % 65536
      let s := s.ackUpTo p t.id lim none 0 0
      if (s.ses t.id).out.isEmpty then s else s.rewind p t.id
    else if status == 0 && field (o.desc.getD 0 0) 0 8 == 2 then
      let seg := beAt h 30 2
      let len := field (o.desc.getD 3 0) 0 25
      let off := beAt h 36 4
      let room := if off ≥ len then 0 else len - off
      let s := if payload.isEmpty then s
        else s.writeSetId (field (o.desc.getD 4 0) 0 16) (descOff o.desc + off) (payload.take room)
      let s := s.setSes t.id { x with out := x.out.map (fun q => if q.tsn == tsn then { q with got := seg :: q.got } else q) }
      s.ackUpTo p t.id tsn (some tsn) 0 0
    else if status == 0 then s.ackUpTo p t.id tsn (some tsn) 0 0
    else
      let code := if status == 4 && o.aborted then 0x0C else 0x0B
      s.ackUpTo p t.id tsn (some tsn) code status

/-- A RESYNC_ACK with the BASE_TSN of the RESYNC outstanding (R247). -/
def State.resyncAck (s : State) (p : Nat) (t : TileRec) : State :=
  let x := s.ses t.id
  s.setSes t.id { x with st := .up, base := none, timer := none, resends := 0, retries := 0 } |>.pumpAll p

/-- A message with the Lamp Stream EtherType that a port has received: accepted, or counted and discarded (R243). -/
def State.lmsReceive (s : State) (p : Nat) (f : List Byte) : State :=
  let h := etherBody f
  let ty := byteAt h 1
  let tile := beAt h 6 2
  let pr := s.pl.port? p
  let payload := slice h 64 (beAt h 4 2)
  let x := s.ses tile
  let match_ := (ty == 0x11 && x.out.any (·.tsn == beAt h 24 2)) || (ty == 0x13 && x.base == some (beAt h 24 2))
  let ok := pr.any (fun r => natBit r.use 0 && dstMac f == r.mac) && byteAt h 0 == 1 && beAt h 2 2 == 64 &&
    (s.tileOn p tile).any (fun t => t.mac == srcMac f) && beAt h 8 4 == (s.rd Reg.lmsEpoch).toNat && match_
  if !ok then (s.bump (Reg.lmsPrxdrop p)).count 7 p 1
  else match s.tileOn p tile with
    | none => s
    | some t =>
      let s := ((s.bump (Reg.lmsPrx p)).count 7 p 0).wr (Reg.lmsTrseq tile) (w32 (beAt h 12 4))
      if ty == 0x11 then s.ctrlResp p t h payload else s.resyncAck p t

/-- CTRL_RESP: a tile's response arrives on a port (R243 to R250). -/
def execCtrlResp (port : Fin 64) (bytes : List Byte) (s : State) : Host.Outcome State Fault Refusal :=
  let s := s.begin
  .next (if s.linkUp port.val then s.lmsReceive port.val bytes else s)

/-- RESYNC_ACK: a tile's RESYNC_ACK arrives on a port (R243, R247). -/
def execResyncAck (port : Fin 64) (bytes : List Byte) (s : State) : Host.Outcome State Fault Refusal :=
  let s := s.begin
  .next (if s.linkUp port.val then s.lmsReceive port.val bytes else s)

/-- The response timer of a tile has run for RESP_US (R245, R247). -/
def State.sesTimeout (s : State) (p t : Nat) : State :=
  let x := s.ses t
  match x.st with
  | .resync =>
    if x.resends < s.lmsRetry then
      let s := s.setSes t { x with resends := x.resends + 1, timer := none }
      s.setLp p { s.lp p with resync := (s.lp p).resync.filter (· != t) ++ [t] }
    else
      ((s.setSes t { x with st := .down, timer := none, resends := 0, base := none, ticks := 0 }).setErr (Reg.lmsTstat t) 0x06).pumpAll p
  | .up | .replay => if x.out.isEmpty then s else s.rewind p t
  | _ => s

/-- SESSION_TIMER_EXPIRY: a tile session's response timer expires (R247). -/
def execSessionTimerExpiry (tile : Fin 4096) (s : State) : Host.Outcome State Fault Refusal :=
  let s := s.begin
  let t := tile.val
  .next (match (s.ses t).timer, s.pl.tile? t with
    | some t0, some r => if s.active then (s.at_ (t0 + s.respRoot)).sesTimeout r.port t else s
    | _, _ => s)

/-- DOWN_RESYNC: at every 64th frame boundary a DOWN tile is sent a RESYNC (R247). -/
def execDownResync (tile : Fin 4096) (s : State) : Host.Outcome State Fault Refusal :=
  let s := s.begin
  let t := tile.val
  .next (match s.pl.tile? t with
    | some r =>
      let x := s.ses t
      if s.active && x.st == .down && x.ticks ≥ 64 then (s.setSes t { x with ticks := 0 }).askResync r.port t .down else s
    | none => s)

/-- A frame boundary for the sessions that are DOWN. -/
def State.sessionsTick (s : State) : State :=
  { s with lms := { s.lms with sess := s.lms.sess.map (fun e => if e.2.st == .down then (e.1, { e.2 with ticks := e.2.ticks + 1 }) else e) } }

/-- Every session ends with completion code 0x07: the device leaves Active, or its epoch changes (R247). -/
def State.sessionsEnd (s : State) : State :=
  let s := s.lms.sess.foldl (fun s e =>
    let p := ((s.pl.tile? e.1).map (·.port)).getD 0
    let s := s.endAll p e.1 0x07
    s.setSes e.1 { s.ses e.1 with st := .none, base := none, resends := 0, ticks := 0 }) s
  { s with lms := { s.lms with ports := s.lms.ports.map (fun e => (e.1, { e.2 with resync := [] })) } }

/-- Every port's queue looked at again: Active has been entered, or the epoch has changed. -/
def State.pumpPorts (s : State) : State := s.ports_.foldl (fun s p => s.pumpAll p) s

/-- LMS_PSTATUS.SENDING in line with the mode. -/
def State.lmsSending (s : State) : State := s.ports_.foldl (fun s p => s.setF (Reg.lmsPstatus p) 0 1 (bit s.active)) s

/-- A live apply has removed tile `t` from port `p` (R247). -/
def State.tileRemoved (s : State) (p t : Nat) : State :=
  let s := s.endAll p t 0x04
  let s := s.setSes t { s.ses t with st := .none, base := none, resends := 0, ticks := 0 }
  let y := s.lp p
  (s.setLp p { y with resync := y.resync.filter (· != t) }).pumpAll p

/-- A reset of a host district empties the control queues of its ports and their staging registers and completion
FIFOs; completions of transactions outstanding are discarded (R251). -/
def State.resetLamps (s : State) (d : Nat) : State :=
  (s.pl.ports.filter (·.dist == d)).foldl (fun s pr =>
    let p := pr.port
    let y := s.lp p
    let s := s.setLp p { y with cpl := [], cur := y.cur.map (fun c => { c with replay := true }) }
    let s := s.cqSet p (s.cqWp p) (s.cqWp p)
    let s := s.cplShow p
    let s := s.resetRegs (fun k => let a := k % 0x4000000; k ≥ 0x4000000 && Reg.lmsCqStage p 0 ≤ a && a < Reg.lmsCqStage p 8)
    (s.pl.tiles.filter (·.port == p)).foldl (fun s t =>
      let x := s.ses t.id
      s.setSes t.id { x with out := x.out.map (fun o => { o with mute := true }) }) s) s

/-! ### Blackout (R235, R236) -/

/-- LMS_BLACK_REL: a write releases the blackout, or is refused; `rung`: a doorbell of the same FAB cycle prevails (R236,
R258). -/
def State.blackRelease (s : State) (rung : Bool) (init : InitId) (v : Word32) : State :=
  let d := distOf init
  let last := fun (s : State) (c : Nat) => s.setF Reg.lmsBlackcnt 24 8 c
  if !s.auth false (·.fireAuth) d || field v 16 16 != 0xB1AC then last s 0x0E
  else if rung then last s 0x0E
  else if !s.black then last s 0x0F
  else
    let s := (s.setF Reg.lmsBlackout 8 8 (s.bgen + 1)).setF Reg.lmsBlackout 0 1 0
    last ({ s with ave := { s.ave with first := s.frame + 1 } }.tellBlack) 0

end Sys2Proof.Machine
end

