-- ==== Sys2Proof/Machine/PtpFrames.lean ====
section
/-! DEFINITION. PTP messages on the ports (R263, R264, R294 to R297): timestamps at the pins, message layouts of IEEE
1588-2019, transports, and the event messages built as they leave. -/

namespace Sys2Proof.Machine

/-- The counter in units of 2^-16 ns. -/
def State.now16 (s : State) : Int := ((s.ptpNow * 65536 + s.clt.frac / 65536 : Nat) : Int)
/-- The transmit timestamp of a frame whose start crosses the boundary `wait` ROOT cycles from now, in units of 2^-16 ns
(R264). -/
def State.txTime (s : State) (p : Nat) (wait : Nat := 0) : Int :=
  let adj := signed 16 (s.fld (Reg.prtLatadj p) 0 16)
  s.now16 + (wait * 655360 / 96 : Nat) + (s.rd (Reg.prtLatTx p)).toNat + adj * 65536 / 1000
/-- The receive timestamp of a frame whose start crosses the boundary now, in units of 2^-16 ns (R264). -/
def State.rxTime (s : State) (p : Nat) : Int :=
  let adj := signed 16 (s.fld (Reg.prtLatadj p) 16 16)
  ((s.now16 - (s.rd (Reg.prtLatRx p)).toNat) * 1000 - adj * 65536) / 1000
/-- The transmit timestamp in nanoseconds. -/
def State.txStamp (s : State) (p wait : Nat) : Nat := (s.txTime p wait / 65536).toNat

/-- The PTP engine runs in Standby, Active and Maintenance (R295). -/
def State.ptpOn (s : State) : Bool :=
  s.mode.mode == .standby || s.mode.mode == .active || s.mode.mode == .maintenance
/-- The ports of the PTP engine: USE bit 3 (R295). -/
def State.ptpPorts (s : State) : List Nat := (s.pl.ports.filter (fun r => natBit r.use 3)).map (·.port)
/-- Port `p` of the engine. -/
def State.pp (s : State) (p : Nat) : PtpPort := s.clt.ptp.get {} p
/-- The state with port `p` of the engine replaced. -/
def State.setPp (s : State) (p : Nat) (x : PtpPort) : State := s.clk (fun c => { c with ptp := c.ptp.set p x })
/-- CLT_PPORT.PSTATE. -/
def State.pstate (s : State) (p : Nat) : Nat := s.fld (Reg.cltPport p) 0 4
/-- The engine's own port identity: clock identity and port number. -/
def portIdentity (p : Nat) : Nat := Config.clockIdentity.toNat * 65536 + (p + 1)
/-- The profile of the plan in force: 1 for ST 2059-2 (R294). -/
def State.ptpProfile (s : State) : Nat := s.pl.sys.ptpProfile
/-- A logarithm of an interval as an unsigned byte. -/
def logByte (v : Int) : Nat := twos 8 v
/-- An interval of 2^log seconds in ROOT cycles. -/
def logRoot (log : Int) : Nat := if log ≥ 0 then 9600000000 * 2 ^ log.toNat else 9600000000 / 2 ^ (-log).toNat

/-- The logarithms of the Sync, Announce and Delay_Req intervals of the profile (R294). -/
def State.ptpLogs (s : State) : Int × Int × Int := if s.ptpProfile == 1 then (-3, -2, -3) else (0, 1, 0)

/-! ### Messages -/

/-- A PTP header and body. -/
def ptpMsg (ty domain flags seq ctl log corr src : Nat) (body : List Byte) : List Byte :=
  [b8 ty, 0x12] ++ beBytes 2 (34 + body.length) ++ [b8 domain, 0] ++ beBytes 2 flags ++ beBytes 8 corr ++
    [0, 0, 0, 0] ++ beBytes 10 src ++ beBytes 2 seq ++ [b8 ctl, b8 log] ++ body

/-- A timestamp field of a time in nanoseconds. -/
def tsField (ns : Nat) : List Byte := beBytes 6 (ns / 1000000000) ++ beBytes 4 (ns % 1000000000)
/-- Nanoseconds of a timestamp field. -/
def tsOf (m : List Byte) (o : Nat) : Nat := beAt m o 6 * 1000000000 + beAt m (o + 6) 4

/-- A message of port `p` as a frame: multicast on the port's transport (R296). Event messages use UDP port 319, general
ones 320. -/
def State.ptpFrame (s : State) (p : Nat) (event : Bool) (m : List Byte) : List Byte :=
  let mac := ((s.pl.port? p).map (·.mac)).getD 0
  let vlan := ((s.pl.port? p).map (·.vlan)).getD 0
  if (s.pp p).ipv4 then
    let port := if event then 319 else 320
    udpFrame (groupMac 0xE0000181) mac vlan 1 (s.rd (Reg.fxeSrcip p)).toNat 0xE0000181 port port m
  else etherHeader 0x011B19000000 mac vlan 0x88F7 ++ m

/-- The message of a received frame on the port's transport; none for the other transport (R296). -/
def State.ptpOf (s : State) (p : Nat) (f : List Byte) : Option (List Byte) :=
  let ip := etherBody f
  if (s.pp p).ipv4 then
    if etherType f == 0x0800 && ipv4Ok ip 17 && udpSumOk ip (ipPayload ip) &&
        (beAt (ipPayload ip) 2 2 == 319 || beAt (ipPayload ip) 2 2 == 320) then
      some (((ipPayload ip).take (beAt (ipPayload ip) 4 2)).drop 8)
    else none
  else if etherType f == 0x88F7 then some ip else none

/-- A general message joins the port's internal source (R271). -/
def State.ptpGeneral (s : State) (p : Nat) (m : List Byte) : State := s.txInternal p (s.ptpFrame p false m)

/-- A Sync as it leaves: one-step with its transmit timestamp, or two-step with a Follow_Up to come (R297). -/
def State.syncLeaves (s : State) (p wait : Nat) : List Byte × State :=
  let x := s.pp p
  let s := s.setPp p { x with seqSync := (x.seqSync + 1) % 65536 }
  let dom := s.pl.sys.ptpDomain
  let log := logByte s.ptpLogs.1
  let t := (s.txTime p wait).toNat
  let body := tsField (t / 65536)
  if s.bitOf (Reg.cltPport p) 7 then
    (s.ptpFrame p true (ptpMsg 0 dom 0 x.seqSync 0 log (t % 65536) (portIdentity p) body), s)
  else
    (s.ptpFrame p true (ptpMsg 0 dom 0x0200 x.seqSync 0 log 0 (portIdentity p) (List.replicate 10 0)),
      s.ptpGeneral p (ptpMsg 8 dom 0 x.seqSync 2 log (t % 65536) (portIdentity p) body))

/-- A Delay_Req as it leaves: its transmit time is kept for the answer (R294). -/
def State.delayReqLeaves (s : State) (p wait : Nat) : List Byte × State :=
  let x := s.pp p
  let s := s.setPp p { x with seqReq := (x.seqReq + 1) % 65536 }
  let t := s.txTime p wait
  let s := s.clk (fun c => { c with slave := { c.slave with req := some (x.seqReq, t) } })
  (s.ptpFrame p true (ptpMsg 1 s.pl.sys.ptpDomain 0 x.seqReq 1 0x7F 0 (portIdentity p) (List.replicate 10 0)), s)

/-- The bytes of an express frame that leaves `wait` ROOT cycles from now. -/
def State.expBytes (s : State) (p wait : Nat) : ExpItem → List Byte × State
  | .blackout b => (b, s)
  | .sync => s.syncLeaves p wait
  | .delayReq => s.delayReqLeaves p wait

end Sys2Proof.Machine
end

