-- ==== Sys2Proof/Machine/Sacn.lean ====
section
/-! DEFINITION. The sACN packets of the Fixture Engine (R317, R318), with the layouts of ANSI E1.31-2018. -/

namespace Sys2Proof.Machine

/-- The state with the Fixture Engine's own part changed. -/
def State.fx (s : State) (f : FxeState → FxeState) : State := { s with fxe := f s.fxe }

/-- The multicast address of a universe without GROUP: 239.255.(U >> 8).(U & 0xFF) (R317). -/
def uniAddr (u : Nat) : Nat := 0xEFFF0000 + u % 65536

/-- FXE_CID in wire order (R318). -/
def State.cid (s : State) : List Byte := (List.range 4).flatMap (fun k => beBytes 4 (s.rd (Reg.fxeCid k)).toNat)

/-- The Source Name field: "Solesk VX6400" padded to 64 bytes (R318). -/
def sourceName : List Byte :=
  [0x53, 0x6F, 0x6C, 0x65, 0x73, 0x6B, 0x20, 0x56, 0x58, 0x36, 0x34, 0x30, 0x30] ++ List.replicate 51 0

/-- Preamble, post-amble and ACN packet identifier of the root layer. -/
def acnPreamble : List Byte := [0x00, 0x10, 0x00, 0x00, 0x41, 0x53, 0x43, 0x2D, 0x45, 0x31, 0x2E, 0x31, 0x37, 0x00, 0x00, 0x00]

/-- Flags 0x7 and the length of a layer. -/
def acnLen (n : Nat) : List Byte := beBytes 2 (0x7000 + n)

/-- The UDP payload of a data packet: 126 + SLOTS bytes. -/
def sacnData (cid : List Byte) (prio sync seq : Nat) (term : Bool) (uni : Nat) (slots : List Byte) : List Byte :=
  let n := slots.length
  acnPreamble ++ acnLen (110 + n) ++ [0, 0, 0, 4] ++ cid ++
    acnLen (88 + n) ++ [0, 0, 0, 2] ++ sourceName ++ [b8 prio] ++ beBytes 2 sync ++ [b8 seq, if term then 0x40 else 0] ++
    beBytes 2 uni ++ acnLen (11 + n) ++ [0x02, 0xA1, 0, 0, 0, 1] ++ beBytes 2 (1 + n) ++ [0] ++ slots

/-- The UDP payload of a synchronisation packet: 49 bytes. -/
def sacnSync (cid : List Byte) (seq sync : Nat) : List Byte :=
  acnPreamble ++ acnLen 33 ++ [0, 0, 0, 8] ++ cid ++ acnLen 11 ++ [0, 0, 0, 1, b8 seq] ++ beBytes 2 sync ++ [0, 0]

/-- The frame of a packet as it leaves port `p`, and the state with its sequence number advanced. -/
def State.sacnFrame (s : State) (p : Nat) (i : SacnItem) : List Byte × State :=
  let pr := s.pl.port? p
  let send := fun (group : Nat) (data : List Byte) =>
    let f := udpFrame (groupMac group) ((pr.map (·.mac)).getD 0) ((pr.map (·.vlan)).getD 0) (s.fld Reg.fxeIpcfg 0 8)
      (s.rd (Reg.fxeSrcip p)).toNat group 5568 5568 data
    -- DF is set (R317)
    let o := etherOff f + 2
    let ip := ipHeader (28 + data.length) 0 0x4000 (s.fld Reg.fxeIpcfg 0 8) 17 (s.rd (Reg.fxeSrcip p)).toNat group []
    f.take o ++ ip ++ f.drop (o + 20)
  if i.sync then
    let q := s.fxe.syncSeq.get 0 i.uni
    (send (uniAddr i.uni) (sacnSync s.cid q i.uni), s.fx (fun x => { x with syncSeq := x.syncSeq.set i.uni ((q + 1) % 256) }))
  else
    let r := s.pl.uni? i.uni
    let q := s.fxe.seq.get 0 i.uni
    let g := (r.map (·.group)).getD 0
    let prio := if s.black || i.zero then 200 else (r.map (·.prio)).getD 100
    (send (if g == 0 then uniAddr i.uni else g) (sacnData s.cid prio ((r.map (·.sync)).getD 0) q i.term i.uni i.vals),
      s.fx (fun x => { x with seq := x.seq.set i.uni ((q + 1) % 256), sent := x.sent.set i.uni (i.n, i.vals) }))

end Sys2Proof.Machine
end

