-- ==== Sys2Proof/Machine/Transmit.lean ====
section
/-! DEFINITION. Transmission on the network ports (R269 to R272, R279 to R283): express frames and preemption, the choice
of the next preemptable frame, transmit rings. A frame is sent (`Out.frame`) when it starts; PORT_TX_FRAME_DONE ends it
and chooses the next. -/

namespace Sys2Proof.Machine

/-- Port `p`'s transmitter. -/
def State.tx (s : State) (p : Nat) : PortTx := s.ports.get {} p
/-- The state with it replaced. -/
def State.setTx (s : State) (p : Nat) (x : PortTx) : State := { s with ports := s.ports.set p x }

/-- A PRT counter advanced, with its PMC event (R288, R518). -/
def State.prtCount (s : State) (p k : Nat) (n : Nat := 1) : State := (s.bump64 (Reg.prtCntLo p k) n).count 8 p k n

/-- Bytes of a frame on the wire, padded and with its FCS (R265, R279). -/
def wireLen (bytes : List Byte) : Nat := max 60 bytes.length + 4

/-- Picoseconds per byte on the wire: 10.3125 GBd × 64/66 / 8 is 1.25 bytes per ns, 25.78125 GBd gives 3.125 (R78). -/
def byteTime (speed : Nat) : Nat := if speed == 0 then 800 else 320

/-- A PORT record's SPEED. -/
def State.speed (s : State) (p : Nat) : Nat := ((s.pl.port? p).map (·.speed)).getD 0

/-- ROOT cycles that a frame and its inter-packet gap take. -/
def State.airTime (s : State) (p n : Nat) : Nat := (n + 20) * byteTime (s.speed p) * 96 / 10000

/-- Frame counted as transmitted. -/
def State.txCounted (s : State) (p : Nat) (bytes : List Byte) (express : Bool) : State :=
  let n := wireLen bytes
  let s := ((s.prtCount p 14).prtCount p 15 n).bw (Reg.pmcBwPort p 1) n
  if express then s.prtCount p 16 else s

/-- PRT_STATUS.PREEMPT: preemption is active (R269). -/
def State.preempts (s : State) (p : Nat) : Bool := s.bitOf (Reg.prtStatus p) 5

/-- ROOT cycles that `n` bytes take on the wire, rounded up. -/
def State.byteRoot (s : State) (p n : Nat) : Nat := ceilDiv (n * byteTime (s.speed p) * 96) 10000

/-- Bytes of the preemptable frame in transmission that are sent by time `t`, with no express frame before. -/
def State.txGone (s : State) (p t : Nat) : Nat :=
  let x := s.tx p
  match x.cur with
  | some f => min (wireLen f.bytes) (x.gone + (t - x.since) * 10000 / (96 * byteTime (s.speed p)))
  | none => 0

/-- An express frame put on the wire at time `t`, or after the express frame in transmission; the preemptable frame it
interrupts goes on after it (R270). It is shown at once, with the timestamps of its start. -/
def State.expressAt (s : State) (p t : Nat) (it : ExpItem) : State :=
  let start := max t (max s.now (s.tx p).expEnd)
  let (bytes, s) := s.expBytes p (start - s.now) it
  let x := s.tx p
  let fin := start + s.airTime p (wireLen bytes)
  let x := { x with expEnd := fin, expCur := some it, gone := s.txGone p start, since := if x.cur.isSome then fin else x.since }
  ((s.setTx p x).emit (.frame p true bytes)).txCounted p bytes true

/-! ### What becomes of a frame that has ended -/

/-- A ring transmit descriptor written back with its status (R279). -/
def State.txrBack (s : State) (p r code : Nat) : State :=
  let x := s.tx p
  let y := x.rings.get {} r
  let tag := slice y.desc 0x12 2
  let ts := if y.sent == 0 then List.replicate 10 0 else leBytes 6 y.tsSec ++ leBytes 4 y.tsNs
  let d := slice y.desc 0 2 ++ [0, 0] ++ leBytes 4 y.sent ++ ts ++ tag ++ [b8 code] ++ List.replicate 10 0 ++ [0x80]
  let s := s.setTx p { x with rings := x.rings.set r {} }
  s.ringWriteBack (.tx (Fin.ofNat 64 p) (Fin.ofNat 4 r)) d

/-- The preemptable frame has ended; `cut` when a blackout ended it (R270). -/
def State.txEnded (s : State) (p : Nat) (f : TxFrame) (cut : Bool) : State :=
  match f.tag with
  | .slice t n i => s.sliceSent p t n i
  | .control t tsn last => s.controlSent p t tsn last
  | .ring r last =>
    let x := s.tx p
    let y := x.rings.get {} r
    if !y.busy then s
    else if cut then s.txrBack p r 0x08
    else
      let s := s.setTx p { x with rings := x.rings.set r { y with sent := y.sent + 1 } }
      if last then s.txrBack p r y.endCode else s
  | _ => s

/-- The preemptable frame in transmission ended at once with an error block (R270). -/
def State.txCut (s : State) (p : Nat) : State :=
  let x := s.tx p
  match x.cur with
  | none => s
  | some f => (((s.setTx p { x with cur := none }).emit (.cut p)).prtCount p 18).txEnded p f true

/-! ### Express frames (R269, R270) -/

/-- When the preemptable frame in transmission can be preempted: with at least 64 bytes of the fragment sent and 64 bytes of
the frame left (R270). -/
def State.preemptPoint (s : State) (p : Nat) : Option Nat :=
  let x := s.tx p
  match x.cur with
  | some f =>
    let t := max s.now (x.since + s.byteRoot p 64)
    if s.txGone p t + 64 ≤ wireLen f.bytes then some t else none
  | none => none

/-- The preemptable frame in transmission stands still behind an express frame, or has not started behind one. -/
def State.txStill (s : State) (p : Nat) : Bool := (s.tx p).cur.isSome && s.now < (s.tx p).since

/-- The frame is a BLACKOUT. -/
def ExpItem.fire : ExpItem → Bool
  | .blackout _ => true
  | _ => false

/-- A BLACKOUT ends an express PTP event message in transmission; it is sent again (R270). -/
def State.cutExpress (s : State) (p : Nat) : State :=
  let x := s.tx p
  match x.expCur with
  | some it =>
    if it.fire || s.now ≥ x.expEnd then s
    else
      let since := if s.txStill p then s.now else x.since
      ((s.setTx p { x with expEnd := s.now, since := since, expCur := none, expQ := x.expQ ++ [it] }).emit (.cut p)).prtCount p 18
  | none => s

/-- An express frame becomes due on port `p` (R269 to R272). -/
def State.express (s : State) (p : Nat) (it : ExpItem) : State :=
  if !s.linkUp p then s.prtCount p 19
  else
    let s := if it.fire then s.cutExpress p else s
    let x := s.tx p
    match x.cur with
    | none => s.expressAt p s.now it
    | some _ =>
      if it.fire && s.speed p == 0 then (s.txCut p).expressAt p s.now it
      else if s.txStill p then s.expressAt p s.now it
      else match (if s.preempts p then s.preemptPoint p else none) with
        | some t => (s.prtCount p 17).expressAt p t it
        | none => s.setTx p { x with expQ := x.expQ ++ [it] }

/-- The express frames waiting for a frame boundary leave, one after the other (R269). -/
def State.expressWaiting (s : State) (p : Nat) : State :=
  let q := (s.tx p).expQ
  let s := s.setTx p { s.tx p with expQ := [] }
  (q.filter (·.fire) ++ q.filter (!·.fire)).foldl (fun s e => s.expressAt p s.now e) s

/-! ### The next preemptable frame (R209, R231, R249, R271) -/

/-- The Avenue's next frame: heartbeat or notice, FRAME_END, slices, control items; a control item first once 32 slices
have gone since the last (R209, R231, R249). -/
def State.avenueNext (s : State) (p : Nat) : Option (TxFrame × State) :=
  let x := s.av p
  match s.startItems p x.items with
  | some (f, s', rest) => some (f, s'.setAv p { s'.av p with items := rest })
  | none =>
    match (if s.active && !s.black then s.startItems p x.ends else none) with
    | some (f, s', rest) => some (f, s'.setAv p { s'.av p with ends := rest })
    | none =>
      let ctl := (s.nextControl p).map (fun r => (r.1, r.2.setAv p { r.2.av p with sinceCtl := 0 }))
      let slice := if s.active && !s.black then (s.nextSlice p).bind (s.startSlice p) else none
      match slice, ctl with
      | some a, some c => if x.sinceCtl ≥ 32 then some c else some a
      | some a, none => some a
      | none, c => c

/-- The next frame of one of the other sources: 0 Fixture Engine, 1 internal, 2 to 5 rings (R271). -/
def State.otherNext (s : State) (p src : Nat) : Option (TxFrame × State) :=
  let x := s.tx p
  match src with
  | 0 =>
    match x.fxe with
    | i :: t =>
      let (bytes, s) := s.sacnFrame p i
      some (⟨.sacn i.uni, bytes⟩, s.setTx p { x with fxe := t, rr := 0 })
    | [] => none
  | 1 => match x.internal with | f :: t => some (f, s.setTx p { x with internal := t, rr := 1 }) | [] => none
  | k + 2 =>
    let y := x.rings.get {} k
    match (if s.mode.mode == .maintenance then [] else y.frames) with
    | f :: t =>
      let first := y.sent == 0 && y.tsSec == 0 && y.tsNs == 0
      let st := s.txStamp p (x.expEnd - s.now)
      let y' := { y with frames := t, tsSec := if first then st / 1000000000 else y.tsSec,
                         tsNs := if first then st % 1000000000 else y.tsNs }
      some (f, s.setTx p { x with rings := x.rings.set k y', rr := k + 2 })
    | [] => none

/-- The other sources in round robin, from the one after that served last. -/
def State.othersNext (s : State) (p : Nat) : Option (TxFrame × State) :=
  ((List.range 6).map (fun i => ((s.tx p).rr + 1 + i) % 6)).findSome? (fun k => s.otherNext p k)

/-- The next packet of a zero set (R320). -/
def State.zeroNext (s : State) (p : Nat) : Option (TxFrame × State) :=
  match (s.tx p).zeros with
  | i :: t =>
    let (bytes, s) := s.sacnFrame p i
    some (⟨.sacn i.uni, bytes⟩, s.setTx p { s.tx p with zeros := t, aveRun := 0 })
  | [] => none

/-- The next preemptable frame of port `p`: of a zero set, which goes ahead of everything else (R320), or by R271. -/
def State.txNext (s : State) (p : Nat) : Option (TxFrame × State) :=
  let ave := (s.avenueNext p).map (fun r => (r.1, r.2.setTx p { r.2.tx p with aveRun := (r.2.tx p).aveRun + 1 }))
  let oth := (s.othersNext p).map (fun r => (r.1, r.2.setTx p { r.2.tx p with aveRun := 0 }))
  match s.zeroNext p with
  | some z => some z
  | none =>
    match ave, oth with
    | some a, some o => if (s.tx p).aveRun ≥ 32 then some o else some a
    | some a, none => some a
    | none, o => o

/-- An idle transmitter starts the next frame, if one waits, the link is up and the mode lets ports transmit (R34, R262,
R271). -/
def State.txStart (s : State) (p : Nat) : State :=
  if !s.linkUp p || !s.ptpOn || (s.tx p).cur.isSome then s
  else
    -- the Avenue reads the pointers of its control queue
    let s := if s.active then s.queGuard (0x40 + p) 0xFF else s
    match s.txNext p with
    | none => s
    | some (f, s) => (s.setTx p { s.tx p with cur := some f, gone := 0, since := max s.now (s.tx p).expEnd }).emit (.frame p false f.bytes)

/-- The preemptable frame in transmission ends and the transmitter chooses the next. -/
def State.txDone (s : State) (p : Nat) : State :=
  let x := s.tx p
  let s := match x.cur with
    | some f => ((s.setTx p { x with cur := none }).txCounted p f.bytes false).txEnded p f false
    | none => s
  (s.expressWaiting p).txStart p

/-- PORT_TX_FRAME_DONE: a port's preemptable transmitter has finished a frame, or is idle, and chooses the next (R271). -/
def execPortTxFrameDone (port : Fin 64) (s : State) : Host.Outcome State Fault Refusal :=
  .next (s.begin.txDone port.val)

/-- The hold-back of a cut-through slice on port `p`, in PIPE cycles (R213). -/
def State.holdBack (s : State) (p : Nat) (j : TileJob) (h : HeldSlice) : Nat :=
  let v := s.asOf j.n
  match v.pl.tile? j.tile with
  | none => 0
  | some t =>
    let l := v.tileLayout t
    let n := h.bytes.length
    let per := l.channels * fmtBits l.format
    if per == 0 then 0 else if s.speed p == 1 then ceilDiv (n * 8 * 125 - n * 64 * per) (per * 125)
    else ceilDiv (n * 8 * 25 - n * 32 * per) (per * 25)

/-- The cut-through slice of a port whose hold-back ends first may start then (R213). -/
def State.ctSliceGo (s : State) (p : Nat) : State :=
  let x := s.av p
  let due := fun (j : TileJob) (h : HeldSlice) => h.at_ + 6 * s.holdBack p j h
  let wait := (x.jobs.filter (·.cut)).flatMap (fun j => (j.held.filter (!·.go)).map (fun h => (j, h)))
  match sortBy (fun a b => due a.1 a.2 < due b.1 b.2) wait with
  | [] => s
  | (j, h) :: _ =>
    let hb := s.holdBack p j h
    let s := s.at_ (due j h)
    let s := s.putJob p { j with held := j.held.map (fun k => if k.i == h.i then { k with go := true } else k) } true
    let y := s.av p
    (s.setAv p { y with hold := max y.hold hb }).txStart p

/-- CT_SLICE_START: a cut-through slice starts h PIPE cycles after its first packed byte arrives, when the transmitter is
free (R213, R214). -/
def execCtSliceStart (port : Fin 64) (s : State) : Host.Outcome State Fault Refusal :=
  let s := s.begin
  .next (if s.active && !s.black then s.ctSliceGo port.val else s)

/-! ### Transmit rings (R279 to R282) -/

/-- The frames of a segmented descriptor (R281). -/
def segmentFrames (tpl payload : List Byte) (size : Nat) : List (List Byte) :=
  let o := etherOff tpl + 2
  let n := max 1 (ceilDiv payload.length (max size 1))
  let ident := beAt tpl (o + 4) 2
  let noSum := beAt tpl (o + 26) 2 == 0
  (List.range n).map (fun i =>
    let body := slice payload (i * size) size
    let ip0 := slice tpl o 2 ++ beBytes 2 (28 + body.length) ++ beBytes 2 (ident + i) ++ slice tpl (o + 6) 4
    let addr := slice tpl (o + 12) 8
    let sum := inetSum (ip0 ++ [0, 0] ++ addr)
    let ulen := beBytes 2 (8 + body.length)
    let udp0 := slice tpl (o + 20) 4 ++ ulen
    let c := inetSum (addr ++ [0, 17] ++ ulen ++ udp0 ++ [0, 0] ++ body)
    let usum := if noSum then 0 else if c == 0 then 0xFFFF else c
    tpl.take o ++ ip0 ++ beBytes 2 sum ++ addr ++ udp0 ++ beBytes 2 usum ++ body)

/-- The template of a segmented descriptor is Ethernet, IPv4 with IHL 5 and no fragmentation, then UDP (R281). -/
def templateOk (tpl : List Byte) (hdr : Nat) : Bool :=
  let o := etherOff tpl + 2
  hdr == o + 28 && etherType tpl == 0x0800 && byteAt tpl o == 0x45 && beAt tpl (o + 6) 2 % 0x4000 == 0 &&
    byteAt tpl (o + 9) == 17

/-- The code of a transmit descriptor, 0 when it passes (R280). -/
def State.txrCheck (s : State) (pr : PortRec) (d : List Byte) : Nat :=
  let set := leAt d 0 2
  let hdr := leAt d 2 2
  let len := leAt d 4 4
  let off := leAt d 8 8
  let size := leAt d 0x10 2
  let seg := natBit (byteAt d 0x14) 0
  if len == 0 then 0x03
  else if (s.setRange pr.dist set off len).isNone || byteAt d 0x14 > 1 || leAt d 0x15 11 != 0 then 0x02
  else if seg && size == 0 then 0x04
  else if (!seg && len > pr.maxFrame - 4) || (seg && (hdr + size + 4 > pr.maxFrame || len > 4194304)) then 0x05
  else if seg && (len < hdr || !templateOk (s.readSetId set off hdr) hdr) then 0x06
  else 0

/-- The number of frames of a descriptor before the first whose data is poisoned (R280). -/
def State.txrClean (s : State) (d : List Byte) (n : Nat) : Nat :=
  let off := leAt d 8 8
  let len := leAt d 4 4
  let hdr := leAt d 2 2
  let size := leAt d 0x10 2
  match s.set? (leAt d 0 2) with
  | none => n
  | some z =>
    if !natBit (byteAt d 0x14) 0 then (if s.poisoned z off len then 0 else n)
    else if s.poisoned z off hdr then 0
    else ((List.range n).find? (fun i => s.poisoned z (off + hdr + i * size) (min size (len - hdr - i * size)))).getD n

/-- Transmit ring `r` of port `p` takes its next descriptor (R280 to R282). -/
def State.txrTake (s : State) (p : Fin 64) (r : Fin 4) : State :=
  let id : RingId := .tx p r
  let x := s.tx p.val
  match s.pl.port? p.val with
  | none => s
  | some pr =>
    if !s.ringOn id || s.ringAvail id == 0 || (x.rings.get {} r.val).busy then s
    else
      let d := s.ringDesc id
      let c := s.txrCheck pr d
      let s := s.setTx p.val { x with rings := x.rings.set r.val { busy := true, desc := d } }
      if c != 0 then s.txrBack p.val r.val c
      else
        let data := s.readSetId (leAt d 0 2) (leAt d 8 8) (leAt d 4 4)
        let hdr := leAt d 2 2
        let fs := if natBit (byteAt d 0x14) 0 then segmentFrames (data.take hdr) (data.drop hdr) (leAt d 0x10 2) else [data]
        let n := s.txrClean d fs.length
        let code := if n < fs.length then 0x07 else 0
        let fs := (fs.take n).zipIdx.map (fun (b, i) => (⟨.ring r.val (i + 1 == n), b ++ List.replicate (60 - b.length) 0⟩ : TxFrame))
        let x := s.tx p.val
        if n == 0 then s.txrBack p.val r.val code
        else s.setTx p.val { x with rings := x.rings.set r.val { busy := true, desc := d, frames := fs, endCode := code } }

/-- RING_TX_DESCRIPTOR: a transmit ring takes its next descriptor, in Standby and Active while the link is up (R272, R274,
R280). -/
def execRingTxDescriptor (port : Fin 64) (ring : Fin 4) (s : State) : Host.Outcome State Fault Refusal :=
  let s := s.begin
  .next (if (s.mode.mode == .standby || s.mode.mode == .active) && s.linkUp port.val then s.txrTake port ring else s)

/-- A function-level reset of a port's district (R283): its rings are disabled with HEAD and TAIL 0; a transmit frame on
the wire completes without write-back. Each entry of `rx` is the port of one frame that was being received into a ring: it
is discarded and counted. -/
def State.resetPortRings (s : State) (d : Nat) (rx : List Nat) : State :=
  (s.pl.ports.filter (·.dist == d)).foldl (fun s pr =>
    let p := pr.port
    let lost := (rx.filter (· == p)).length
    let s := if lost == 0 || !s.linkUp p then s else s.prtCount p 23 lost
    let s := (List.range 8).foldl (fun s k =>
      let b := if k < 4 then Reg.rxrCtl p k else Reg.txrCtl p (k - 4)
      let no := if k < 4 then p * 4 + k else 256 + p * 4 + (k - 4)
      let s := (s.setF b 31 1 0).wr (b + 0x14) 0
      let s := (s.wr (b + 0x18) 0).setF (b + 0x20) 0 1 0
      { s with rings := s.rings.set no {} }) s
    (List.range 4).foldl (fun s r => s.txrForget p r) s) s

end Sys2Proof.Machine
end

