-- ==== Sys2Proof/Machine/Fixture.lean ====
section
/-! DEFINITION. The Fixture Engine (R308 to R327): buffer registrations, the merge, the output cycle, DMX512-A packets and
the RDM controller; and the Fire Lane's doorbells (R235, R236, R320, R367 to R369). -/

namespace Sys2Proof.Machine

/-- DMX port `k`. -/
def State.dmxp (s : State) (k : Nat) : DmxPort := s.fxe.dmx.get {} k
/-- The state with DMX port `k` replaced. -/
def State.setDmx (s : State) (k : Nat) (x : DmxPort) : State := s.fx (fun f => { f with dmx := f.dmx.set k x })

/-- An access to registers of district slot `j` (R326). -/
def State.fxeSlot (s : State) (init : InitId) (j : Nat) (f : State → State) (write : Bool := true) : State :=
  s.access init 10 (fun s => if slotAllowed (distOf init) j then f s else s.setErr Reg.fxeStatus 0x07) write

/-! ### Registrations (R311) -/

/-- The code that refuses a commit of slot `j` with a bank, 0 when it passes. -/
def State.fxeCode (s : State) (j bank : Nat) : Nat :=
  let base := s.fld (Reg.fxeDrange j) 0 16
  let count := s.fld (Reg.fxeDrange j) 16 16
  match s.set? (s.fld (Reg.fxeDset j) 0 16) with
  | none => 0x01
  | some z =>
    if z.dist != slotDist j then 0x01
    else if base == 0 || base > 63999 || base + count > 64000 || z.bytes < 544 * count * (bank + 1) then 0x02
    else 0

/-- FXE_DCOMMIT: a write checks and stages the district's buffer registration and bank (R311). -/
def execFxeDcommit (init : InitId) (slot : Fin 5) (value : Word32) (s : State) : Host.Outcome State Fault Refusal :=
  .next (s.begin.fxeSlot init slot.val (fun s =>
    let j := slot.val
    let k := Reg.fxeDstatus j
    let bank := field value 0 1
    let c := s.fxeCode j bank
    if c != 0 then s.setErr k c
    else
      let b : FxeBuf := { set := s.fld (Reg.fxeDset j) 0 16, base := s.fld (Reg.fxeDrange j) 0 16,
                          count := s.fld (Reg.fxeDrange j) 16 16, bank := bank }
      ((s.fx (fun f => { f with pend := f.pend.set j b })).setF k 1 1 1).setErr k 0))

/-- Pending registrations become active at the sample point of frame `n` (R311). -/
def State.fxeCommits (s : State) (n : Word32) : State :=
  let p := s.fxe.pend
  let s := s.fx (fun f => { f with pend := [] })
  p.foldl (fun s e =>
    let k := Reg.fxeDstatus e.1
    (((s.fx (fun f => { f with act := f.act.set e.1 e.2 })).setF k 1 2 2).setF k 0 1 e.2.bank).wr (Reg.fxeDapplied e.1) n) s

/-! ### The merge (R310, R312 to R314) -/

/-- A district's part in a universe. -/
structure FxePart where
  dist : Nat
  prio : Nat
  change : Nat
  slots : List Byte
deriving DecidableEq, Repr

/-- The slots whose active buffer covers a universe. -/
def State.fxeCover (s : State) (u : Nat) : List (Nat × FxeBuf) :=
  s.fxe.act.filter (fun e => e.2.base ≤ u && u < e.2.base + e.2.count)

/-- The parts of a universe, lowest district first, and the state with the codes of blocks that do not count. -/
def State.fxeParts (s : State) (u : Nat) : List FxePart × State :=
  (s.fxeCover u).foldl (fun (acc : List FxePart × State) e =>
    let (l, s) := acc
    let off := e.2.bank * (544 * e.2.count) + 544 * (u - e.2.base)
    match s.set? e.2.set with
    | none => (l, s)
    | some z =>
      let b := s.readSet z off 544
      if s.poisoned z off 544 then (l, s.setErr (Reg.fxeDstatus e.1) 0x05)
      else if byteAt b 1 > 200 then (l, s.setErr (Reg.fxeDstatus e.1) 0x08)
      else if !natBit (byteAt b 0) 0 then (l, s)
      else (l ++ [⟨slotDist e.1, byteAt b 1, leAt b 4 4, b.drop 32⟩], s)) ([], s)

/-- Slot `k` (1 to SLOTS) of a universe merged from its parts (R313). -/
def mergeSlot (fixtures : List FixRec) (tops : List FxePart) (owner k : Nat) : Byte :=
  let htp := fixtures.any (fun f => f.merge == 1 && f.start ≤ k && k < f.start + f.foot)
  let v := fun (p : FxePart) => byteAt p.slots (k - 1)
  if htp then b8 (maxOf (tops.map v)) else b8 (((tops.find? (·.dist == owner)).map v).getD 0)

/-- The LTP owner of a universe after the update of R314. -/
def State.fxeOwner (s : State) (u : Nat) (tops : List FxePart) : Nat :=
  let changed := tops.filter (fun p => s.fxe.change.find? (8 * u + p.dist) != some p.change)
  if !changed.isEmpty then maxOf (changed.map (·.dist))
  else
    match s.fxe.owner.find? u with
    | some o => if tops.any (·.dist == o) then o else maxOf (tops.map (·.dist))
    | none => maxOf (tops.map (·.dist))

/-- A universe merged (R313, R314). -/
def State.mergeUni (s : State) (r : UniRec) : State :=
  let (parts, s) := s.fxeParts r.uni
  let top := maxOf (parts.map (·.prio))
  let tops := parts.filter (·.prio == top)
  let owner := s.fxeOwner r.uni tops
  let fixtures := s.pl.fixtures.filter (·.uni == r.uni)
  let vals := if parts.isEmpty then List.replicate r.slots 0
    else (List.range r.slots).map (fun k => mergeSlot fixtures tops owner (k + 1))
  s.fx (fun f =>
    { f with vals := f.vals.set r.uni vals,
             owner := if parts.isEmpty then f.owner else f.owner.set r.uni owner,
             change := parts.foldl (fun t p => t.set (8 * r.uni + p.dist) p.change) f.change })

/-! ### The output cycle (R315, R316) -/

/-- The last universe of a synchronisation group on a port (R315). -/
def State.lastOfGroup (s : State) (r : UniRec) : Bool :=
  r.sync != 0 && !s.pl.universes.any (fun u => u.sync == r.sync && u.out == r.out && r.uni < u.uni)

/-- A packet of the Fixture Engine queued on a port; one that is due while the link is down is discarded (R272). -/
def State.fxeQueue (s : State) (p : Nat) (i : SacnItem) : State :=
  if !s.linkUp p then (s.bump64 (Reg.prtCntLo p 19)).count 8 p 19
  else
    let x := s.ports.get {} p
    let s := { s with ports := s.ports.set p { x with fxe := x.fxe ++ [i] } }
    if i.sync then s else s.count 10 0 0

/-- A merged universe's packets queued, or its values given to the DMX port that awaits them (R315, R322). -/
def State.queueUni (s : State) (r : UniRec) : State :=
  let zero := s.fxe.zero || s.black
  let vals := if zero then List.replicate r.slots 0 else s.fxe.vals.get [] r.uni
  if r.out < 64 then
    let s := s.fxeQueue r.out { uni := r.uni, vals := vals, zero := zero, n := s.fxe.n }
    if s.lastOfGroup r then s.fxeQueue r.out { uni := r.sync, sync := true } else s
  else
    let k := r.out - 0xF0
    let x := s.dmxp k
    if !x.awaits then s
    else if x.since.isSome then s.setDmx k { x with vals := vals, awaits := false }
    else s.setDmx k { x with got := some vals, awaits := false }

/-- Merged universes at the front of those due are queued, in ascending order (R315). -/
def State.fxeFlush (s : State) : Nat → State
  | 0 => s
  | fuel + 1 =>
    match s.fxe.due with
    | [] => s
    | u :: t =>
      if !s.fxe.merged.contains u then s
      else
        let s := s.fx (fun f => { f with due := t, merged := f.merged.filter (· != u) })
        let s := match s.pl.uni? u with | some r => s.queueUni r | none => s
        State.fxeFlush (if t.isEmpty then s.wr Reg.fxeFrame s.fxe.n else s) fuel

/-- Everything that can be queued is. -/
def State.fxeFlushAll (s : State) : State := s.fxeFlush (s.fxe.due.length + 1)

/-- The universes of the group that `u` belongs to (R316). -/
def State.groupOf (s : State) (u : Nat) : List Nat :=
  match s.pl.uni? u with
  | some r => if r.sync == 0 then [u] else (s.pl.universes.filter (·.sync == r.sync)).map (·.uni)
  | none => [u]

/-- FXE_MERGE_DONE: the merge of the synchronisation group of a universe completes and its packets are queued (R316). -/
def execFxeMergeDone (uni : Nat) (s : State) : Host.Outcome State Fault Refusal :=
  let s := s.begin
  .next (if !s.active || !s.fxe.due.contains uni || s.fxe.merged.contains uni then s
    else
      let g := (s.groupOf uni).filter (s.fxe.due.contains ·)
      let s := g.foldl (fun s u => match s.pl.uni? u with | some r => s.mergeUni r | none => s) s
      (s.fx (fun f => { f with merged := f.merged ++ g })).fxeFlushAll)

/-- The universe that DMX port `k` carries. -/
def State.dmxUni (s : State) (k : Nat) : Option UniRec := s.pl.universes.find? (fun u => u.out == 0xF0 + k)

/-- Groups whose merge has not completed by the next sample point are not sent (R316); which of the districts that cover
such a group still had a read outstanding is a free value (log 239). -/
def State.fxeLateGroups (s : State) : State :=
  let late := s.fxe.due.filter (!s.fxe.merged.contains ·)
  let heads := late.filter (fun u => !late.any (fun v => v < u && (s.groupOf u).contains v))
  let s := heads.foldl (fun s u =>
    let g := s.groupOf u
    let s := (s.bump Reg.fxeLate).count 10 0 1
    ((List.range 5).filter (fun j => g.any (fun v => (s.fxeCover v).any (·.1 == j)) && Config.readOutstanding s.fxe.n u j)).foldl
      (fun s j => s.bump (Reg.fxeDstale j)) s) s
  let s := (List.range 4).foldl (fun s k =>
    if (s.dmxUni k).any (fun r => late.contains r.uni) then s.setDmx k { s.dmxp k with awaits := false } else s) s
  let some := !s.fxe.due.isEmpty
  let s := s.fx (fun f => { f with due := f.due.filter (f.merged.contains ·) })
  let s := s.fxeFlushAll
  if some then s.wr Reg.fxeFrame s.fxe.n else s

/-! ### DMX512-A (R320 to R322) -/

/-- Break and mark-after-break of port `k` in microseconds. -/
def State.dmxLead (s : State) (k : Nat) : Nat := s.fld (Reg.fxeDmxcfg k) 16 10 + s.fld (Reg.fxeDmxcfg k) 8 7

/-- A DMX packet starts; it carries zeros while BLACK is 1, else the merge of its frame, or until that completes the values
of the last packet (R322). -/
def State.dmxStart (s : State) (k : Nat) (r : UniRec) : State :=
  let x := s.dmxp k
  let old := x.got.getD x.vals
  let vals := if s.black then List.replicate r.slots 0 else old.take r.slots ++ List.replicate (r.slots - old.length) 0
  (s.setDmx k { x with since := some s.now, vals := vals, awaits := x.awaits && !s.black, wait := false, got := none }).setF
    (Reg.fxeDmxstat k) 16 1 1

/-- The packet of a due frame starts, or waits for the end of an exchange (R322). -/
def State.dmxNew (s : State) (k : Nat) (r : UniRec) : State :=
  let x := s.dmxp k
  let s := s.setDmx k { x with awaits := true, got := none, n := s.frame }
  if x.rdm.any (·.sent.isSome) then s.setDmx k { s.dmxp k with wait := true } else s.dmxStart k r

/-- A due frame on a DMX port: it is skipped while a packet is on the line, or waits (R322). -/
def State.dmxDue (s : State) (k : Nat) (r : UniRec) : State :=
  let x := s.dmxp k
  if x.since.isSome || x.wait then s.bump (Reg.fxeDmxskip k) else s.dmxNew k r

/-- The message of an RDM request with its checksum. -/
def rdmBytes (m : List Byte) : List Byte := m ++ beBytes 2 (sumOf (m.map (·.toNat)))

/-- The request of a port's exchange is sent, in Active, if the line is free and no exchange has taken place since the last
packet (R34, R322, R323). -/
def State.rdmSend (s : State) (k : Nat) : State :=
  let x := s.dmxp k
  match x.rdm with
  | some r =>
    if !s.active || r.sent.isSome || x.since.isSome || (x.exchanged && (s.dmxUni k).isSome) then s
    else
      let b := rdmBytes r.bytes
      (s.setDmx k { x with rdm := some { r with sent := some (s.now + usRoot (188 + 44 * b.length)) }, exchanged := true }).emit (.rdm k b)
  | none => s

/-- A DMX packet ends with the values it has carried. -/
def State.dmxEnded (s : State) (k : Nat) (sent : List Byte) : State :=
  let x := s.dmxp k
  let s := (s.setDmx k { x with since := none, awaits := false, exchanged := false }).setF (Reg.fxeDmxstat k) 16 1 0
  let s := match s.dmxUni k with | some r => s.fx (fun f => { f with sent := f.sent.set r.uni (x.n, x.vals) }) | none => s
  ((s.emit (.dmx k sent)).bump (Reg.fxeDmxpkt k)).count 10 0 2

/-- DMX_PACKET_END: a DMX packet finishes and the line holds mark; a waiting RDM request follows (R321, R323). -/
def execDmxPacketEnd (dmx : Fin 4) (s : State) : Host.Outcome State Fault Refusal :=
  let s := s.begin
  let k := dmx.val
  let x := s.dmxp k
  .next (match x.since with
    | none => s
    | some t =>
      let s := s.at_ (t + usRoot (s.dmxLead k + 44 * (1 + x.vals.length)))
      (s.dmxEnded k (0 :: x.vals)).rdmSend k)

/-- The packet on the line of DMX port `k` ends after its current slot. -/
def State.dmxStop (s : State) (k : Nat) : State :=
  let x := s.dmxp k
  match x.since with
  | none => s
  | some t =>
    let lead := usRoot (s.dmxLead k)
    let n := if s.now < t + lead then 0 else (s.now - t - lead) / usRoot 44 + 1
    s.dmxEnded k ((0 :: x.vals).take n)

/-- The DMX ports as Active is left: the line holds mark, and no packet waits (R34, R316). -/
def State.dmxLeave (s : State) : State :=
  (List.range 4).foldl (fun s k =>
    let s := s.dmxStop k
    s.setDmx k { s.dmxp k with wait := false, awaits := false, got := none }) s

/-- A blackout on a DMX port: the packet in progress ends after its current slot, and a packet of zeros starts (R320). -/
def State.dmxBlack (s : State) (k : Nat) : State :=
  match s.dmxUni k with
  | none => s
  | some r =>
    (s.dmxStop k).dmxNew k r

/-! ### The sample point (R311, R315, R322) -/

/-- The universes due in frame `n` are taken for merging, and due DMX packets start. -/
def State.fxeBegin (s : State) (n : Word32) : State :=
  let due := s.pl.universes.filter (fun r => n.toNat % max 1 r.rateDiv == 0)
  let s := s.fx (fun f => { f with n := n, due := due.map (·.uni), merged := [], zero := s.black })
  let s := due.foldl (fun s r => if 0xF0 ≤ r.out then s.dmxDue (r.out - 0xF0) r else s) s
  if due.isEmpty then s.wr Reg.fxeFrame n else s

/-- A frame boundary for the Fixture Engine; `sending` when frame `n` is a frame of Active, `full` when a full apply takes
effect at it and drops the pending registrations (R325). -/
def State.fxeTick (s : State) (n : Word32) (sending full : Bool) : State :=
  let s := s.fxeLateGroups
  let s := if full then s else s.fxeCommits n
  if sending then s.fxeBegin n else s

/-- What waits of the Fixture Engine is discarded as Active is left. -/
def State.fxeDrop (s : State) : State :=
  let s := s.fx (fun f => { f with due := [], merged := [] })
  (s.ports_.foldl (fun s p => { s with ports := s.ports.set p { s.ports.get {} p with fxe := [], zeros := [] } }) s).dmxLeave

/-- Active is left (R319): packets not started are discarded, and three packets with Stream_Terminated go out for every
network universe. -/
def State.fxeLeave (s : State) : State :=
  let s := s.fxeDrop
  let s := (s.pl.universes.filter (·.out < 64)).foldl (fun s r =>
    let vals := (s.fxe.vals.get [] r.uni).take r.slots
    let it : SacnItem := { uni := r.uni, vals := vals ++ List.replicate (r.slots - vals.length) 0, term := true, n := s.frame }
    (List.range 3).foldl (fun s _ => s.fxeQueue r.out it) s) s
  s.setF Reg.fxeStatus 16 1 0

/-- The zero set of a port (R320). -/
def State.zeroSet (s : State) (p : Nat) : List SacnItem :=
  let us : List UniRec := s.pl.universes.filter (·.out == p)
  us.map (fun r => ({ uni := r.uni, vals := List.replicate r.slots 0, zero := true, n := s.frame } : SacnItem)) ++
    (((us.map (·.sync)).filter (· != 0)).eraseDups).map (fun g => ({ uni := g, sync := true } : SacnItem))

/-- The Fixture Engine's part of a blackout; `was` when BLACK was 1 already (R320). -/
def State.fxeBlack (s : State) (was : Bool) : State :=
  let s := s.fx (fun f => { f with zero := true })
  if !s.active then s
  else
    let s := s.ports_.foldl (fun s p =>
      let z := s.zeroSet p
      let x := s.ports.get {} p
      if z.isEmpty then s
      else if !s.linkUp p then (s.bump64 (Reg.prtCntLo p 19) z.length).count 8 p 19 z.length
      else { s with ports := s.ports.set p { x with fxe := if was then x.fxe else [], zeros := if was then x.zeros ++ z else z } }.count 10 0 0
        (z.filter (fun (i : SacnItem) => !i.sync)).length) s
    (List.range 4).foldl (fun s k => s.dmxBlack k) s

/-! ### The Fire Lane (R235, R236, R367 to R369) -/

/-- What a blackout of district `d` does to the outputs; `was` when BLACK was 1 already (R236, R320). -/
def State.blackOut (s : State) (was : Bool) (d : Nat) : State :=
  let s := if was then s else s.discardSlices
  let s := if s.active then
      (s.pl.ports.filter (fun r => natBit r.use 0)).foldl (fun s r => s.express r.port (.blackout (s.blackoutMsg r.port d))) s
    else s
  s.fxeBlack was

/-- A blackout event of district `d`; a twin tells its peer (R236, R487). -/
def State.blackEvent (s : State) (d : Nat) : State :=
  let was := s.black
  let s := if was then s else s.setF Reg.lmsBlackout 8 8 (s.bgen + 1)
  let s := (s.setF Reg.lmsBlackout 0 1 1).setF Reg.lmsBlackout 16 4 d
  let s := s.setF Reg.lmsBlackcnt 0 24 (s.fld Reg.lmsBlackcnt 0 24 + 1)
  { (s.blackOut was d).tellBlack with csw := { s.csw with rang := some s.now } }

/-- An accepted blackout doorbell of district `d`. `rung`: an earlier district's doorbell of the same FAB cycle has made the
event, which this one joins: it is counted, and BGEN, BLACK, DIST and the frames stay (R236, R368). -/
def State.ring (s : State) (rung : Bool) (d : Nat) : State :=
  if rung then s.setF Reg.lmsBlackcnt 0 24 (s.fld Reg.lmsBlackcnt 0 24 + 1) else s.blackEvent d

/-- A write of HST_FIRE of host district `d`: KEY is checked before authority (R367). -/
def State.hostFire (s : State) (rung : Bool) (d : Nat) (v : Word32) : State :=
  let k := distKey d Reg.hstFireStat
  let refuse := fun (c : Nat) => (s.setF k 0 16 (s.fld k 0 16 + 1)).setErr k c
  if field v 16 16 != 0xF1AE then refuse 0x0C
  else if !s.auth false (·.fireAuth) d then refuse 0x0B
  else (s.ring rung d).setErr k 0

/-- A write of MBX_FIRE by the house district rings with DIST 7; a wrong KEY is ignored (R369). -/
def State.houseFire (s : State) (rung : Bool) (init : InitId) (v : Word32) : State :=
  s.access init 13 (fun s => if isHouse init && field v 16 16 == 0xF1AE then s.ring rung houseDist else s)

/-- BLACKOUT_DOORBELL: a write of HST_FIRE of a host port rings the blackout (R367). -/
def execBlackoutDoorbell (host : Fin 4) (value : Word32) (s : State) : Host.Outcome State Fault Refusal :=
  let s := s.begin
  .next (if s.arrives (BitVec.ofNat 8 (0x10 + host.val)) then s.hostFire false host.val value else s)

/-- HOUSE_DOORBELL: a write of MBX_FIRE by the house district rings the blackout with DIST 7 (R369). -/
def execHouseDoorbell (init : InitId) (value : Word32) (s : State) : Host.Outcome State Fault Refusal :=
  .next (s.begin.houseFire false init value)

/-- BLACKOUT_RELEASE: an accepted write to LMS_BLACK_REL ends the blackout and advances BGEN (R236). -/
def execBlackoutRelease (init : InitId) (value : Word32) (s : State) : Host.Outcome State Fault Refusal :=
  .next (s.begin.access init 7 (fun s => s.blackRelease false init value))

/-! ### RDM (R323, R324, R326) -/

/-- The district that owns the RDM controller of port `k`. -/
def State.rdmDist (s : State) (k : Nat) : Nat := s.fld (Reg.fxeDmxcfg k) 0 3
/-- An access to the RDM registers or windows of DMX port `k` (R326). -/
def State.rdmAccess (s : State) (init : InitId) (k : Nat) (f : State → State) (write : Bool := true) : State :=
  s.access init 10 (fun s =>
    if isHouse init || distOf init == s.rdmDist k then f s else s.setErr Reg.fxeStatus 0x07) write

/-- The key of dword `i` of a request window, and of a response window. -/
def rdmReqKey (k i : Nat) : Nat := 0xA01000 + k * 0x400 + 4 * i
/-- The key of dword `i` of a response window. -/
def rdmRespKey (k i : Nat) : Nat := 0xA01200 + k * 0x400 + 4 * i

/-- An RDM request (R323). -/
def State.rdmStart (s : State) (k expect : Nat) : State :=
  let c := Reg.fxeRdmstat k
  let win := wordsToBytes ((List.range 64).map (fun i => s.rd (rdmReqKey k i)))
  let len := byteAt win 2
  if !s.active then s.setErr c 0x06
  else if (s.dmxp k).rdm.isSome then s.setErr c 0x03
  else if expect == 3 || byteAt win 0 != 0xCC || byteAt win 1 != 0x01 || len < 24 then s.setErr c 0x04
  else
    let x := s.dmxp k
    ((s.setDmx k { x with rdm := some { expect := expect, bytes := win.take len } }).setF c 19 1 1).rdmSend k

/-- RDM_BROADCAST: START with EXPECT 0 sends a request that expects no response (R323). -/
def execRdmBroadcast (init : InitId) (dmx : Fin 4) (s : State) : Host.Outcome State Fault Refusal :=
  .next (s.begin.rdmAccess init dmx.val (fun s => s.rdmStart dmx.val 0))

/-- RDM_REQUEST: START with EXPECT 1 sends a request that expects a response (R323). -/
def execRdmRequest (init : InitId) (dmx : Fin 4) (s : State) : Host.Outcome State Fault Refusal :=
  .next (s.begin.rdmAccess init dmx.val (fun s => s.rdmStart dmx.val 1))

/-- RDM_DISCOVERY: START with EXPECT 2 sends a discovery request (R323). -/
def execRdmDiscovery (init : InitId) (dmx : Fin 4) (s : State) : Host.Outcome State Fault Refusal :=
  .next (s.begin.rdmAccess init dmx.val (fun s => s.rdmStart dmx.val 2))

/-- An exchange ends with a result and response bytes; a due DMX packet that waited starts (R322, R324). -/
def State.rdmEnd (s : State) (k result : Nat) (bytes : List Byte) : State :=
  let x := s.dmxp k
  match x.rdm with
  | none => s
  | some r =>
    let c := Reg.fxeRdmstat k
    let bytes := bytes.take 512
    let s := (s.setDmx k { x with rdm := none }).setF c 19 1 0
    let s := s.count 10 0 3
    let s :=
      if r.discard then s
      else
        let s := (s.setF c 16 3 result).setF c 0 10 bytes.length
        let s := (List.range (ceilDiv bytes.length 4)).foldl (fun s i => s.wr (rdmRespKey k i) (dwordAt bytes i)) s
        s.raise (s.rdmDist k) 9 10
    match (s.dmxp k).wait, s.dmxUni k with
    | true, some u => if s.active then s.dmxStart k u else s.setDmx k { s.dmxp k with wait := false }
    | _, _ => s.setDmx k { s.dmxp k with wait := false }

/-- A response's checksum is the sum of its bytes up to the length it gives (R324). -/
def rdmValid (b : List Byte) : Bool :=
  let n := byteAt b 2
  byteAt b 0 == 0xCC && 24 ≤ n && n + 2 ≤ b.length && beAt b n 2 == sumOf ((b.take n).map (·.toNat)) % 65536

/-- The UID of a discovery response: preamble, separator 0xAA, each byte sent OR 0xAA and OR 0x55, and the checksum of the
twelve bytes (R324). -/
def discUid (b : List Byte) : Option Nat :=
  let e := (b.dropWhile (· == 0xFE#8))
  let d := e.drop 1
  let pair := fun i => byteAt d (2 * i) &&& byteAt d (2 * i + 1)
  let ok := byteAt e 0 == 0xAA && 16 ≤ d.length &&
    (List.range 8).all (fun i => byteAt d (2 * i) &&& 0xAA == 0xAA && byteAt d (2 * i + 1) &&& 0x55 == 0x55) &&
    sumOf ((d.take 12).map (·.toNat)) % 65536 == pair 6 * 256 + pair 7
  if ok then some (ofBe ((List.range 6).map (fun i => b8 (pair i)))) else none

/-- RDM_RESPONSE: a response is received and stored, and ends the exchange (R324). -/
def execRdmResponse (dmx : Fin 4) (bytes : List Byte) (s : State) : Host.Outcome State Fault Refusal :=
  let s := s.begin
  let k := dmx.val
  .next (match (s.dmxp k).rdm with
    | none => s
    | some r =>
      if r.sent.isNone || r.expect == 0 then s
      else if r.expect == 1 then s.rdmEnd k (if rdmValid bytes then 1 else 3) bytes
      else match discUid bytes with
        | some u =>
          let s := if r.discard then s else
            (s.wr (Reg.fxeRdmuidLo k) (w32 u)).wr (Reg.fxeRdmuidHi k) (w32 (u / 2 ^ 32))
          s.rdmEnd k 5 bytes
        | none => s.rdmEnd k 3 bytes)

/-- RDM_EXCHANGE_TIMEOUT: 176 µs after a broadcast request, or 2.8 ms without a response, the exchange ends (R324). -/
def execRdmExchangeTimeout (dmx : Fin 4) (s : State) : Host.Outcome State Fault Refusal :=
  let s := s.begin
  let k := dmx.val
  .next (match (s.dmxp k).rdm with
    | none => s
    | some r =>
      match r.sent with
      | none => s
      | some t =>
        if r.expect == 0 then (s.at_ (t + usRoot 176)).rdmEnd k 4 [] else (s.at_ (t + usRoot 2800)).rdmEnd k 2 [])

/-! ### Applies and resets (R314, R325) -/

/-- FXE_STATUS.UNIVERSES and the universes of the DMX ports. -/
def State.fxeShow (s : State) : State :=
  let s := s.setF Reg.fxeStatus 0 16 s.pl.universes.length
  (List.range 4).foldl (fun s k => s.setF (Reg.fxeDmxstat k) 0 16 (((s.dmxUni k).map (·.uni)).getD 0)) s

/-- A full apply (R325): registrations whose set is kept and still holds the bank stay; `kept` says which sets are. -/
def State.loadFxeFull (s : State) (kept : Nat → Bool) : State :=
  let s := s.fx (fun f => { f with pend := [], owner := [], change := [], due := [], merged := [] })
  let s := (List.range 5).foldl (fun s j => s.setF (Reg.fxeDstatus j) 1 1 0) s
  let s := s.fxe.act.foldl (fun s e =>
    let ok := kept e.2.set && (s.set? e.2.set).any (fun z => z.dist == slotDist e.1 && 544 * e.2.count ≤ z.bytes)
    if ok then s
    else ((s.fx (fun f => { f with act := f.act.drop (· == e.1) })).setF (Reg.fxeDstatus e.1) 2 1 0).setErr (Reg.fxeDstatus e.1) 0x02) s
  s.fxeShow

/-- A live apply resets the owner of each universe it replaces (R314). -/
def State.loadFxeLive (s : State) (unis : List Nat) : State :=
  (s.fx (fun f => { f with owner := f.owner.drop (unis.contains ·), change := f.change.drop (fun k => unis.contains (k / 8)) })).fxeShow

/-- A function-level reset of host district `d` (R325). -/
def State.resetFxe (s : State) (d : Nat) : State :=
  let s := (s.fx (fun f => { f with pend := f.pend.drop (· == d) })).setF (Reg.fxeDstatus d) 1 1 0
  ((List.range 4).filter (fun k => s.rdmDist k == d)).foldl (fun s k =>
    let x := s.dmxp k
    let s := s.setDmx k { x with rdm := x.rdm.map (fun r => { r with discard := true }) }
    { s with regs := s.regs.drop (fun a => rdmReqKey k 0 ≤ a && a < rdmReqKey k 64) }) s

end Sys2Proof.Machine
end

