-- ==== Sys2Proof/Machine/Ptp.lean ====
section
/-! DEFINITION. The PTP engine (R294 to R299): messages of IEEE 1588-2019, the best master clock algorithm, the delay
request-response mechanism, and the discipline of the Clocktower counter. Message layouts and the algorithm are those of
the standard that R294 names. -/

namespace Sys2Proof.Machine

/-! ### The best master clock algorithm (IEEE 1588-2019 Clause 9.3) -/

/-- True when list `a` comes before `b`. -/
def lexLt : List Nat → List Nat → Bool
  | [], _ => false
  | _ :: _, [] => false
  | a :: s, b :: t => a < b || (a == b && lexLt s t)

/-- The data set comparison algorithm: 2 where `a` is better, 1 where it is better by topology, 0 where the two are the
same, and negative the other way round. -/
def Foreign.cmp (a b : Foreign) : Int :=
  if a.gm == b.gm then
    if a.steps > b.steps + 1 then -2 else if a.steps + 1 < b.steps then 2
    else if a.steps > b.steps then (if a.rcv < a.src then -2 else -1)
    else if a.steps < b.steps then (if b.rcv < b.src then 2 else 1)
    else if lexLt [a.src, a.rcv] [b.src, b.rcv] then 1
    else if lexLt [b.src, b.rcv] [a.src, a.rcv] then -1 else 0
  else if lexLt [a.prio1, a.cls, a.acc, a.var_, a.prio2, a.gm] [b.prio1, b.cls, b.acc, b.var_, b.prio2, b.gm] then 2 else -2
/-- Data set `a` is better than `b`, by topology or otherwise. -/
def Foreign.better (a b : Foreign) : Bool := a.cmp b > 0

/-- The best of a list of data sets. -/
def bestForeign (l : List Foreign) : Option Foreign :=
  l.foldl (fun (acc : Option Foreign) f => match acc with | none => some f | some g => if f.better g then some f else acc) none

/-- The engine's own data set (R295). -/
def State.ownSet (s : State) : Foreign :=
  let k := Reg.cltPtpds
  { src := portIdentity 0, rcv := portIdentity 0, prio1 := s.fld k 24 8, prio2 := s.fld k 16 8, cls := s.fld k 8 8, acc := s.fld k 0 8,
    var_ := Config.clockVariance.toNat, gm := Config.clockIdentity.toNat, steps := 0 }

/-- A master is qualified: two Announces within the last four of its intervals, fewer than 255 steps. -/
def Foreign.qualified (f : Foreign) (now : Nat) : Bool :=
  f.prev.any (fun t => now ≤ t + 4 * logRoot (signed 8 f.logInt)) && f.steps < 255
/-- The best qualified master a port hears. -/
def State.bestOn (s : State) (p : Nat) : Option Foreign := bestForeign ((s.pp p).foreign.filter (·.qualified s.now))

/-- The best master heard on any port, with that port. -/
def State.bestAll (s : State) : Option (Nat × Foreign) :=
  s.ptpPorts.foldl (fun (acc : Option (Nat × Foreign)) p =>
    match s.bestOn p, acc with
    | some f, none => some (p, f)
    | some f, some (q, g) => if f.better g then some (p, f) else some (q, g)
    | none, _ => acc) none

/-- The state the algorithm gives port `p`: its number in CLT_PPORT.PSTATE (R295). -/
def State.decide (s : State) (best : Option (Nat × Foreign)) (p : Nat) : Nat :=
  if !s.ptpOn then 3
  else if !s.linkUp p then 2
  else if s.pl.sys.ptpRole == 0 then (match best with | some (q, _) => if q == p then 9 else 4 | none => 4)
  else if !s.clt.heard then 4
  else
    let own := s.ownSet
    match best with
    | none => 6
    | some (q, e) =>
      if own.cls ≤ 127 then
        match s.bestOn p with
        | some r => if own.better r then 6 else 7
        | none => 6
      else if own.better e then 6
      else if q == p then 9
      else match s.bestOn p with
        | some r => if e.cmp r == 1 then 7 else 6
        | none => 6

/-- The master that the algorithm selects, with its port. -/
def State.chosen (s : State) : Option (Nat × Foreign) := s.bestAll.filter (fun e => s.decide s.bestAll e.1 == 9)

/-- A master is selected: from FREE or HOLDOVER the Clocktower becomes ACQUIRING (R299). -/
def State.selectMaster (s : State) (p : Nat) (f : Foreign) : State :=
  let same := s.clt.master.any (fun e => e.1 == p && e.2.src == f.src)
  let s := s.clk (fun c => { c with master := some (p, f), slave := if same then c.slave else { lastPair := s.now } })
  if s.cltSt == 0 || s.cltSt == 3 then s.cltEnter 1 else s

/-- The selected master is lost by a timeout: the Clocktower leaves ACQUIRING and LOCKED (R299). -/
def State.loseMaster (s : State) : State :=
  let s := s.clk (fun c => { c with master := none, slave := { lastPair := s.now } })
  if s.cltSt == 1 || s.cltSt == 2 then s.cltEnter (if s.haveTime then 3 else 0) else s

/-- Every port's state and the master selected brought in line with what has been heard (R295, R299). What a port has heard
ends with its link. A master that no port hears any more stays selected until its timeout. -/
def State.ptpDecide (s : State) : State :=
  let s := s.ptpPorts.foldl (fun s p => if s.linkUp p then s else s.setPp p { s.pp p with foreign := [] }) s
  let best := s.bestAll
  let slave := s.chosen
  let s := match slave with | some (p, f) => s.selectMaster p f | none => s
  let cal := s.clt.slave.cal
  let s := (List.range 64).foldl (fun s p =>
    if s.ptpPorts.contains p then
      let st := s.decide best p
      let was := s.pstate p
      let qual := match best with | some (_, e) => if st == 6 && s.ownSet.cls > 127 && e.better s.ownSet then e.steps + 2 else 0 | none => 0
      if st == 6 && (was == 6 || was == 5) then s
      else if st == 6 && qual > 0 then (s.setF (Reg.cltPport p) 0 4 5).setPp p { s.pp p with qual := qual }
      else s.setF (Reg.cltPport p) 0 4 (if st == 9 && !cal then 8 else st)
    else s.setF (Reg.cltPport p) 0 4 3) s
  s.setF Reg.cltStatus 16 7 (match slave with | some (p, _) => if cal then p else 0x7F | none => 0x7F)

/-- The engine starts. -/
def State.ptpRestart (s : State) : State :=
  let s := s.clk (fun c => { c with ptp := c.ptp.map (fun e => (e.1, { e.2 with foreign := [], qual := 0 })), heard := false })
  let s := s.ptpPorts.foldl (fun s p => s.setPp p { s.pp p with ipv4 := s.bitOf (Reg.cltPport p) 6 }) s
  s.ptpDecide

/-- A full apply from the plan `old`: ports that join the engine start with what CLT_PPORT says, and what was heard under
another domain, profile or role is forgotten (R294, R295). -/
def State.ptpApply (s : State) (old : Plan) : State :=
  let key := fun (p : Plan) => (p.sys.ptpRole, p.sys.ptpDomain, p.sys.ptpProfile)
  let was := (old.ports.filter (fun r => natBit r.use 3)).map (·.port)
  let anew := key old != key s.pl
  let s := if anew then s.clk (fun c => { c with heard := false }) else s
  let s := s.ptpPorts.foldl (fun s p =>
    if was.contains p && !anew then s
    else s.setPp p { s.pp p with foreign := [], qual := 0, ipv4 := s.bitOf (Reg.cltPport p) 6 }) s
  s.ptpDecide

/-! ### The slave (R298, R299) -/

/-- The increment that the servo writes, within ±100 ppm (R290, R298). Its value is the engine's own. -/
def State.servo (s : State) : State :=
  let (n, s) := s.draw
  let v := (clampI incrMin incrMax (((incrMin + incrMax) / 2 : Nat) + Config.servoIncrement n)).toNat
  s.setIncr (w32 (v / 2 ^ 32)) (w32 v)

/-- The port of the selected master is SLAVE once a pair has been accepted (R295). -/
def State.calibrated (s : State) : State :=
  match s.clt.master with
  | some (p, _) =>
    if s.pstate p == 8 then (s.setF (Reg.cltPport p) 0 4 9).setF Reg.cltStatus 16 7 p else s
  | none => s

/-- A Sync and Delay_Resp pair accepted in ACQUIRING or LOCKED: offset and path delay in units of 2^-16 ns (R298, R299). A
step by MODE 1 is a signed 32-bit number of nanoseconds; a greater offset takes several. -/
def State.acceptPair (s : State) (off mpd : Int) : State :=
  let o := off / 65536
  if s.cltSt != 1 && s.cltSt != 2 then s
  else
    let s := (s.wr Reg.cltOffset (w32 (twos 32 o))).wr Reg.cltMpd (w32 (twos 32 (mpd / 65536)))
    let acq := s.cltSt == 1
    let x := s.clt.slave
    let good := if o.natAbs ≤ 200 then x.good + 1 else 0
    let bad := if o.natAbs > 1000 then x.bad + 1 else 0
    let s := s.clk (fun c => { c with
      slave := { x with good := good, bad := bad, lastPair := s.now, fresh := false, req := none, cal := true } })
    let s := s.calibrated
    let s := if acq then s.setF Reg.cltStatus 7 1 1 else s
    let s := if acq && o.natAbs > 1000000 then s.stepAdd (clampI (-2147483648) 2147483647 (-o))
      else s.slewBy (clampI (-1000000) 1000000 (-o))
    let s := s.servo
    if acq && good ≥ 16 then (s.cltEnter 2).clk (fun c => { c with slave := { c.slave with good := 0, bad := 0 } })
    else if s.cltSt == 2 then
      let s := { s with nv := (s.nv.set Reg.cltIncrLo (s.rd Reg.cltIncrLo)).set Reg.cltIncrHi (s.rd Reg.cltIncrHi) }
      if bad ≥ 4 then (s.cltEnter 1).clk (fun c => { c with slave := { c.slave with good := 0, bad := 0 } }) else s
    else s

/-- A whole Sync: origin time and corrections against its receive time. -/
def State.wholeSync (s : State) (origin : Nat) (corr t2 : Int) : State :=
  s.clk (fun c => { c with slave := { c.slave with sync := none, t1 := (origin * 65536 : Nat) + corr, t2 := t2, fresh := true } })

/-- A message of the selected master on the slave port. -/
def State.ptpSlave (s : State) (p : Nat) (ty : Nat) (m : List Byte) (t : Int) : State :=
  let corr := signed 64 (beAt m 8 8)
  let seq := beAt m 30 2
  let x := s.clt.slave
  let log := signed 8 (byteAt m 33)
  match ty with
  | 0 =>
    if log < -7 || log > (if s.ptpProfile == 1 then 1 else 4) then s
    else
      let s := s.clk (fun c => { c with slave := { x with logSync := byteAt m 33 } })
      if natBit (byteAt m 6) 1 then s.clk (fun c => { c with slave := { c.slave with sync := some (seq, t.toNat, corr) } })
      else s.wholeSync (tsOf m 34) corr t
  | 8 =>
    match x.sync with
    | some (q, t2, c1) => if q == seq then s.wholeSync (tsOf m 34) (corr + c1) t2 else s
    | none => s
  | 9 =>
    match x.req with
    | some (q, t3) =>
      if q == seq && beAt m 44 10 == portIdentity p && x.fresh then
        let t4 : Int := (tsOf m 34 * 65536 : Nat) - corr
        let mpd := ((x.t2 - x.t1) + (t4 - t3)) / 2
        s.acceptPair (x.t2 - x.t1 - mpd) mpd
      else s
    | none => s
  | _ => s

/-- An Announce: the sender's data set kept, and the algorithm run (R295, R299). -/
def State.ptpAnnounce (s : State) (p : Nat) (m : List Byte) : State :=
  let f : Foreign := { src := beAt m 20 10, prio1 := byteAt m 47, cls := byteAt m 48, acc := byteAt m 49, var_ := beAt m 50 2,
                       prio2 := byteAt m 52, gm := beAt m 53 8, steps := beAt m 61 2, logInt := byteAt m 33, at_ := s.now,
                       rcv := portIdentity p, flags := byteAt m 7, source := byteAt m 63 }
  if beAt m 20 8 == Config.clockIdentity.toNat then s
  else
    let x := s.pp p
    let old := x.foreign.find? (·.src == f.src)
    let s := s.setPp p { x with foreign := x.foreign.filter (·.src != f.src) ++ [{ f with prev := old.map (·.at_) }] }
    let s := (s.clk (fun c => { c with heard := true })).ptpDecide
    match s.clt.master with
    | some (q, g) => if q == p && g.src == f.src && natBit (byteAt m 7) 2 then s.setF Reg.cltUtcoff 0 16 (beAt m 44 2) else s
    | none => s

/-- A PTP message received on a port of the engine; `t` is its receive timestamp in units of 2^-16 ns (R294, R295). -/
def State.ptpReceive (s : State) (p : Nat) (f : List Byte) (t : Int) : State :=
  if !s.ptpOn || !s.ptpPorts.contains p || !s.linkUp p then s
  else match s.ptpOf p f with
    | none => s
    | some m =>
      let ty := byteAt m 0 % 16
      let ok := byteAt m 0 / 16 == 0 && byteAt m 1 % 16 == 2 && m.length ≥ 44 && byteAt m 4 == s.pl.sys.ptpDomain &&
        !natBit (byteAt m 6) 0 && !natBit (byteAt m 6) 2
      if !ok then s
      else if ty == 0xB then (if natBit (byteAt m 7) 3 && m.length ≥ 64 then s.ptpAnnounce p m else s)
      else if ty == 1 then
        if s.pstate p != 6 then s
        else
          let t := t.toNat
          let sub := t % 65536
          let corr := beAt m 8 8
          s.ptpGeneral p (ptpMsg 9 s.pl.sys.ptpDomain 0 (beAt m 30 2) 3 (logByte s.ptpLogs.2.2) ((corr + 2 ^ 64 - sub) % 2 ^ 64)
            (portIdentity p) (tsField (t / 65536) ++ slice m 20 10))
      else match s.clt.master with
        | some (q, g) => if q == p && beAt m 20 10 == g.src then s.ptpSlave p ty m t else s
        | none => s

/-- PTP_MESSAGE: the engine takes a PTP frame received on a port (R294 to R299). -/
def execPtpMessage (port : Fin 64) (bytes : List Byte) (s : State) : Host.Outcome State Fault Refusal :=
  let s := s.begin
  .next (s.ptpReceive port.val bytes (s.rxTime port.val))

/-! ### Intervals and timeouts -/

/-- PTP_SYNC_INTERVAL: a master port sends Sync, and Follow_Up when it is two-step (R295, R297). -/
def execPtpSyncInterval (port : Fin 64) (s : State) : Host.Outcome State Fault Refusal :=
  let s := s.begin
  let p := port.val
  .next (if !s.ptpOn || s.pstate p != 6 || !s.ptpPorts.contains p then s else s.express p .sync)

/-- PTP_ANNOUNCE_INTERVAL: a master port sends Announce; a port's transport and PRE_MASTER follow the interval (R295,
R296). -/
def execPtpAnnounceInterval (port : Fin 64) (s : State) : Host.Outcome State Fault Refusal :=
  let s := s.begin
  let p := port.val
  if !s.ptpOn || !s.ptpPorts.contains p then .next s
  else
    -- a port that is PASSIVE leaves that state when what it heard has aged
    let s := if s.pstate p == 7 then s.ptpDecide else s
    let x := s.pp p
    let s := s.setPp p { x with ipv4 := s.bitOf (Reg.cltPport p) 6, qual := x.qual - 1 }
    let s := if s.pstate p == 5 && (s.pp p).qual == 0 then s.setF (Reg.cltPport p) 0 4 6 else s
    if s.pstate p != 6 then .next s
    else
      let s := s.setPp p { s.pp p with seqAnn := (x.seqAnn + 1) % 65536 }
      let g := match s.clt.master with | some (_, f) => { f with steps := f.steps + 1 } | none => s.ownSet
      let body := List.replicate 10 0 ++ beBytes 2 (s.fld Reg.cltUtcoff 0 16) ++ [0, b8 g.prio1, b8 g.cls, b8 g.acc] ++
        beBytes 2 g.var_ ++ [b8 g.prio2] ++ beBytes 8 g.gm ++ beBytes 2 g.steps ++ [b8 g.source]
      .next (s.ptpGeneral p (ptpMsg 0xB s.pl.sys.ptpDomain (g.flags % 64 / 16 * 16 + 8 + g.flags % 8) x.seqAnn 5 (logByte s.ptpLogs.2.1) 0 (portIdentity p) body))

/-- PTP_DELAY_REQ_INTERVAL: a port in SLAVE or UNCALIBRATED state sends Delay_Req (R294). -/
def execPtpDelayReqInterval (port : Fin 64) (s : State) : Host.Outcome State Fault Refusal :=
  let s := s.begin
  let p := port.val
  .next (if !s.ptpOn || (s.pstate p != 9 && s.pstate p != 8) || !s.ptpPorts.contains p then s else s.express p .delayReq)

/-- The state with what its port heard of the selected master forgotten. -/
def State.forgetMaster (s : State) : State :=
  match s.clt.master with
  | some (p, f) => s.setPp p { s.pp p with foreign := (s.pp p).foreign.filter (·.src != f.src) }
  | none => s

/-- ANNOUNCE_RECEIPT_TIMEOUT: no Announce of the selected master for three of its intervals (R294, R299). -/
def execAnnounceReceiptTimeout (s : State) : Host.Outcome State Fault Refusal :=
  let s := s.begin
  .next (match s.clt.master with
    | some (p, f) =>
      let last := match (s.pp p).foreign.find? (·.src == f.src) with | some g => g | none => f
      let s := (s.at_ (last.at_ + 3 * logRoot (signed 8 last.logInt))).forgetMaster
      if s.chosen.isSome then s.ptpDecide else s.loseMaster.ptpDecide
    | none => s)

/-- SYNC_RECEIPT_TIMEOUT: no Sync pair accepted for 16 Sync intervals: HOLDOVER, or FREE without a time (R299). -/
def execSyncReceiptTimeout (s : State) : Host.Outcome State Fault Refusal :=
  let s := s.begin
  .next (match s.clt.master with
    | some _ =>
      (s.at_ (s.clt.slave.lastPair + 16 * logRoot (signed 8 s.clt.slave.logSync))).forgetMaster.loseMaster.ptpDecide
    | none => s)

end Sys2Proof.Machine
end

