-- ==== Sys2Proof/Machine/Ports.lean ====
section
/-! DEFINITION. Network ports (R260 to R288): links, preemption's verify, received frames and their consumers, receive
rings. -/

namespace Sys2Proof.Machine

/-! ### Links (R261, R262, R269, R272) -/

/-- The port event of port `p`'s district. -/
def State.prtEvent (s : State) (p : Nat) : State :=
  match s.pl.port? p with | some r => s.raise r.dist (64 + p) 8 | none => s

/-- A change of link state (R262): reported, and seen by the PTP engine (R295). -/
def State.linkChanged (s : State) (p : Nat) : State :=
  let s := (s.setF (Reg.prtStatus p) 16 1 1).prtEvent p
  if s.ptpOn then s.ptpDecide else s

/-- What waits on port `p` and is discarded while its link is down: express frames, heartbeats, sACN packets (R272). -/
def State.downDrop (s : State) (p : Nat) : State :=
  let x := s.tx p
  let a := s.av p
  let beat := a.items.filter (fun i => match i with | .heartbeat .. => true | _ => false)
  let n := x.expQ.length + x.fxe.length + x.zeros.length + beat.length
  let s := (s.setTx p { x with expQ := [], fxe := [], zeros := [] }).setAv p
    { a with items := a.items.filter (fun i => match i with | .heartbeat .. => false | _ => true) }
  if n == 0 then s else s.prtCount p 19 n

/-- Preemption as a link that has come up gives it: at once with USE bit 0, else after the verify (R269). -/
def State.preemptStart (s : State) (r : PortRec) : State :=
  let k := Reg.prtStatus r.port
  if natBit r.use 0 then (s.setF k 5 1 1).setF k 6 2 0
  else if s.bitOf (Reg.prtPreempt r.port) 0 then ((s.setF k 5 1 0).setF k 6 2 1).emit (.verify r.port false)
  else (s.setF k 5 1 0).setF k 6 2 0

/-- LINK_UP: the link conditions have held for 1 ms and the port's link goes up (R262), while the Clocktower is not
DEGRADED: a network port's SerDes takes REFCLK (R300). Port 64 is the service port, whose SerDes takes REFCLK too (R285,
R452). -/
def execLinkUp (port : Fin 65) (s : State) : Host.Outcome State Fault Refusal :=
  let s := s.begin
  let p := port.val
  let k := Reg.prtStatus p
  .next (if p == 64 then (if s.mode.mode == .reset || s.ckg.osc then s else { s with lcs := { s.lcs with link := true } })
    else match s.pl.port? p with
    | some r =>
      if s.linkUp p || s.mode.mode == .reset || s.cltSt == 4 then s
      else
        let s := ((s.setF k 0 2 3).setF k 2 1 (bit (r.fec == 2))).setF k 3 2 0
        ((s.preemptStart r).linkChanged p).txStart p
    | none => s)

/-- The link of port `p` goes down (R262, R272). -/
def State.linkDown (s : State) (p : Nat) : State :=
  let k := Reg.prtStatus p
  if !s.linkUp p then s
  else
    let s := ((s.setF k 0 1 0).setF k 5 1 0).setF k 6 2 0
    ((s.prtCount p 22).downDrop p).linkChanged p

/-- The condition that failed, as PRT_STATUS shows it; with a local fault the port sends remote fault, and with a remote
fault idle (R262). -/
def State.linkFault (s : State) (p : Nat) (fault : LinkFault) : State :=
  let k := Reg.prtStatus p
  let send := fun (s : State) (rf : Bool) => if s.ptpOn then s.emit (.noFrames p rf) else s
  match fault with
  | .blockLock => s.setF k 1 2 0
  | .alignment => s.setF k 2 1 0
  | .localFault => send (s.setF k 3 1 1) true
  | .remoteFault =>
    let s := s.setF k 4 1 1
    if s.bitOf k 3 then s else send s false

/-- LINK_DOWN: a link condition fails and the port's link goes down, or another fails while it is down (R262, R285). -/
def execLinkDown (port : Fin 65) (fault : LinkFault) (s : State) : Host.Outcome State Fault Refusal :=
  let s := s.begin
  let p := port.val
  .next (if p == 64 then { s with lcs := { s.lcs with link := false } }
    else if (s.pl.port? p).isNone || s.mode.mode == .reset then s
    else (s.linkDown p).linkFault p fault)

/-- An access to the registers of port `p` (R287). -/
def State.prtAccess (s : State) (init : InitId) (p : Nat) (f : State → State) (write : Bool := true) : State :=
  s.access init 8 (fun s =>
    let d := distOf init
    if d == houseDist || (s.pl.port? p).any (·.dist == d) then f s else s.setErr (Reg.prtStatus p) 0x20) write

/-- PRT_SERDES_WRITE: the house district fixes a lane's polarity and taps, and the link drops (R261, R287). -/
def execPrtSerdesWrite (init : InitId) (port : Fin 64) (value : Word32) (s : State) : Host.Outcome State Fault Refusal :=
  let p := port.val
  .next (s.begin.prtAccess init p (fun s =>
    if !isHouse init then s
    else ((s.wr (Reg.prtSerdes p) (value &&& 0xC01F3F1F)).linkDown p).setF (Reg.prtStatus p) 1 2 0))

/-- PREEMPT_VERIFY_DONE: the Clause 99 verify of a port succeeds, or has failed three times (R269). -/
def execPreemptVerifyDone (port : Fin 64) (ok : Bool) (s : State) : Host.Outcome State Fault Refusal :=
  let s := s.begin
  let k := Reg.prtStatus port.val
  .next (if s.fld k 6 2 != 1 then s
    else if ok then (s.setF k 6 2 2).setF k 5 1 1
    else s.setF k 6 2 3)

/-! ### Receive rings (R275 to R277) -/

/-- The filter of receive ring `r` takes the frame (R276). -/
def State.rxTakes (s : State) (p r : Nat) (f : List Byte) : Bool :=
  let k := Reg.rxrFilter p r
  let v := s.fld k 0 16
  match s.fld k 16 2 with
  | 0 => false
  | 1 => etherType f == v
  | 2 =>
    let ip := etherBody f
    etherType f == 0x0800 && isIpv4 ip 17 && beAt (ip.drop (4 * (byteAt ip 0 % 16))) 2 2 == v
  | _ => true

/-- The first enabled ring whose filter takes the frame. -/
def State.rxRing (s : State) (p : Fin 64) (f : List Byte) : Option (Fin 4) :=
  ([0, 1, 2, 3] : List (Fin 4)).find? (fun r => s.ringOn (.rx p r) && s.rxTakes p.val r.val f)

/-- A host descriptor is valid (R275). -/
def State.rxDescOk (s : State) (dist : Nat) (d : List Byte) : Bool :=
  let len := leAt d 2 2
  64 ≤ len && len ≤ 16384 && len % 64 == 0 && byteAt d 0x1F == 0 && (s.setRange dist (leAt d 0 2) (leAt d 8 8) len).isSome

/-- One write-back of a receive descriptor. -/
def rxBack (setId bytes rxLen status : Nat) (ts : Option Nat) (flags : Nat) : List Byte :=
  let t := ts.getD 0
  let tsb := if ts.isNone then List.replicate 12 0
    else leBytes 6 (t / 65536 / 1000000000) ++ leBytes 4 (t / 65536 % 1000000000) ++ leBytes 2 (t % 65536)
  leBytes 2 setId ++ leBytes 2 bytes ++ leBytes 2 (min 0xFFFF rxLen) ++ [b8 status, 0] ++ tsb ++ List.replicate 11 0 ++ [b8 flags]

/-- A buffer that a frame has filled: its set and bytes. -/
structure RxBuf where
  setId : Nat
  bytes : Nat

/-- What filling descriptors gives: the buffers filled or invalid, in order (`none` for an invalid descriptor), the bytes
left over, and the state with the buffers written. -/
def State.rxFill (s : State) (id : RingId) (dist : Nat) : Nat → Nat → List Byte → List (Option RxBuf) →
    List (Option RxBuf) × List Byte × State
  | 0, _, data, acc => (acc, data, s)
  | fuel + 1, i, data, acc =>
    if data.isEmpty || s.ringAvail id ≤ i then (acc, data, s)
    else
      let d := s.ringDesc id i
      if !s.rxDescOk dist d then State.rxFill s id dist fuel (i + 1) data (acc ++ [none])
      else
        let n := min data.length (leAt d 2 2)
        let s := s.writeSetId (leAt d 0 2) (leAt d 8 8) (data.take n)
        State.rxFill s id dist fuel (i + 1) (data.drop n) (acc ++ [some ⟨leAt d 0 2, n⟩])

/-- The write-backs of a frame's descriptors (R275, R277): `common` are the flags of every buffer, `ended` those of the
last, which its end tells. -/
def State.rxWriteBacks (s : State) (id : RingId) (ts rxLen status common ended : Nat) :
    List (Option RxBuf) → Bool → Nat → State
  | [], _, _ => s
  | none :: t, first, left =>
    let set := leAt (s.ringDesc id) 0 2
    State.rxWriteBacks (s.ringWriteBack id (rxBack set 0 0 0x02 none 0x80)) id ts rxLen status common ended t first left
  | some b :: t, first, left =>
    let last := left == 1
    let flags := 0x80 + common + bit first + (if last then 2 + ended else 0)
    let d := rxBack b.setId b.bytes (if last then rxLen else 0) status (if first then some ts else none) flags
    State.rxWriteBacks (s.ringWriteBack id d) id ts rxLen status common ended t false (left - 1)

/-- A frame for the receive rings of port `p` (R276 to R278). -/
def State.rxToRing (s : State) (port : Fin 64) (data : List Byte) (len : Nat) (trunc express full : Bool) : State :=
  let p := port.val
  match s.rxRing port data, s.pl.port? p with
  | some r, some pr =>
    let id : RingId := .rx port r
    if full then s.prtCount p 11
    else
      let (bufs, left, s) := s.rxFill id pr.dist (s.ringAvail id) 0 data []
      let good := (bufs.filter (·.isSome)).length
      let common := 32 * bit express
      let ended := 4 * bit trunc + (if trunc then 16 else 0)
      let ts := (s.rxTime p).toNat
      if left.isEmpty then s.rxWriteBacks id ts len 0 common ended bufs true good
      else
        let s := s.prtCount p 10
        s.rxWriteBacks id ts (data.length - left.length) 0x01 common ended bufs true good
  | _, _ => s.prtCount p 9

/-! ### Received frames (R265 to R268) -/

/-- The frame is an IGMP query (R135): its group, 0 for a general query. -/
def igmpQueryOf (f : List Byte) : Option Nat :=
  let ip := etherBody f
  let m := ipPayload ip
  if etherType f == 0x0800 && isIpv4 ip 2 && byteAt m 0 == 0x11 then some (beAt m 4 4) else none
/-- The frame is IGMP. -/
def isIgmp (f : List Byte) : Bool := etherType f == 0x0800 && isIpv4 (etherBody f) 2
/-- The frame is PTP: EtherType 0x88F7, or IPv4 UDP to port 319 or 320 (R268). -/
def isPtp (f : List Byte) : Bool :=
  let ip := etherBody f
  let dport := beAt (ip.drop (4 * (byteAt ip 0 % 16))) 2 2
  etherType f == 0x88F7 || (etherType f == 0x0800 && isIpv4 ip 17 && (dport == 319 || dport == 320))

/-- An accepted frame goes to its first consumer (R268). A frame with the Lamp Stream EtherType on a port without USE bit 0
fails the first check of R243: it is counted and discarded, and reaches no ring. `data` holds at most MAX_FRAME bytes, `len` is the received
length. -/
def State.rxConsume (s : State) (port : Fin 64) (pr : PortRec) (data : List Byte) (len : Nat) (trunc : Bool) (rx : RxMeta) :
    State :=
  let p := port.val
  let body := data.take (data.length - 4)
  let ring := fun (s : State) => s.rxToRing port data len trunc rx.express (rx.room == .full)
  if trunc then ring s
  else if etherType body == s.lmsType then s.lmsReceive p body
  else if natBit pr.use 3 && isPtp body then s.ptpReceive p body (s.rxTime p)
  else if natBit pr.use 1 && isIgmp body then
    match igmpQueryOf body with
    | some g => if s.ingressOn then s.igmpQuery p g else s
    | none => s
  else
    match (if natBit pr.use 1 then s.inputOf p body else none) with
    | some r => (s.ingPacket p body rx.room).ctStarts r.id
    | none => ring s

/-- A frame received on port `p`, from its destination MAC to the last byte of its FCS. -/
def State.rxFrame (s : State) (port : Fin 64) (pr : PortRec) (bytes : List Byte) (rx : RxMeta) : State :=
  let p := port.val
  let len := bytes.length
  let trunc := len > pr.maxFrame
  let data := bytes.take pr.maxFrame
  if len ≤ 63 then s.prtCount p 2
  else if !rx.smdOk then s.prtCount p 12
  else if !rx.pcsOk || (!trunc && !rx.fcsOk) then s.prtCount p 3
  else
    let s := if trunc then s.prtCount p 4 else s
    if etherType data == 0x8808 then
      let op := beAt (etherBody data) 0 2
      s.prtCount p (if op == 0x0001 || op == 0x0101 then 5 else 6)
    else if dstMac data != pr.mac && !isMulticast (dstMac data) && !s.bitOf (Reg.prtRxcfg p) 0 then s.prtCount p 7
    else if !vlanOk pr data then s.prtCount p 8
    else
      let s := (((s.prtCount p 0).prtCount p 1 len).bw (Reg.pmcBwPort p 0) len)
      let s := if rx.express then s.prtCount p 13 else s
      s.rxConsume port pr data len trunc rx

/-- The FEC codewords that came with a frame (R288). -/
def State.rxFec (s : State) (pr : PortRec) (rx : RxMeta) : State :=
  if pr.fec == 0 then s
  else
    let s := if rx.corrected == 0 then s else s.prtCount pr.port 20 rx.corrected
    if rx.uncorrected == 0 then s else s.prtCount pr.port 21 rx.uncorrected

/-- A network port receives a frame, or a verify, which it answers while preemption can be active (R262, R265 to R269). -/
def State.portReceive (s : State) (port : Fin 64) (bytes : List Byte) (rx : RxMeta) : State :=
  match s.pl.port? port.val with
  | some pr =>
    if !s.linkUp port.val then s
    else
      let s := s.rxFec pr rx
      match rx.kind with
      | .frame => s.rxFrame port pr bytes rx
      | .verify => if natBit pr.use 0 || s.bitOf (Reg.prtPreempt port.val) 0 then s.emit (.verify port.val true) else s
      | .respond => s
  | none => s

/-! ### Full applies (R261, R263) -/

/-- The latencies of R263 in U16.16 ns, receive and transmit. -/
def portLatency (r : PortRec) : Nat × Nat :=
  match r.fec with
  | 0 => (0x00280000, 0x001E0000)
  | 1 => (if r.speed == 0 then 0x00F4CCCD else 0x0079EB85, 0x001E0000)
  | _ => (0x00960000, 0x005A0000)

/-- PRT_CFG of a PORT record. -/
def PortRec.cfg (r : PortRec) : Word32 :=
  pack [(16, r.maxFrame), (8, r.use % 16), (4, r.dist), (2, r.fec), (1, r.speed), (0, 1)]

/-- The rings of port `p` disabled, with HEAD, TAIL and configuration at their reset values. -/
def State.dropRings (s : State) (p : Nat) : State :=
  let base := Reg.prtCfg p
  let s := { s with regs := s.regs.drop (fun k => base + 0x400 ≤ k && k < base + 0x800),
                    rings := s.rings.drop (fun k => k / 4 == p || (256 ≤ k && k < 512 && (k - 256) / 4 == p)) }
  s.setTx p { s.tx p with rings := [] }

/-- A full apply from the plan `old`: a port whose record is unchanged keeps its link and rings; any other is configured
anew and retrains (R261, R263). -/
def State.loadPorts (s : State) (old : Plan) : State :=
  (List.range 64).foldl (fun s p =>
    let r := s.pl.port? p
    if old.port? p == r then s
    else
      let k := Reg.prtStatus p
      let dist := match r with | some r => some r.dist | none => (old.port? p).map (·.dist)
      let s := if !s.linkUp p then s
        else
          let s := ((s.setF k 16 1 1).prtCount p 22).downDrop p
          match dist with | some d => s.raise d (64 + p) 8 | none => s
      let s := (s.setF k 0 8 0).setF k 8 8 0
      let s := (s.dropRings p).setTx p { rr := (s.tx p).rr }
      match r with
      | some r =>
        let (rx, tx) := portLatency r
        ((s.wr (Reg.prtCfg p) r.cfg).wr (Reg.prtLatRx p) (w32 rx)).wr (Reg.prtLatTx p) (w32 tx)
      | none => ((s.wr (Reg.prtCfg p) 0).wr (Reg.prtLatRx p) 0).wr (Reg.prtLatTx p) 0) s

end Sys2Proof.Machine
end

