-- ==== Sys2Proof/Machine/Clocks.lean ====
section
/-! DEFINITION. The guard on REFCLK, the switches between clock sources, the gating of idle units and the watchdog's
writes (R451 to R460, R469, R470). -/

namespace Sys2Proof.Machine

/-- The clock state replaced by `f` of it. -/
def State.ck (s : State) (f : CkgState → CkgState) : State := { s with ckg := f s.ckg }
/-- CKG_STATUS.ERR. -/
def State.ckgErr (s : State) (c : Nat) : State := s.setErr Reg.ckgStatus c
/-- A write to a CKG register: any but the house district's is ignored with code 0x17 (R470). -/
def State.ckgWrite (s : State) (init : InitId) (f : State → State) : State :=
  s.access init 18 (fun s => if isHouse init then f s else s.ckgErr 0x17)

/-- CKG_STATUS and CKG_REFMON as the clocks stand: bits of the locks, the reference and its source. -/
def State.ckgShow (s : State) : State :=
  ((s.setF Reg.ckgStatus 1 1 (bit s.ckg.ok)).setF Reg.ckgStatus 2 1 (bit s.ckg.osc)).setF Reg.ckgRefmon 16 16 s.ckg.expect

/-! ### The REFCLK monitor (R453 to R456) -/

/-- A switch of the root's reference is requested; one that is in progress completes first (R456). -/
def State.switchTo (s : State) (osc : Bool) : State :=
  match s.ckg.switch with
  | none => s.ck (fun c => { c with switch := some osc })
  | some _ => s.ck (fun c => { c with again := some osc })

/-- A failure of REFCLK, with all its effects in the FAB cycle of detection (R454). -/
def State.refFail (s : State) : State :=
  let s := s.ck (fun c => { c with ok := false, good := 0, wins := 0, counts := [], osc := true })
  if s.mode.mode == .reset then s.ckgShow
  else
    let s := (s.switchTo true).emit .nmi
    let s := s.setF Reg.errNmisrc 0 1 1
    let s := s.report { block := 18, code := 0x01, sev := 2, all := true }
    let s := s.cltEnter 4
    -- the SerDes PLLs lose lock: the links of the ports, the Causeway and the service port go down (R262, R300, R452)
    let s := s.ports_.foldl (fun s p => s.linkDown p) s
    let s := { s with lcs := { s.lcs with link := false } }
    let s := if s.bitOf Reg.cswStatus 7 then { s with csw := { s.csw with linkAt := s.now } }.setF Reg.cswStatus 7 1 0 else s
    let s := ((s.setF Reg.ckgStatus 3 1 1).setF Reg.ckgStatus 6 1 0).ckgErr 0x01
    ((s.bump Reg.ckgReffails).count 18 0 0).ckgShow

/-- Sixteen good windows have restored REFCLK (R455); the Clocktower has no master then (R299). -/
def State.refBack (s : State) : State :=
  let s := s.ck (fun c => { c with ok := true, good := 0, wins := 0, osc := false })
  if s.mode.mode == .reset then s.ckgShow
  else
    let s := ((s.switchTo false).report { block := 18, code := 0x02, sev := 0, all := true }).ckgErr 0x02
    let s := if s.cltSt == 4 then (s.cltEnter (if s.haveTime then 3 else 0)).clk (fun c => { c with master := none }) else s
    s.ckgShow

/-- A count lies within EXPECT ± 1 %. -/
def State.nearExpect (s : State) (count : Nat) : Bool :=
  100 * count ≤ 101 * s.ckg.expect && 99 * s.ckg.expect ≤ 100 * count

/-- Sixteen counts qualify REFCLK: within 25,600 ± 3.5 % and within ± 0.1 % of their mean (R453). -/
def qualifies (l : List Nat) : Bool :=
  let sum := sumOf l
  l.length == 16 && l.all (fun c => 24704 ≤ c && c ≤ 26496 &&
    1000 * (16 * c) ≤ 1001 * sum && 999 * sum ≤ 1000 * (16 * c))

/-- A monitor window ends while the root runs from REFCLK as good. -/
def State.windowGood (s : State) (count : Nat) : State :=
  if s.ckg.wins + 1 < 64 then s.ck (fun c => { c with wins := c.wins + 1 })
  else
    let (k, s) := s.draw
    let e := s.ckg.expect
    let e' := if !Config.refFollows k then e else if count > e then e + 1 else if count < e then e - 1 else e
    (s.ck (fun c => { c with wins := 0, expect := e' })).ckgShow

/-- REFMON_WINDOW_END: a window of the monitor ends with a count of REFCLK edges; `gap` tells of 4 µs without an edge in
it. -/
def execRefmonWindowEnd (count : Nat) (gap : Bool) (s : State) : Host.Outcome State Fault Refusal :=
  let s := s.begin
  let s := s.setF Reg.ckgRefmon 0 16 count
  .next (if s.ckg.ok then (if gap || !s.nearExpect count then s.refFail else s.windowGood count)
    else if s.ckg.osc then
      if gap || !s.nearExpect count then s.ck (fun c => { c with good := 0 })
      else if s.ckg.good + 1 < 16 then s.ck (fun c => { c with good := c.good + 1 })
      else s.refBack
    else if gap then s.ck (fun c => { c with counts := [] })
    else
      let l := (count :: s.ckg.counts).take 16
      if qualifies l then
        (s.ck (fun c => { c with ok := true, counts := [], wins := 0, expect := (sumOf l + 8) / 16 })).ckgShow
      else s.ck (fun c => { c with counts := l }))

/-- REFCLK_FAIL: no edge has arrived within 4 µs, or a count lies outside EXPECT ± 1 %. -/
def execRefclkFail (gap : Bool) (count : Nat) (s : State) : Host.Outcome State Fault Refusal :=
  let s := s.begin
  .next (if s.ckg.ok then (if gap || !s.nearExpect count then s.refFail else s)
    else s.ck (fun c => { c with good := 0, counts := [] }))

/-- CLOCK_SWITCH_DONE: the switch of the root's reference completes on its new source; after a switch back to REFCLK the
SerDes PLLs lock again. -/
def execClockSwitchDone (s : State) : Host.Outcome State Fault Refusal :=
  let s := s.begin
  .next (match s.ckg.switch with
    | none => s
    | some osc =>
      let s := s.ck (fun c => { c with switch := c.again, again := none })
      if osc || s.ckg.osc then s else s.setF Reg.ckgStatus 6 1 1)

/-! ### Gating idle units (R457 to R459) -/

/-- Unit `u` is gated. -/
def State.gated (s : State) (u : Nat) : Bool := natBit (s.rd64 Reg.ckgGatedLo) u
/-- The state with a bit of a 64-bit register pair set or cleared. -/
def State.setBit64 (s : State) (k u : Nat) (b : Bool) : State :=
  let v := s.rd64 k
  s.wr64 k (if b == natBit v u then v else if b then v + 2 ^ u else v - 2 ^ u)

/-- The plan in force gives unit `u` work (R457). -/
def Plan.uses (p : Plan) (u : Nat) : Bool :=
  if u < 4 then (p.canvas? u).any (·.enabled)
  else if u < 20 then p.runs.any (fun r => r.blv == u - 4)
  else if u == 20 then p.inputs.any (·.enabled)
  else if u == 21 then !p.universes.isEmpty
  else if u < 38 then p.ports.any (fun r => r.port / 4 == u - 22)
  else if u == 38 then p.cw.isSome
  else false

/-- A unit is in use; outside Standby and Active none is. -/
def State.unitUsed (s : State) (u : Nat) : Bool :=
  (s.mode.mode == .standby || s.mode.mode == .active) && s.pl.uses u

/-- The result of a gate command. -/
def State.gateResult (s : State) (u code waited : Nat) : State :=
  let s := (s.setF Reg.ckgGatestat 24 8 code).setF Reg.ckgGatestat 16 6 u
  let s := (s.setF Reg.ckgGatestat 0 13 waited).setF Reg.ckgGatestat 23 1 (bit s.ckg.gate.isSome)
  if code == 0 then s else s.ckgErr code

/-- The FAB cycles that the waiting request has waited. -/
def State.gateWaited (s : State) (since : Nat) : Nat := min 4096 ((s.now - since) / 8)

/-- A write to CKG_GATECMD. -/
def State.gateCmd (s : State) (op u : Nat) : State :=
  if u > 39 then s.gateResult u 0x12 0
  else if op == 0 || op == 3 then s.gateResult u 0x15 0
  else if op == 2 then
    match s.ckg.gate with
    | some (v, t) =>
      if v == u then (s.ck (fun c => { c with gate := none })).gateResult u 0x14 (s.gateWaited t)
      else (s.setBit64 Reg.ckgGatedLo u false).gateResult u 0 0
    | none => (s.setBit64 Reg.ckgGatedLo u false).gateResult u 0 0
  else if s.ckg.gate.isSome then s.gateResult u 0x13 0
  else if s.gated u then s.gateResult u 0 0
  else if s.unitUsed u then s.gateResult u 0x11 0
  else (s.ck (fun c => { c with gate := some (u, s.now) })).gateResult u 0 0

/-- UNIT_GATE: CKG_GATECMD OP 1 requests that a unit's clock be gated. -/
def execUnitGate (init : InitId) (unit : BitVec 6) (s : State) : Host.Outcome State Fault Refusal :=
  .next (s.begin.ckgWrite init (fun s => s.gateCmd 1 unit.toNat))

/-- UNIT_UNGATE: CKG_GATECMD OP 2 withdraws a waiting gate request, or completes at once. -/
def execUnitUngate (init : InitId) (unit : BitVec 6) (s : State) : Host.Outcome State Fault Refusal :=
  .next (s.begin.ckgWrite init (fun s => s.gateCmd 2 unit.toNat))

/-- UNIT_GATED: the unit of the waiting request has no outstanding access; its clock stops. -/
def execUnitGated (s : State) : Host.Outcome State Fault Refusal :=
  let s := s.begin
  .next (match s.ckg.gate with
    | none => s
    | some (u, t) =>
      let w := s.gateWaited t
      let s := s.ck (fun c => { c with gate := none, waking := c.waking.drop (· == u) })
      ((s.setBit64 Reg.ckgGatedLo u true).gateResult u 0 w).count 18 0 1)

/-- GATE_BUSY_TIMEOUT: a gate request not satisfied in 4,096 FAB cycles is refused. -/
def execGateBusyTimeout (s : State) : Host.Outcome State Fault Refusal :=
  let s := s.begin
  .next (match s.ckg.gate with
    | none => s
    | some (u, t) =>
      let s := s.at_ (t + 4096 * 8)
      ((s.ck (fun c => { c with gate := none })).gateResult u 0x10 4096).count 18 0 3)

/-- An access or an apply wakes a gated unit: GATED clears, WOKEN is set, and the clock runs 64 FAB cycles later. -/
def State.wakeUnit (s : State) (u : Nat) : State :=
  if !s.gated u then s
  else
    let s := s.ck (fun c => { c with waking := c.waking.set u s.now })
    ((s.setBit64 Reg.ckgGatedLo u false).setBit64 Reg.ckgWokenLo u true).count 18 0 2

/-- UNIT_WAKE: an access reaches a gated unit, is held and wakes it. -/
def execUnitWake (unit : Nat) (s : State) : Host.Outcome State Fault Refusal :=
  .next (s.begin.wakeUnit unit)

/-- UNIT_WAKE_DONE: the clock of a woken unit runs 64 FAB cycles after the access arrived. -/
def execUnitWakeDone (unit : Nat) (s : State) : Host.Outcome State Fault Refusal :=
  let s := s.begin
  .next (match s.ckg.waking.find? unit with
    | none => s
    | some t => (s.at_ (t + 64 * 8)).ck (fun c => { c with waking := c.waking.drop (· == unit) }))

/-- An apply wakes the gated units to which the plan in force gives work (R459). -/
def State.wakeUsed (s : State) : State :=
  (List.range 40).foldl (fun s u => if s.gated u && s.unitUsed u then s.wakeUnit u else s) s

/-! ### The watchdog (R469) -/

/-- WATCHDOG_KICK: a write of the key restarts an armed watchdog; other values are ignored. -/
def execWatchdogKick (init : InitId) (value : Word32) (s : State) : Host.Outcome State Fault Refusal :=
  .next (s.begin.ckgWrite init (fun s =>
    if field value 16 16 == 0x3D06 && s.ckg.wd.isSome then s.ck (fun c => { c with wd := some s.now }) else s))

/-- A write to CKG_WDCFG. -/
def State.wdConfig (s : State) (value : Word32) : State :=
  let t := field value 0 16
  if t < 10 || t > 60000 then s.ckgErr 0x18
  else (s.wr Reg.ckgWdcfg (w32 t)).ck (fun c => { c with wd := c.wd.map (fun _ => s.now) })

/-- WATCHDOG_CONFIG_WRITE: a write to CKG_WDCFG sets the timeout and restarts the watchdog. -/
def execWatchdogConfigWrite (init : InitId) (value : Word32) (s : State) : Host.Outcome State Fault Refusal :=
  .next (s.begin.ckgWrite init (fun s => s.wdConfig value))

end Sys2Proof.Machine
end

