-- ==== Sys2Proof/Machine/TplParse.lean ====
section
/-! DEFINITION. Validation of a Town Plan, steps 1 to 5 (R48 to R76, R79, R552, R553): the file header, the envelope, the
section structure and the record fields, with the earliest location of a failure. -/

namespace Sys2Proof.Machine

/-! ### Failures and their locations -/

/-- A validation failure: its place in the order of locations, its code, and what TPL_ERRLOC and TPL_ERRREC report. -/
structure TplFail where
  key : Nat
  code : Nat
  off : Nat
  ty : Nat := 0
  idx : Nat := 0xFFFFFF
deriving DecidableEq, Repr

/-- True when failure `a` is reported rather than `b`: the earlier location, then a rejected zero, then the lower code
(R553). -/
def TplFail.before (a b : TplFail) : Bool :=
  if a.key != b.key then a.key < b.key
  else if (a.code == 0x17) != (b.code == 0x17) then a.code == 0x17
  else a.code < b.code

/-- The failure that a step reports (R553). -/
def firstFail : List TplFail → Option TplFail
  | [] => none
  | f :: t => some (t.foldl (fun a b => if b.before a then b else a) f)

/-- A failure at the file header, at the field of this offset. -/
def headFail (field code : Nat) : TplFail := { key := field, code := code, off := 0 }

/-! ### The file (R50 to R53) -/

/-- The fields of the file header (R50). -/
structure PlanHead where
  magic : Nat
  major : Nat
  minor : Nat
  flags : Nat
  total : Nat
  body : Nat
  id : Nat
  rev : Nat
  base : Nat
  count : Nat
  crc : Nat
deriving DecidableEq, Repr

/-- The reading of the file header. -/
def PlanHead.ofBytes (f : List Byte) : PlanHead :=
  { magic := leAt f 0 4, major := byteAt f 4, minor := byteAt f 5, flags := leAt f 6 2, total := leAt f 8 4,
    body := leAt f 0xC 4, id := leAt f 0x10 4, rev := leAt f 0x14 4, base := leAt f 0x18 4, count := leAt f 0x1C 2,
    crc := leAt f 0x3C 4 }

/-- FLAGS.ENCRYPTED. -/
def PlanHead.enc (h : PlanHead) : Bool := natBit h.flags 0
/-- FLAGS.SIGNED. -/
def PlanHead.signed (h : PlanHead) : Bool := natBit h.flags 1
/-- FLAGS.LIVE. -/
def PlanHead.live (h : PlanHead) : Bool := natBit h.flags 2
/-- File offset of the body. -/
def PlanHead.bodyAt (h : PlanHead) : Nat := if h.enc then 80 else 64
/-- File offset of the signature trailer. -/
def PlanHead.trailerAt (h : PlanHead) : Nat := h.bodyAt + h.body + (if h.enc then 16 else 0)

/-- TOTAL_LEN as R51 gives it. -/
def PlanHead.lenOk (h : PlanHead) : Bool :=
  h.total == h.trailerAt + (if h.signed then 104 else 0) && 64 ≤ h.total && h.total ≤ 8388608 && h.total % 8 == 0 &&
    h.body % 8 == 0

/-- Step 1: the file header, in the order of R552. -/
def planStep1 (f : List Byte) (len : Nat) : Option TplFail :=
  let h := PlanHead.ofBytes f
  if len < 64 then some (headFail 0 0x04)
  else if h.magic != 0x4E4C5054 then some (headFail 0 0x01)
  else if h.major != 3 || h.minor != 0 then some (headFail 0 0x02)
  else if h.crc != 0 && h.crc != crc32 (slice f 0 0x3C) then some (headFail 0 0x03)
  else if len != h.total || !h.lenOk then some (headFail 0 0x04)
  else none

/-- The keys against which an envelope is checked: TPL_SIGPOL.REQUIRE, owner keys and Town Plan key slots (R497). -/
structure PlanKeys where
  require : Bool := false
  owner : Tab (List Byte) := []
  slots : Tab (List Byte) := []
deriving DecidableEq, Repr

/-- Step 2: the signature (R53, R54). -/
def planStep2 (ks : PlanKeys) (f : List Byte) : Option TplFail :=
  let h := PlanHead.ofBytes f
  let o := h.trailerAt
  if !h.signed then (if ks.require then some (headFail 6 0x05) else none)
  else
    let bad := some { key := o, code := 0x06, off := o }
    if leAt f o 2 != 1 || leAt f (o + 4) 4 != 96 then bad
    else match ks.owner.find? (leAt f (o + 2) 2) with
      | none => bad
      | some k =>
        if ecdsaP384 k (f.take o) (leAt f (o + 8) 48) (leAt f (o + 0x38) 48) then none else bad

/-- Step 3: decryption (R52): the body in clear, or the failure. -/
def planStep3 (ks : PlanKeys) (f : List Byte) : Except TplFail (List Byte) :=
  let h := PlanHead.ofBytes f
  let cipher := slice f h.bodyAt h.body
  if !h.enc then .ok cipher
  else match ks.slots.find? (byteAt f 76) with
    | none => .error { key := 76, code := 0x07, off := 64 }
    | some k =>
      let t := 80 + h.body
      match gcmOpen k (slice f 64 12) (slice f 0 64) cipher (slice f t 16) with
      | some b => .ok b
      | none => .error { key := t, code := 0x07, off := t }

/-! ### Section structure (R55, R56) -/

/-- Record size and greatest count of a section TYPE (R56). -/
def sectionShape : Nat → Option (Nat × Nat)
  | 0x01 => some (32, 1)
  | 0x02 => some (16, 5)
  | 0x03 => some (8, 4096)
  | 0x04 => some (32, 16)
  | 0x05 => some (32, 4)
  | 0x06 => some (32, 64)
  | 0x07 => some (16, 4096)
  | 0x08 => some (32, 4096)
  | 0x09 => some (24, 64)
  | 0x0A => some (8, 4096)
  | 0x0B => some (16, 32768)
  | 0x0C => some (16, 131072)
  | 0x0D => some (8, 48)
  | 0x0E => some (8, 16)
  | 0x0F => some (8, 5)
  | 0x10 => some (16, 64)
  | 0x11 => some (16, 1)
  | _ => none

/-- The key of a record in its section (R56); SYSTEM and CAUSEWAY have none. -/
def recordKey (ty : Nat) (r : List Byte) : Nat :=
  match ty with
  | 0x02 | 0x04 | 0x05 | 0x09 | 0x0D | 0x0E | 0x0F | 0x10 => byteAt r 0
  | 0x03 | 0x07 | 0x08 | 0x0B => leAt r 0 2
  | 0x06 => byteAt r 0 * 256 + byteAt r 1
  | 0x0A => byteAt r 0 * 65536 + leAt r 4 2
  | 0x0C => leAt r 0 4
  | _ => 0

/-- A record with its origin: the file offset and section index it has in the staged plan, or none in the plan in force. -/
structure PlanRec where
  bytes : List Byte
  src : Option (Nat × Nat) := none
deriving DecidableEq, Repr

/-- A section as found in the body. -/
structure PlanSec where
  ty : Nat
  off : Nat
  recs : List PlanRec
deriving DecidableEq, Repr

/-- The records of a section whose records begin at body offset `o`, file offset `fo`. -/
def secRecs (body : List Byte) (o fo size : Nat) (n : Nat) : List PlanRec :=
  (List.range n).map (fun i => { bytes := slice body (o + i * size) size, src := some (fo + i * size, i) })

/-- Records out of key order: 0x12 at the later record (R48). -/
def keyFails (ty : Nat) : Option Nat → List PlanRec → List TplFail
  | _, [] => []
  | prev, r :: t =>
    let k := recordKey ty r.bytes
    let p := r.src.getD (0, 0)
    (match prev with
     | some q => if k ≤ q then [{ key := p.1, code := 0x12, off := p.1, ty := ty, idx := p.2 }] else []
     | none => []) ++ keyFails ty (some (match prev with | some q => max q k | none => k)) t

/-- What the walk over the sections finds. -/
structure SecWalk where
  secs : List PlanSec := []
  fails : List TplFail := []
  count : Nat := 0
  /-- a wrong SECTION_LEN hides what follows -/
  broken : Bool := false
deriving DecidableEq, Repr

/-- The sections of the body from offset `o` on; `base` is the body's file offset, `prev` the last TYPE. -/
def walkSecs (body : List Byte) (base : Nat) : Nat → Nat → Nat → SecWalk → SecWalk
  | 0, _, _, w => w
  | fuel + 1, o, prev, w =>
    let left := body.length - o
    if left == 0 then w
    else if left < 16 then { w with fails := headFail 0x1C 0x0B :: w.fails, broken := true }
    else
      let ty := leAt body o 2
      let size := leAt body (o + 2) 2
      let n := leAt body (o + 4) 4
      let len := leAt body (o + 8) 4
      let crc := leAt body (o + 12) 4
      let fo := base + o
      let bad := fun (c : Bool) (fld code : Nat) =>
        if c then [({ key := fo + fld, code := code, off := fo, ty := ty % 256 } : TplFail)] else []
      let lenBad := len < 16 || left < len || ((sectionShape ty).isSome && len != 16 + size * n)
      let fails := (match sectionShape ty with
        | none => bad true 0 0x08
        | some sh => bad (ty ≤ prev) 0 0x09 ++ bad (size != sh.1) 2 0x0A ++ bad (n > sh.2) 4 0x0D) ++ bad lenBad 8 0x0B
      if lenBad then { w with fails := fails ++ w.fails, count := w.count + 1, broken := true }
      else
        let cf := bad (crc != 0 && crc != crc32 (slice body (o + 16) (len - 16))) 12 0x0C
        let good := (sectionShape ty).any (fun sh => sh.1 == size)
        let recs := if good then secRecs body (o + 16) (fo + 16) size n else []
        let kf := if ty == 1 || ty == 17 then [] else keyFails ty none recs
        walkSecs body base fuel (o + len) (if (sectionShape ty).isSome then max prev ty else prev)
          { w with secs := w.secs ++ (if (sectionShape ty).isSome then [⟨ty, fo, recs⟩] else []),
                   fails := fails ++ cf ++ kf ++ w.fails, count := w.count + 1 }

/-- The records of a section TYPE. -/
def secOf (secs : List PlanSec) (ty : Nat) : List PlanRec := ((secs.find? (·.ty == ty)).map (·.recs)).getD []

/-- Conditions on the section counts (R56): SECTION_COUNT, the SYSTEM section of a full plan, CAUSEWAY against TWIN. -/
def countFails (h : PlanHead) (w : SecWalk) : List TplFail :=
  if w.broken then []
  else
    let cnt := if w.count != h.count then [headFail 0x1C 0x0B] else []
    let sys := w.secs.find? (·.ty == 1)
    let cw := w.secs.find? (·.ty == 17)
    if h.live then cnt
    else cnt ++ (match sys with
      | none => [headFail 0x1C 0x0E]
      | some s =>
        match s.recs with
        | [r] =>
          let twin := byteAt r.bytes 16 == 1
          (match cw with
           | none => if twin then [{ key := s.off + 16 + 16, code := 0x0E, off := s.off + 16, ty := 1, idx := 0 }] else []
           | some c =>
             if c.recs.length != bit twin then [{ key := c.off + 4, code := 0x0E, off := c.off, ty := 17 }] else [])
        | [] => [{ key := s.off + 4, code := 0x0E, off := s.off, ty := 1 }]
        | _ => [])

/-- Step 4: section structure. -/
def planStep4 (h : PlanHead) (body : List Byte) : Except TplFail (List PlanSec) :=
  let w := walkSecs body h.bodyAt (body.length / 16 + 1) 0 0 {}
  match firstFail (w.fails ++ countFails h w) with
  | some f => .error f
  | none => .ok w.secs

/-- An image in clear and without envelope, every CRC left unsupplied: header fields and the records by TYPE (R48, R50). -/
def encodePlan (id rev base : Nat) (live : Bool) (secs : Tab (List (List Byte))) : List Byte :=
  let body := (secs.filter (fun e => !e.2.isEmpty)).flatMap (fun e =>
    let size := ((sectionShape e.1).map (·.1)).getD 0
    leBytes 2 e.1 ++ leBytes 2 size ++ leBytes 4 e.2.length ++ leBytes 4 (16 + size * e.2.length) ++ leBytes 4 0 ++ e.2.flatten)
  leBytes 4 0x4E4C5054 ++ [3, 0] ++ leBytes 2 (4 * bit live) ++ leBytes 4 (64 + body.length) ++ leBytes 4 body.length ++
    leBytes 4 id ++ leBytes 4 rev ++ leBytes 4 base ++ leBytes 2 (secs.filter (fun e => !e.2.isEmpty)).length ++
    List.replicate 34 0 ++ body

/-- The image of a plan in force, as a full plan. -/
def Plan.image (p : Plan) : List Byte := encodePlan p.id p.rev 0 false p.raw

/-! ### Record fields (R57 to R76) -/

/-- A condition on the field at offset `o`. -/
def cond (ok : Bool) (o : Nat) (code : Nat := 0x0F) : List (Nat × Nat) := if ok then [] else [(o, code)]
/-- A field of `n` bytes from `lo` to `hi`. -/
def rng (r : List Byte) (o n lo hi : Nat) : List (Nat × Nat) := cond (lo ≤ leAt r o n && leAt r o n ≤ hi) o
/-- A field in which zero is rejected (R76). -/
def nz (r : List Byte) (o n lo hi : Nat) : List (Nat × Nat) := if leAt r o n == 0 then [(o, 0x17)] else rng r o n lo hi
/-- A reserved field (R48). -/
def rsv (r : List Byte) (o n : Nat) : List (Nat × Nat) := cond (leAt r o n == 0) o 0x10
/-- A field whose bits from `k` upward are reserved. -/
def low (r : List Byte) (o n k : Nat) : List (Nat × Nat) := cond (leAt r o n < 2 ^ k) o 0x10
/-- A field that names a district (R16). -/
def dst (r : List Byte) (o : Nat) : List (Nat × Nat) :=
  let v := byteAt r o
  if v < 4 || v == 7 then [] else if v < 7 then [(o, 0x11)] else [(o, 0x0F)]
/-- The range of a rate (R57, R63); a zero denominator is rejected as such. -/
def rateOk (num den : Nat) : Bool := den == 0 || (23976 * den ≤ 1000 * num && 1000 * num ≤ 240000 * den)

/-- The footprint k_t of a tile with box sampling (R77, R179). -/
def boxTaps (r : List Byte) : Nat := ceilDiv (leAt r 12 2) 256 * ceilDiv (leAt r 14 2) 256

/-- The conditions on the fields of one record: field offset and code. -/
def fieldFails (ty : Nat) (r : List Byte) : List (Nat × Nat) :=
  match ty with
  | 0x01 =>
    cond (rateOk (leAt r 0 4) (leAt r 4 4)) 0 ++ nz r 4 4 1 1001 ++ rng r 8 2 0 10000 ++ rng r 10 2 0 10000 ++
      low r 12 1 4 ++ low r 13 1 4 ++ low r 14 1 4 ++ rng r 15 1 0 1 ++ rng r 16 1 0 1 ++ rng r 17 1 0 1 ++
      rng r 18 1 0 127 ++ rng r 19 1 0 1 ++ rsv r 20 12
  | 0x02 =>
    dst r 0 ++ rsv r 1 1 ++ rng r 2 2 0 8188 ++ rng r 4 2 0 8188 ++ rng r 6 1 0 64 ++ rng r 7 1 0 64 ++
      low r 8 4 24 ++ cond (!(byteAt r 0 < 4 && natBit (leAt r 8 4) 13)) 0 ++ nz r 12 2 1 1024 ++ rsv r 14 2
  | 0x03 => rng r 0 2 0 4095 ++ dst r 2 ++ rng r 3 1 0 1 ++ rng r 4 2 0 8188 ++ rng r 6 1 0 2 ++ rsv r 7 1
  | 0x04 =>
    let kind := byteAt r 1
    let host := kind == 2
    rng r 0 1 0 15 ++ rng r 1 1 0 2 ++ dst r 2 ++ rng r 3 1 0 4 ++ cond (byteAt r 3 != 4 || host) 1 ++
      rng r 4 2 0 16384 ++ cond (byteAt r 3 != 0 || leAt r 4 2 % 2 == 0) 3 ++ rng r 6 2 0 8640 ++ rng r 8 1 0 63 ++
      cond (!host || byteAt r 8 == 0) 1 ++ cond (if kind == 1 then byteAt r 9 ≤ 63 else byteAt r 9 == 0xFF) 1 ++
      rng r 10 1 0 3 ++ rng r 11 1 0 1 ++ cond (!host || byteAt r 11 == 0) 1 ++
      cond (if host then leAt r 12 4 == 0 else leAt r 12 4 / 2 ^ 28 == 0xE) 1 ++ cond (!host || leAt r 16 2 == 0) 1 ++
      cond (rateOk (leAt r 20 4) (leAt r 24 4)) 20 ++ nz r 24 4 1 1001 ++ rsv r 28 4
  | 0x05 =>
    rng r 0 1 0 3 ++ dst r 1 ++ rng r 2 1 0 1 ++ rng r 3 1 0 3 ++ rng r 4 2 0 16384 ++ rng r 6 2 0 16384 ++
      cond (leAt r 4 2 * leAt r 6 2 ≤ 16777216) 4 ++ cond (byteAt r 3 != 0 || leAt r 10 2 == 0xFFFF) 3 ++
      nz r 12 2 1 1024 ++ cond (leAt r 14 2 == 0xFFFF || leAt r 14 2 < leAt r 6 2 + leAt r 12 2) 6 ++
      rng r 24 4 0 100000000 ++ cond (byteAt r 2 != 1 || leAt r 28 2 == 0xFFFF) 2 ++ rsv r 30 2
  | 0x06 =>
    rng r 0 1 0 3 ++ rng r 1 1 0 15 ++ cond (byteAt r 2 ≤ 15 || byteAt r 2 == 0xFF) 2 ++ low r 3 1 3 ++
      rng r 16 2 0 16384 ++ rng r 18 2 0 16384 ++ rng r 20 2 0 0x1000 ++ rng r 22 1 0 3 ++ rsv r 23 9
  | 0x07 =>
    let reg := byteAt r 2 == 0
    rng r 0 2 0 4095 ++ rng r 2 1 0 1 ++ rng r 3 1 1 4 ++
      cond (if reg then leAt r 4 2 ≤ 16384 else leAt r 4 2 == 0) 2 ++
      cond (if reg then leAt r 6 2 ≤ 16384 else leAt r 6 2 == 0) 2 ++ rng r 8 4 0 1048576 ++
      cond (!reg || leAt r 8 4 == leAt r 4 2 * leAt r 6 2) 2 ++ cond (!reg || leAt r 12 2 == 0xFFFF) 2 ++
      rng r 14 1 0 3 ++ rsv r 15 1
  | 0x08 =>
    let box := byteAt r 16 == 2
    rng r 0 2 0 4095 ++ rng r 2 1 0 3 ++ rng r 3 1 0 63 ++
      cond (!(box && leAt r 12 2 == 0)) 12 0x17 ++ cond (!(box && leAt r 14 2 == 0)) 14 0x17 ++
      cond (!box || boxTaps r ≤ 16) 12 ++ rng r 16 1 0 2 ++ rng r 17 1 0 1 ++ rng r 18 2 0 0x1000 ++ rsv r 22 2 ++ rsv r 30 2
  | 0x09 =>
    rng r 0 1 0 63 ++ rng r 1 1 0 1 ++ rng r 2 1 0 2 ++ cond (byteAt r 2 != 2 || byteAt r 1 == 1) 1 ++ dst r 3 ++
      nz r 4 2 1518 9600 ++ low r 6 1 4 ++ rsv r 7 1 ++ rng r 14 2 0 4094 ++ nz r 16 2 1 10000 ++ rsv r 18 6
  | 0x0A => rng r 0 1 0 63 ++ rsv r 1 1 ++ rng r 4 2 0 4095 ++ nz r 6 2 1 65535
  | 0x0B =>
    let out := byteAt r 2
    rng r 0 2 1 63999 ++ cond (out ≤ 63 || (0xF0 ≤ out && out ≤ 0xF3)) 2 ++ rng r 3 1 0 200 ++ rng r 4 2 0 63999 ++
      nz r 6 2 1 512 ++ cond (leAt r 8 4 == 0 || leAt r 8 4 / 2 ^ 28 == 0xE) 8 ++
      cond (out < 0xF0 || (leAt r 4 2 == 0 && leAt r 8 4 == 0)) 2 ++ nz r 12 1 1 255 ++ rsv r 13 3
  | 0x0C =>
    rng r 0 4 0 131071 ++ nz r 6 2 1 512 ++ nz r 8 2 1 512 ++ rng r 10 1 0 1 ++ rsv r 11 5
  | 0x0D =>
    let sign := byteAt r 1 == 1
    rng r 0 1 0 47 ++ rng r 1 1 0 1 ++ cond (if sign then byteAt r 2 ≤ 15 else byteAt r 2 == 0xFF) 1 ++
      rng r 3 1 0 3 ++ cond (!sign || byteAt r 3 == 0) 1 ++ nz r 4 2 1 3000 ++ dst r 6 ++ rsv r 7 1
  | 0x0E =>
    rng r 0 1 0 15 ++ dst r 1 ++ nz r 2 2 1 1000 ++ cond (byteAt r 4 ≤ 7 || byteAt r 4 == 0xFF) 4 ++ rsv r 5 3
  | 0x0F => dst r 0 ++ rng r 1 1 0 7 ++ nz r 2 2 1 65535 ++ nz r 4 4 1 4000000000
  | 0x10 => rng r 0 1 0 63 ++ rng r 1 1 0 3 ++ dst r 2 ++ low r 3 1 1
  | 0x11 =>
    nz r 0 2 1 1000 ++ nz r 2 2 1 65535 ++ cond (leAt r 2 2 ≤ leAt r 0 2 / 2) 0 ++ rng r 4 1 0 1 ++ low r 5 1 4 ++
      rsv r 6 2 ++ nz r 8 8 1 (2 ^ 64 - 1)
  | _ => []

/-- The failures of one record. -/
def recFails (ty : Nat) (r : PlanRec) : List TplFail :=
  let p := r.src.getD (0, 0)
  (fieldFails ty r.bytes).map (fun f => { key := p.1 + f.1, code := f.2, off := p.1, ty := ty, idx := p.2 })

/-- The LAYOUT record that a tile names, in the staged plan or else in the plan in force. -/
def tileLayout (secs : List PlanSec) (cur : Option Plan) (t : List Byte) : Option LoutRec :=
  let id := leAt t 4 2
  match (secOf secs 7).find? (fun r => leAt r.bytes 0 2 == id) with
  | some r => some (LoutRec.ofBytes r.bytes)
  | none => (cur.getD {}).layout? id

/-- A zero pitch in a tile with a regular layout: 0x17, a code of step 5 (R179, R552). -/
def pitchFails (secs : List PlanSec) (cur : Option Plan) : List TplFail :=
  (secOf secs 8).flatMap (fun t =>
    if !((tileLayout secs cur t.bytes).any (·.kind == 0)) then []
    else
      let p := t.src.getD (0, 0)
      ([12, 14].filter (fun o => leAt t.bytes o 2 == 0)).map (fun o =>
        { key := p.1 + o, code := 0x17, off := p.1, ty := 8, idx := p.2 }))

/-- Conditions of step 5 on the file header and the crypt block (R552). -/
def envelopeFails (f : List Byte) (cur : Option Plan) : List TplFail :=
  let h := PlanHead.ofBytes f
  let hd := fun (ok : Bool) (o code : Nat) => if ok then [] else [headFail o code]
  hd (h.flags < 8) 6 0x10 ++ hd (h.live || h.base == 0) 0x18 0x0F ++ hd (leAt f 0x1E 2 == 0) 0x1E 0x10 ++
    hd (leAt f 0x28 20 == 0) 0x28 0x10 ++
    (if h.live then
      (match cur with
       | none => [headFail 6 0x1F]
       | some p => hd (h.base == p.rev) 0x18 0x1F) ++ hd (h.rev > h.base) 0x14 0x1F
     else []) ++
    (if h.enc && leAt f 77 3 != 0 then [{ key := 77, code := 0x10, off := 64 }] else [])

/-! ### A live plan against the plan in force (R84) -/

/-- Sections that a live plan must not have. -/
def liveForbidden : List Nat := [0x01, 0x02, 0x04, 0x09, 0x0D, 0x0E, 0x0F, 0x11]

/-- The canvases a live plan touches. -/
def touchedBy (secs : List PlanSec) : List Nat := (secOf secs 5).map (fun r => byteAt r.bytes 0)

/-- The ports that carry a tile of a touched canvas, in the plan in force or in the live plan. -/
def livePorts (secs : List PlanSec) (p : Plan) : List Nat :=
  let touched := touchedBy secs
  ((p.tiles.filter (fun t => touched.contains t.plaza)).map (·.port) ++
    (secOf secs 8).map (fun r => byteAt r.bytes 3)).eraseDups

/-- Lot sets that objects of the plan in force reference which a live plan leaves untouched. -/
def untouchedSets (secs : List PlanSec) (p : Plan) : List Nat :=
  let touched := touchedBy secs
  let newLay := (secOf secs 7).map (fun r => leAt r.bytes 0 2)
  p.inputs.map (·.setId) ++
    (p.canvases.filter (fun c => !touched.contains c.plaza)).flatMap (fun c => [c.setId, c.wbSet, c.outSet]) ++
    (p.layouts.filter (fun l => !newLay.contains l.id)).map (·.posSet) ++
    (p.tiles.filter (fun t => !touched.contains t.plaza)).flatMap (fun t => [t.lctSet, t.lutSet])

/-- Code 0x20: what breaks the rules of R84. -/
def liveFails (secs : List PlanSec) (p : Plan) : List TplFail :=
  let touched := touchedBy secs
  let ports := livePorts secs p
  let bad := fun (ty : Nat) (r : PlanRec) (o : Nat) =>
    let q := r.src.getD (0, 0)
    ({ key := q.1 + o, code := 0x20, off := q.1, ty := ty, idx := q.2 } : TplFail)
  let each := fun (ty : Nat) (o : Nat) (broken : List Byte → Bool) =>
    ((secOf secs ty).filter (fun r => broken r.bytes)).map (fun r => bad ty r o)
  let keep := p.tiles.filter (fun t => !touched.contains t.plaza)
  let unis := (secOf secs 11).map (fun r => leAt r.bytes 0 2)
  let sets := untouchedSets secs p
  ((secs.filter (fun s => liveForbidden.contains s.ty)).map (fun s => { key := s.off, code := 0x20, off := s.off, ty := s.ty })) ++
    each 6 0 (fun r => !touched.contains (byteAt r 0)) ++
    each 8 2 (fun r => !touched.contains (byteAt r 2)) ++
    each 8 0 (fun r => keep.any (·.id == leAt r 0 2)) ++
    each 16 1 (fun r => !touched.contains (byteAt r 1)) ++
    each 16 0 (fun r => p.wits.any (fun w => w.win == byteAt r 0 && !touched.contains w.plaza)) ++
    each 7 0 (fun r => keep.any (·.layout == leAt r 0 2)) ++
    each 10 0 (fun r => !ports.contains (byteAt r 0)) ++
    each 10 0 (fun r =>
      let c := SchedRec.ofBytes r
      keep.any (·.id == c.tile) && !(p.scheds.contains c)) ++
    (if (p.scheds.filter (fun c => ports.contains c.port && keep.any (·.id == c.tile))).all (fun c =>
        (secOf secs 10).any (fun r => SchedRec.ofBytes r.bytes == c)) then [] else [headFail 0 0x20]) ++
    each 3 0 (fun r => sets.contains (leAt r 0 2)) ++
    each 12 4 (fun r => !unis.contains (leAt r 4 2)) ++
    each 12 0 (fun r => p.fixtures.any (fun x => x.id == leAt r 0 4 && !unis.contains x.uni))

/-- Step 5: record fields, with the conditions on the file header and the rules of a live plan. -/
def planStep5 (f : List Byte) (secs : List PlanSec) (cur : Option Plan) : Option TplFail :=
  let h := PlanHead.ofBytes f
  firstFail (envelopeFails f cur ++ secs.flatMap (fun s => s.recs.flatMap (recFails s.ty)) ++
    pitchFails secs (if h.live then cur else none) ++
    (match cur with | some p => if h.live then liveFails secs p else [] | none => []))

/-- Steps 1 to 5 on the first `len` bytes: the header and the sections, or the failure (R79). -/
def planSteps1to5 (ks : PlanKeys) (cur : Option Plan) (f : List Byte) (len : Nat) :
    Except TplFail (PlanHead × List PlanSec) :=
  match planStep1 f len with
  | some e => .error e
  | none =>
    match planStep2 ks f with
    | some e => .error e
    | none =>
      match planStep3 ks f with
      | .error e => .error e
      | .ok body =>
        let h := PlanHead.ofBytes f
        match planStep4 h body with
        | .error e => .error e
        | .ok secs =>
          match planStep5 f secs cur with
          | some e => .error e
          | none => .ok (h, secs)

end Sys2Proof.Machine
end

