-- ==== Sys2Proof/Machine/Lease.lean ====
section
/-! DEFINITION. Mode triggers (R35 to R38) and the Causeway's lease (R472 to R483, R489 to R491): roles, LEASE and STATUS
frames, claims, renewal and handover. -/

namespace Sys2Proof.Machine

/-! ### Triggers (R36 to R38) -/

/-- The rank of a target mode (R38). -/
def Mode.rank : Mode → Nat
  | .reset => 5 | .safe => 4 | .maintenance => 3 | .standby => 2 | .active => 1 | .boot => 0

/-- A full apply waits for its boundary (R36). -/
def State.fullPending (s : State) : Bool := s.tpl.pend.any (fun a => !a.chk.live)

/-- A trigger for a transition into or out of Active: it waits for the next frame boundary, or for the one after a pending
full apply; a lower-ranked one in progress is superseded, any other discards it (R36, R38). A handover's trigger is for boundary B (R480). -/
def State.trigger (s : State) (target : Mode) (cause : Nat) (bounds : Nat := 1) : State :=
  if target == s.mode.mode then s
  else
    let p : PendMode := { target := target, cause := cause, bounds := bounds, afterApply := target == .active && s.fullPending }
    match s.mode.pend with
    | some q => if q.target.rank < target.rank then { s with mode := { s.mode with pend := some p } } else s
    | none => { s with mode := { s.mode with pend := some p } }

/-! ### The Causeway's registers -/

/-- The Causeway's state replaced by `f` of it. -/
def State.cs (s : State) (f : CswState → CswState) : State := { s with csw := f s.csw }
/-- CSW_STATUS.ERR. -/
def State.cswErr (s : State) (c : Nat) : State := s.setErr Reg.cswStatus c
/-- The state with the role set. -/
def State.setRole (s : State) (r : Nat) : State := s.setF Reg.cswStatus 0 3 r
/-- ARMED (R472). -/
def State.armed (s : State) : Bool := s.bitOf Reg.cswStatus 6
/-- The state armed or disarmed. -/
def State.setArmed (s : State) (b : Bool) : State := s.setF Reg.cswStatus 6 1 (bit b)
/-- LEASE_OUT takes a level. -/
def State.setPin (s : State) (b : Bool) : State :=
  if s.bitOf Reg.cswStatus 8 == b then s else (s.setF Reg.cswStatus 8 1 (bit b)).emit (.leaseOut b)
/-- An event of CSW_CNT `k`: the counter, its performance event, and the CSW event of every district granted CSW. -/
def State.cswEvent (s : State) (k : Nat) : State :=
  let s := (s.bump (Reg.cswCnt k)).count 19 0 k
  [0, 1, 2, 3, 7].foldl (fun s d => if s.granted d 19 then s.raise d 14 19 else s) s

/-- The CAUSEWAY record of a twin whose lanes are up (R34, R472). -/
def State.twin (s : State) : Option CwRec :=
  match s.mode.mode with
  | .standby | .active | .maintenance => s.pl.cw
  | _ => none

/-- Milliseconds of the lease in ROOT cycles. -/
def CwRec.lease (c : CwRec) : Nat := msRoot c.leaseMs

/-! ### Frames (R474) -/

/-- Lamp Stream ports with link down. -/
def State.downPorts (s : State) : Nat :=
  (s.ports_.filter (fun p => !(s.portTiles p).isEmpty && !s.linkUp p)).length

/-- A STATUS frame leaves. -/
def State.sendStatus (s : State) (c : CwRec) : State :=
  let v := s.rd Reg.cswVer
  let f : StatusFrame := { role := Fin.ofNat 8 s.role, pairId := BitVec.ofNat 64 c.pairId, major := b8 (field v 8 8),
                           minor := b8 (field v 0 8), epoch := s.rd Reg.lmsEpoch, frame := s.frame,
                           down := s.downPorts, armed := s.armed }
  (s.cs (fun x => { x with statusAt := s.now })).emit (.causeway (.status f))

/-- A LEASE frame leaves, with the remaining lease time in whole milliseconds. -/
def State.sendLease (s : State) (c : CwRec) : State :=
  let used := (s.now - s.csw.renewed) / 9600000
  s.emit (.causeway (.lease { pairId := BitVec.ofNat 64 c.pairId, epoch := s.rd Reg.lmsEpoch, remaining := c.leaseMs - used }))

/-- E_heard follows an epoch received; the settings store keeps the higher of it and E_own (R478). -/
def State.hearEpoch (s : State) (e : Word32) : State :=
  let h := s.rd Reg.cswEpoch
  if !frameLater e h then s
  else
    let s := s.wr Reg.cswEpoch e
    let top := if frameLater e (s.rd Reg.lmsEpoch) then e else s.rd Reg.lmsEpoch
    { s with nv := (s.nv.set Reg.cswEpoch e).set Reg.lmsEpoch top }

/-- CW_LEASE_FRAME: a LEASE frame that carries the receiver's PAIR_ID is valid; a claim wait ends with it (R474, R477). -/
def execCwLeaseFrame (frame : LeaseFrame) (s : State) : Host.Outcome State Fault Refusal :=
  let s := s.begin
  .next (match s.twin with
    | none => s
    | some c =>
      let s := s.hearEpoch frame.epoch
      if frame.pairId.toNat != c.pairId then s
      else
        let low := if s.csw.inHigh then none else some (s.csw.lowLease.getD s.now)
        let claim := match s.csw.claim with | .waiting _ _ => Claim.idle | x => x
        s.cs (fun x => { x with leaseAt := some s.now, lowLease := low, claim := claim }))

/-- Sync begins with step 1 (R486). -/
def State.startSync (s : State) : State := ((s.setRole 2).setF Reg.cswSync 8 2 0).setF Reg.cswSync 0 8 0

/-- The code of the first pairing check that fails, 0 when the devices pair (R483). -/
def State.pairCode (s : State) (c : CwRec) (f : StatusFrame) : Nat :=
  if f.pairId.toNat != c.pairId then 0x01
  else if f.major.toNat != s.fld Reg.cswVer 8 8 then 0x02
  else if f.role == 0 || f.role == 6 then 0x03
  else 0

/-- The holder's part of a sync: the full plan in force, and a copy of every mirrored set in ascending handle order
(R484, R486). -/
def State.transfer (s : State) : State :=
  let sets := s.lot.sets.filter (fun x => x.id < 0x1000 && s.mirrors x.dist && (s.pl.set? x.id).isSome)
  let sets := sets.mergeSort (fun a b => a.handles.headD 0 ≤ b.handles.headD 0)
  let s := s.emit (.causeway (.mirror (.fullPlan s.pl.image)))
  sets.foldl (fun s x => s.emit (.causeway (.mirror (.lotWrite x.id 0 (s.readSet x 0 x.bytes))))) s

/-- CW_STATUS_FRAME: a STATUS frame of the peer; the device that does not hold the lease checks pairing, and syncs with a
peer that holds it (R474, R483, R486). -/
def execCwStatusFrame (frame : StatusFrame) (s : State) : Host.Outcome State Fault Refusal :=
  let s := s.begin
  .next (match s.twin with
    | none => s
    | some c =>
      let was := s.csw.peer.map (·.role)
      let s := (s.hearEpoch frame.epoch).cs (fun x => { x with peer := some frame, peerAt := s.now, peerOff := frame.frame - s.frame })
      let s := (s.setF Reg.cswStatus 16 3 frame.role.val).setF Reg.cswVer 24 8 frame.major.toNat
      let s := s.setF Reg.cswVer 16 8 frame.minor.toNat
      if s.csw.held then (if frame.role == 2 && was != some 2 then s.transfer else s)
      else if s.mode.mode == .maintenance then s
      else
        match s.pairCode c frame with
        | 0 =>
          if frame.role == 4 then (if s.role == 2 || s.role == 3 then s else s.startSync)
          else if s.role == 2 || s.role == 3 then s else s.setRole 1
        | code =>
          let s := if s.role == 5 then s else s.report { block := 19, code := code, sev := 1 }
          (s.setRole 5).cswErr code)

/-- PEER_STATUS_TIMEOUT: no agreeing STATUS frame within LEASE_MS (R472, R486). -/
def execPeerStatusTimeout (s : State) : Host.Outcome State Fault Refusal :=
  let s := s.begin
  .next (match s.twin with
    | none => s
    | some c =>
      if s.csw.peer.isNone then s
      else
        let s := s.at_ (s.csw.peerAt + c.lease)
        let s := (s.cs (fun x => { x with peer := none })).setF Reg.cswStatus 16 3 7
        if s.csw.held || s.mode.mode == .maintenance then s else s.setRole 1)

/-- STATUS_FRAME_INTERVAL: RENEW_MS after the last one a STATUS frame leaves; a renewal point at the same instant has
sent it already (R474). -/
def execStatusFrameInterval (s : State) : Host.Outcome State Fault Refusal :=
  let s := s.begin
  .next (match s.twin with
    | none => s
    | some c => if s.csw.held && s.csw.statusAt == s.now then s else (s.at_ (s.csw.statusAt + msRoot c.renewMs)).sendStatus c)

/-- CAUSEWAY_LINK_CHANGE: the Causeway link comes up or goes down (R474); its lanes need REFCLK (R452). -/
def execCausewayLinkChange (up : Bool) (s : State) : Host.Outcome State Fault Refusal :=
  let s := s.begin
  .next (if up && s.ckg.osc then s else match s.mode.mode with
    | .standby | .active | .maintenance => (s.cs (fun x => { x with linkAt := s.now })).setF Reg.cswStatus 7 1 (bit up)
    | _ => s)

/-! ### The end of the lease (R475) -/

/-- The lease ends: LEASE_OUT is deasserted and LEASE frames stop. -/
def State.leaseEnds (s : State) : State :=
  let s := (s.cs (fun x => { x with held := false, renew := false, claim := .idle })).setPin false
  if s.mode.mode == .maintenance then s else s.setRole 1

/-- A claim under way is withdrawn (R489). -/
def State.claimEnds (s : State) : State :=
  if s.csw.held then s.leaseEnds else (s.cs (fun x => { x with claim := .idle })).setPin false

/-- LEASE_EXPIRY: LEASE_MS has passed without a renewal; the trigger has cause 0x23, and a pending handover is abandoned
(R475, R489). -/
def execLeaseExpiry (s : State) : Host.Outcome State Fault Refusal :=
  let s := s.begin
  .next (match s.twin with
    | none => s
    | some c =>
      if !s.csw.held then s
      else
        let s := s.at_ (s.csw.renewed + c.lease)
        let s := if s.csw.handover.isSome then (s.cs (fun x => { x with handover := none })).cswErr 0x05 else s
        (s.leaseEnds.cswEvent 1).trigger .standby 0x23)

/-- CSW_RENEW: a write of the key permits the next renewal; other values are ignored (R475, R490). -/
def execCswRenew (init : InitId) (value : Word32) (s : State) : Host.Outcome State Fault Refusal :=
  .next (s.begin.access init 19 (fun s =>
    if !isHouse init then s.cswErr 0x0D
    else if field value 16 16 == 0x1EA5 then s.cs (fun x => { x with renew := true }) else s))

/-! ### Handover (R479, R480) -/

/-- The grid index and the frame number of the first boundary at least `ns` nanoseconds from now. -/
def State.boundaryAfter (s : State) (ns : Nat) : Int × Word32 :=
  let k := s.gridFrom (s.clt.units + ns * 2 ^ 32)
  let last := s.clt.lastK.getD (s.gridFrom s.clt.units - 1)
  let ahead := max 1 (k - last)
  (last + ahead, s.frame + w32 ahead.toNat)

/-- Time moves to `ns` nanoseconds before a grid point. -/
def State.toBefore (s : State) (k : Int) (ns : Nat) : State := s.passTicks (s.cyclesTo ((s.gridNs k - ns) * 2 ^ 32))
/-- True before the instant `ns` nanoseconds before a grid point. -/
def State.isBefore (s : State) (k : Int) (ns : Nat) : Bool := s.clt.units < (s.gridNs k - ns) * 2 ^ 32

/-- The number of boundaries from now up to and with the one that begins frame `b`. -/
def State.boundsTo (s : State) (b : Word32) : Nat := max 1 (b - s.frame).toInt.toNat

/-- A handover starts: HANDOVER names B and the epoch (R480). -/
def State.startHandover (s : State) (cause : Nat) : State :=
  if s.csw.handover.isSome then s
  else
    let (k, b) := s.boundaryAfter 2000000
    (s.cs (fun x => { x with handover := some { holder := true, grid := k, frame := b, cause := cause } })).emit
      (.causeway (.handover b (s.rd Reg.lmsEpoch)))

/-- A self-diagnosis check that is enabled has failed (R479). -/
def State.diagFails (s : State) (f : StatusFrame) : Bool :=
  let d := s.rd Reg.cswDiag
  let margin := field d 8 6
  (d.getLsbD 1 && s.cltSt == 4) || (d.getLsbD 2 && s.csw.fatal) ||
    (d.getLsbD 0 && margin != 0 && f.down + margin ≤ s.downPorts)

/-- LEASE_RENEWAL_POINT: RENEW_MS after the last one the holder renews if it is permitted, sends LEASE and STATUS, and
runs self-diagnosis (R474, R475, R479). -/
def execLeaseRenewalPoint (s : State) : Host.Outcome State Fault Refusal :=
  let s := s.begin
  .next (match s.twin with
    | none => s
    | some c =>
      if !s.csw.held then s
      else
        let s := s.at_ (s.csw.point + msRoot c.renewMs)
        if s.csw.renewed + c.lease ≤ s.now then s
        else
          let s := s.cs (fun x => { x with point := s.now, renewed := if x.renew then s.now else x.renewed, renew := false })
          let s := (s.sendLease c).sendStatus c
          let s := match s.csw.peer with
            | some f =>
              if f.role == 3 && f.armed && s.now ≤ s.csw.peerAt + c.lease && s.diagFails f then s.startHandover 0x24 else s
            | none => s
          s.cs (fun x => { x with fatal := false }))

/-- A write to CSW_CMD passes KEY, command, authority and role (R490, R491). -/
def State.cswCmd (s : State) (init : InitId) (key : BitVec 16) (role : Nat → Bool) (f : State → State) : State :=
  s.access init 19 (fun s =>
    if key != 0xCA5E#16 then s.cswErr 0x09
    else if !s.auth false (·.modeAuth) (distOf init) then s.cswErr 0x0A
    else if !role s.role then s.cswErr 0x0B
    else f s)

/-- CSW_HANDOVER: CSW_CMD HANDOVER on the holder starts a handover. -/
def execCswHandover (init : InitId) (key : BitVec 16) (s : State) : Host.Outcome State Fault Refusal :=
  .next (s.begin.cswCmd init key (· == 4) (fun s => s.startHandover 0x20))

/-- HANDOVER_FRAME: a standby that is READY and ARMED answers ACCEPT for B; otherwise the frame is ignored (R480). -/
def execHandoverFrame (boundary epoch : Word32) (s : State) : Host.Outcome State Fault Refusal :=
  let s := s.begin
  .next (if s.twin.isNone || s.role != 3 || !s.armed then s
    else
      let ahead := (boundary - s.frame).toInt
      let last := s.clt.lastK.getD (s.gridFrom s.clt.units - 1)
      let s := s.hearEpoch epoch
      (s.cs (fun x => { x with handover := some { holder := false, grid := last + ahead, frame := boundary } })).emit
        (.causeway (.accept boundary)))

/-- ACCEPT_FRAME: on ACCEPT before B - 1 ms the holder releases the lease and takes the trigger for boundary B (R480). -/
def execAcceptFrame (boundary : Word32) (s : State) : Host.Outcome State Fault Refusal :=
  let s := s.begin
  .next (match s.csw.handover with
    | some h =>
      if h.holder && s.csw.held && h.frame == boundary && s.isBefore h.grid 1000000 then
        let s := s.leaseEnds
        let s := (s.cs (fun x => { x with handover := none, byHandover := true })).cswEvent 2
        s.trigger .standby h.cause (s.boundsTo h.frame)
      else s
    | none => s)

/-- HANDOVER_ACCEPT_TIMEOUT: no ACCEPT by B - 1 ms; the holder keeps the lease and the handover is abandoned (R480). -/
def execHandoverAcceptTimeout (s : State) : Host.Outcome State Fault Refusal :=
  let s := s.begin
  .next (match s.csw.handover with
    | some h =>
      if h.holder && s.csw.held then ((s.toBefore h.grid 1000000).cs (fun x => { x with handover := none })).cswErr 0x05
      else s
    | none => s)

/-- HANDOVER_ASSERT_DEADLINE: the standby has not asserted by B - 100 µs; it claims by the watch (R480). -/
def execHandoverAssertDeadline (s : State) : Host.Outcome State Fault Refusal :=
  let s := s.begin
  .next (match s.csw.handover with
    | some h =>
      if !h.holder && s.csw.claim == .idle then (s.toBefore h.grid 100000).cs (fun x => { x with handover := none }) else s
    | none => s)

/-! ### Claims (R477, R478) -/

/-- LEASE_IN_CHANGE: the LEASE_IN pin changes its level. High ends a claim wait; low after an accepted handover lets the
standby assert LEASE_OUT (R477, R480). -/
def execLeaseInChange (level : Bool) (s : State) : Host.Outcome State Fault Refusal :=
  let s := s.begin
  .next (if s.csw.inHigh == level then s
    else
      let s := (s.cs (fun x => { x with inHigh := level, inSince := s.now, lowLease := none })).setF Reg.cswStatus 9 1 (bit level)
      if level then
        match s.csw.claim with
        | .waiting _ _ => s.cs (fun x => { x with claim := .idle })
        | _ => s
      else
        match s.twin, s.csw.handover with
        | some _, some h =>
          if !h.holder && s.csw.claim == .idle && s.isBefore h.grid 100000 then
            (s.setPin true).cs (fun x => { x with claim := .guard 0 s.now })
          else s
        | _, _ => s)

/-- The device may claim by the watch: ARMED, in Standby, ALONE, READY or REFUSED (R477). -/
def State.mayClaim (s : State) : Bool :=
  s.armed && s.mode.mode == .standby && s.mode.pend.isNone && (s.role == 1 || s.role == 3 || s.role == 5)

/-- LEASE_WATCH_EXPIRY: LEASE_IN has been low, and no valid LEASE frame has arrived, for LEASE_MS: the claim wait begins. -/
def execLeaseWatchExpiry (s : State) : Host.Outcome State Fault Refusal :=
  let s := s.begin
  .next (match s.twin with
    | none => s
    | some c =>
      if s.mayClaim && s.csw.claim == .idle && !s.csw.inHigh then
        let from_ := max s.csw.inSince (s.csw.leaseAt.getD s.ckg.bootAt)
        let s := s.at_ (from_ + c.lease)
        s.cs (fun x => { x with claim := .waiting 0 s.now, handover := none })
      else s)

/-- g(k): ten bits of the Device Serial Number in LCS_SERIAL (R477). -/
def State.claimBits (s : State) (k : Nat) : Nat := s.rd64 Reg.lcsSerialLo / 2 ^ (10 * (k % 7)) % 1024

/-- CLAIM_WAIT_EXPIRY: the claim wait ends and LEASE_OUT is asserted. -/
def execClaimWaitExpiry (s : State) : Host.Outcome State Fault Refusal :=
  let s := s.begin
  .next (match s.twin, s.csw.claim with
    | some c, .waiting k t =>
      if !s.mayClaim then s.cs (fun x => { x with claim := .idle })
      else
        let s := s.at_ (t + c.prefer * c.lease + usRoot (4 * s.claimBits k))
        (s.setPin true).cs (fun x => { x with claim := .guard k s.now })
    | _, _ => s)

/-- The lease is acquired with a new epoch, which is stored before Active is entered (R478). -/
def State.acquire (s : State) : State :=
  let own := s.rd Reg.lmsEpoch
  let top := if frameLater (s.rd Reg.cswEpoch) own then s.rd Reg.cswEpoch else own
  let e := if top + 1 == 0 then 1 else top + 1
  let s := { s.wr Reg.lmsEpoch e with nv := s.nv.set Reg.lmsEpoch e }
  let by_ := s.csw.handover.isSome
  let bounds := (s.csw.handover.map (fun h => s.boundsTo h.frame)).getD 1
  let s := s.cs (fun x => { x with held := true, claim := .idle, renewed := s.now, point := s.now, renew := false,
                                   handover := none, byHandover := by_ })
  let s := (s.setRole 4).cswEvent 0
  let s := if by_ then s.cswEvent 2 else s
  s.trigger .active 0x22 bounds

/-- CLAIM_GUARD_EXPIRY: 10 µs after LEASE_OUT was asserted the lease is acquired, or LEASE_IN is high and the claim has
collided (R477). -/
def execClaimGuardExpiry (s : State) : Host.Outcome State Fault Refusal :=
  let s := s.begin
  .next (match s.twin, s.csw.claim with
    | some _, .guard k t =>
      let s := s.at_ (t + usRoot 10)
      if s.csw.inHigh then
        let s := (s.setPin false).cs (fun x => { x with claim := .waiting (k + 1) s.now, handover := none })
        ((s.setF Reg.cswStatus 10 1 1).cswErr 0x04).cswEvent 3
      else s.acquire
    | _, _ => s)

/-- Since when pin and link disagree: LEASE_IN is high while the link is up and no LEASE frame arrives, or valid LEASE frames
arrive, the last one within LEASE_MS, while it is low (R477). -/
def State.pinDisagrees (s : State) (c : CwRec) : Option Nat :=
  if s.csw.inHigh then
    if s.bitOf Reg.cswStatus 7 then some (max s.csw.inSince (max s.csw.linkAt (s.csw.leaseAt.getD 0))) else none
  else match s.csw.lowLease, s.csw.leaseAt with
    | some t, some last => if max s.now (t + c.lease) ≤ last + c.lease then some t else none
    | _, _ => none

/-- LEASE_PIN_FAULT: pin and link have disagreed for LEASE_MS, once for each disagreement. -/
def execLeasePinFault (s : State) : Host.Outcome State Fault Refusal :=
  let s := s.begin
  .next (match s.twin with
    | none => s
    | some c =>
      match s.pinDisagrees c with
      | none => s
      | some t =>
        if s.csw.pinSince == some t then s
        else
          let s := (s.at_ (t + c.lease)).cs (fun x => { x with pinSince := some t })
          ((s.report { block := 19, code := 0x08, sev := 1 }).setF Reg.cswStatus 11 1 1).cswErr 0x08)

end Sys2Proof.Machine
end

