-- ==== Sys2Proof/Machine/Roundabout.lean ====
section
/-! DEFINITION. The Roundabout (R328 to R351): admission, aging, the pick, dispatch, preemption and parking, completion,
the handlers of the catalogue, and the decision trace. -/

namespace Sys2Proof.Machine

/-- The state with the Roundabout's own part changed. -/
def State.sc (s : State) (f : SchState → SchState) : State := { s with sch := f s.sch }
/-- The item in record `r`. -/
def State.item? (s : State) (r : Nat) : Option Item := s.sch.recs.find? r
/-- The state with record `r` holding an item. -/
def State.setItem (s : State) (r : Nat) (x : Item) : State := s.sc (fun c => { c with recs := c.recs.set r x })
/-- The state with record `r` free. -/
def State.freeItem (s : State) (r : Nat) : State := s.sc (fun c => { c with recs := c.recs.drop (· == r) })
/-- SCH_TICK: TICK cycles since Reset (R332). -/
def State.schTick (s : State) : Nat := (s.now - s.sch.base) / 24
/-- The Roundabout runs in Standby, Active and Maintenance (R343). -/
def State.schOn (s : State) : Bool :=
  s.mode.mode == .standby || s.mode.mode == .active || s.mode.mode == .maintenance
/-- A fresh order number. -/
def State.nextSeq (s : State) : Nat × State := (s.sch.seq, s.sc (fun c => { c with seq := c.seq + 1 }))

/-- The records of a district, as first and number (R329). -/
def recRange (d : Nat) : Nat × Nat := if d < 4 then (192 * d, 192) else (768, 256)

/-- MAX_LEVEL, QUANTUM, L7_ITEMS and AGE_LIMIT of a slot. -/
def State.maxLevel (s : State) (j : Nat) : Nat := s.fld (Reg.schDcfg j) 8 3
/-- QUANTUM of a slot. -/
def State.quantum (s : State) (j : Nat) : Nat := s.fld (Reg.schDcfg j) 16 16
/-- L7_ITEMS of a slot. -/
def State.l7Items (s : State) (j : Nat) : Nat := s.fld (Reg.schDcfg j) 0 4
/-- def[l][d], signed (R333). -/
def State.deficit (s : State) (l d : Nat) : Int := signed 32 (s.rd (Reg.schDdef (slotOf d) l)).toNat
/-- The state with def[l][d] set; a deficit saturates at −2^31. -/
def State.setDeficit (s : State) (l d : Nat) (v : Int) : State :=
  s.wr (Reg.schDdef (slotOf d) l) (w32 (twos 32 (clampI (-(2 ^ 31 : Nat)) ((2 ^ 31 - 1 : Nat)) v)))
/-- A district's event count (R518). -/
def State.schCount (s : State) (d k : Nat) : State := (s.bump (Reg.schDcnt (slotOf d) k)).count 11 (slotOf d) k

/-! ### The decision trace (R347 to R349) -/

/-- What a trace record says beside the item. -/
structure Trace where
  event : Nat
  core : Nat := 0xFF
  park : Nat := 0xFF
  status : Nat := 0
  deficit : Int := 0
  otherRec : Nat := 0xFFFF
  otherDist : Nat := 0xFF

/-- The 32 bytes of a trace record (R347). -/
def traceBytes (tick r : Nat) (x : Item) (t : Trace) : List Byte :=
  leBytes 8 tick ++ [b8 t.event, b8 t.core, b8 x.level, b8 x.dist] ++ leBytes 2 r ++ leBytes 2 x.tag ++ leBytes 2 x.handler ++
    [b8 t.park, b8 t.status] ++ leBytes 4 (twos 32 t.deficit) ++ leBytes 2 t.otherRec ++ [b8 t.otherDist, 0, 0, 0, 0, 0]

/-- A record put into the trace path of slot `j` and written, or lost because the path is full or STOP keeps it out (R348,
R349). How many records have left the path since the last one came is open. -/
def State.traceTo (s : State) (j : Nat) (b : List Byte) : State :=
  let k := Reg.schTrcCtl j
  if !s.bitOf k 31 then s
  else
    let (d, s) := s.draw
    let wait := s.sch.path.get 0 j - Config.traceDrained d
    let s := s.sc (fun c => { c with path := c.path.set j wait })
    let n := s.fld k 0 17
    let wp := s.fld (Reg.schTrcWp j) 0 17
    let rp := s.fld (Reg.schTrcRp j) 0 17
    if wait ≥ 16 then s.bump (Reg.schTrcLost j)
    else if s.bitOf k 30 && (wp + 2 * n - rp % (2 * n)) % (2 * n) == n then (s.setF k 29 1 1).bump (Reg.schTrcLost j)
    else
      let s := s.sc (fun c => { c with path := c.path.set j (wait + 1) })
      let off := s.rd64 (Reg.schTrcOffLo j) + 32 * (wp % max 1 n)
      (s.writeSetId (s.fld (Reg.schTrcSet j) 0 16) off b).setF (Reg.schTrcWp j) 0 17 ((wp + 1) % (max 1 (2 * n)))

/-- A decision about an item traced for its district, and for the house district with ALL (R347). -/
def State.trace (s : State) (r : Nat) (x : Item) (t : Trace) : State :=
  let b := traceBytes s.schTick r x t
  let j := slotOf x.dist
  let s := s.traceTo j b
  if j != 4 && s.bitOf (Reg.schTrcCtl 4) 28 then s.traceTo 4 b else s

/-- Access to a slot's registers (R350); the code is kept per district. -/
def State.schSlot (s : State) (init : InitId) (j : Nat) (f : State → State) (write : Bool := true) : State :=
  s.access init 11 (fun s =>
    if slotAllowed (distOf init) j then f s else s.setErr (distKey (slotOf (distOf init)) Reg.schStatus) 0x10) write

/-- The code of a trace's enable checks (R348). -/
def State.traceCode (s : State) (j : Nat) : Nat :=
  let n := s.fld (Reg.schTrcCtl j) 0 17
  let off := s.rd64 (Reg.schTrcOffLo j)
  if off % 32 != 0 || (s.setRange (slotDist j) (s.fld (Reg.schTrcSet j) 0 16) off (32 * n)).isNone then 0x11
  else if !([64, 128, 256, 512, 1024, 2048, 4096, 8192, 16384, 32768, 65536].contains n) then 0x12
  else 0

/-- TRACE_ENABLE: a write of SCH_TRC_CTL checks the configuration and enables the trace, or disables it (R348). -/
def execTraceEnable (init : InitId) (slot : Fin 5) (value : Word32) (s : State) : Host.Outcome State Fault Refusal :=
  .next (s.begin.schSlot init slot.val (fun s =>
    let j := slot.val
    let k := Reg.schTrcCtl j
    let s := if value.getLsbD 29 then s.setF k 29 1 0 else s
    let s := if j == 4 && isHouse init then s.setF k 28 1 (field value 28 1) else s
    if s.bitOf k 31 then
      let s := if field value 30 1 != s.fld k 30 1 || field value 0 17 != s.fld k 0 17 then s.setErr (Reg.schDstat j) 0x13 else s
      s.setF k 31 1 (field value 31 1)
    else
      let s := (s.setF k 30 1 (field value 30 1)).setF k 0 17 (field value 0 17)
      if !value.getLsbD 31 then s
      else
        let c := s.traceCode j
        if c != 0 then s.setErr (Reg.schDstat j) c
        else ((s.setF k 31 1 1).wr (Reg.schTrcWp j) 0).wr (Reg.schTrcRp j) 0))

/-! ### Lists (R330, R331, R335) -/

/-- A frame boundary lies in an earlier FAB cycle, so its reset of the level-7 counts has been done (R342). -/
def State.l7Over (s : State) : Bool := s.sch.l7Due.any (fun c => c < s.now / 8)
/-- L7_USED of a slot (R335). -/
def State.l7Used (s : State) (j : Nat) : Nat := if s.l7Over then 0 else s.sch.used7.get 0 j
/-- A district's ready level-7 items are held back by the frame limit (R335). -/
def State.held7 (s : State) (d : Nat) : Bool := s.l7Items (slotOf d) ≤ s.l7Used (slotOf d)
/-- The counts as they are once a boundary that is over has reset them. -/
def State.l7Settle (s : State) : State := if s.l7Over then s.sc (fun c => { c with used7 := [], l7Due := none }) else s

/-- The ready items of a district at a level that the pick may take, oldest first. -/
def State.readyList (s : State) (l d : Nat) : List (Nat × Item) :=
  if l == 7 && s.held7 d then []
  else
    (s.sch.recs.filter (fun e => e.2.st == .ready && e.2.dist == d && e.2.level == l)).foldl
      (fun acc e => (acc.filter (fun x => x.2.seq < e.2.seq)) ++ [e] ++ acc.filter (fun x => e.2.seq < x.2.seq)) []

/-- The item at the head of a district's list at a level. -/
def State.headOf (s : State) (l d : Nat) : Option (Nat × Item) := (s.readyList l d).head?

/-- No positive credit is saved where a district has no ready item (R333). -/
def State.trimDeficits (s : State) : State :=
  (List.range 8).foldl (fun s l => allDists.foldl (fun s d =>
    if (s.headOf l d).isNone && s.deficit l d > 0 then s.setDeficit l d 0 else s) s) s

/-- Parked items at a level, the one parked longest first. -/
def State.parkedAtLevel (s : State) (l : Nat) : Option (Nat × Item) :=
  (s.sch.recs.filter (fun e => (match e.2.st with | .parked _ => true | _ => false) && e.2.level == l)).foldl
    (fun (acc : Option (Nat × Item)) e => match acc with | none => some e | some b => if e.2.parkedAt < b.2.parkedAt then some e else acc) none

/-- The highest level with an eligible item (R331). -/
def State.topLevel (s : State) : Option Nat :=
  (List.range 8).reverse.find? (fun l => (s.parkedAtLevel l).isSome || allDists.any (fun d => (s.headOf l d).isSome))

/-! ### Admission (R329, R330) -/

/-- A handler of the catalogue or of the house firmware's range (R346). -/
def inHandlers (h : Nat) : Bool := [0x0001, 0x0010, 0x0011, 0x0020, 0x0030, 0x0040, 0x0050].contains h || (0x7000 ≤ h && h ≤ 0x7FFF)

/-- The item of a descriptor (R328). -/
def itemOf (d : Nat) (b : List Byte) : Item :=
  { dist := d, handler := leAt b 0 2, level := byteAt b 2, notify := natBit (byteAt b 3) 0, tag := leAt b 4 2, cost := leAt b 6 2,
    args := (List.range 6).map (fun k => leAt b (16 + 8 * k) 8) }

/-- The status with which a descriptor is rejected, 0 when it is admitted (R330). -/
def State.admitCode (s : State) (d : Nat) (b : List Byte) : Nat :=
  let x := itemOf d b
  let j := slotOf d
  if byteAt b 3 > 1 || leAt b 8 8 != 0 then 0x04
  else if !inHandlers x.handler then 0x01
  else if x.handler ≥ 0x7000 && d != houseDist then 0x05
  else if x.level > s.maxLevel j then 0x02
  else if x.cost == 0 || (x.level == 7 && x.cost > 250) then 0x03
  else if x.level == 7 && s.l7Items j == 0 then 0x09
  else 0

/-- The lowest free record of a district. -/
def State.freeRecord (s : State) (d : Nat) : Option Nat :=
  let (a, n) := recRange d
  (List.range n).map (· + a) |>.find? (fun r => (s.item? r).isNone)

/-! ### Completions (R339, R340) -/

/-- The 32 bytes of a completion (R339). -/
def completionBytes (x : Item) (status core runUs result : Nat) : List Byte :=
  let wait := if x.dispLevel.isNone then 0 else min 0xFFFFFFFF ((x.dispAt - x.admitted) / 9600)
  leBytes 2 x.tag ++ [b8 status, b8 core] ++ leBytes 2 x.handler ++
    [b8 (x.dispLevel.getD x.level), b8 (bit x.parkedOnce + 2 * bit x.aged)] ++ leBytes 4 runUs ++ leBytes 4 wait ++
    leBytes 8 result ++ List.replicate 8 0

/-- The dwords of a byte string. -/
def bytesToWords (b : List Byte) : List Word32 := (List.range (b.length / 4)).map (dwordAt b)

/-- The lane of an item's completion (R352). -/
def Item.lane (x : Item) : Nat := x.dispLevel.getD x.level

/-- Record `r`'s completion written into its lane, if the lane has space and none of the lane waits before it. -/
def State.writeCompletion (s : State) (r : Nat) : State :=
  match s.item? r with
  | none => s
  | some x =>
    let j := slotOf x.dist
    let before := s.sch.recs.any (fun e => e.2.st == .ended && e.2.dist == x.dist && e.2.lane == x.lane && e.2.endSeq < x.endSeq)
    if before then s
    else
      match s.quePost (8 + j) x.lane 0xFF (bytesToWords x.completion) with
      | (.full, _) => s
      | (_, s) => let s := s.freeItem r
                  if x.notify then s.raise x.dist 7 11 else s

/-- An item ends with a completion: written, or held until its lane has space (R340); that of a district that has been
reset is discarded (R345). -/
def State.complete (s : State) (r : Nat) (x : Item) (status core runUs result : Nat) : State :=
  if x.orphan then s.freeItem r
  else
    let (q, s) := s.nextSeq
    (s.setItem r { x with st := .ended, completion := completionBytes x status core runUs result, endSeq := q }).writeCompletion r

/-! ### Aging (R332) -/

/-- Every ready or parked item below level 6 that has spent AGE_LIMIT at its level moves up one. -/
def State.age (s : State) : State :=
  let due := s.sch.recs.filter (fun e =>
    (match e.2.st with | .ready => true | .parked _ => true | _ => false) && e.2.level < 6 &&
      (s.rd (Reg.schDage (slotOf e.2.dist))).toNat ≤ (s.now - e.2.since) / 24)
  (due.foldl (fun s e =>
    let (q, s) := s.nextSeq
    let x := { e.2 with level := e.2.level + 1, seq := q, since := s.now, aged := true }
    ((s.setItem e.1 x).schCount x.dist 3).trace e.1 x { event := 4 }) s).trimDeficits

/-- An aging point falls into this cycle and has not been served. -/
def State.agingDue (s : State) : Bool := s.schTick % 256 == 0 && s.sch.aged != s.schTick
/-- The aging point of this cycle. -/
def State.agePoint (s : State) : State := (s.sc (fun c => { c with aged := s.schTick })).age
/-- An aging point goes before the admissions and picks of its cycle (R342). -/
def State.ageFirst (s : State) : State := if s.agingDue then s.agePoint else s

/-! ### The admission arbiter (R329, R330) -/

/-- The next district to admit from: in the order 0, 1, 2, 3, 7 after the last, with a waiting descriptor and a free
record. -/
def State.admitFrom (s : State) : Option Nat :=
  (rrOrder s.sch.last).find? (fun d => (s.topLane (slotOf d)).isSome && (s.freeRecord d).isSome)

/-- ITEM_ADMISSION: the admission arbiter takes one item from a submission queue into a record, or rejects it (R329, R330). -/
def execItemAdmission (s : State) : Host.Outcome State Fault Refusal :=
  let s := s.begin
  .next (match (if s.schOn then s.admitFrom else none) with
    | none => s
    | some d =>
      let s := s.ageFirst
      let s := s.sc (fun c => { c with last := d })
      let pos := fun (l : Nat) => (laneKey (slotOf d) l, (s.lane (slotOf d) l).rp)
      match s.freeRecord d, s.quePop (slotOf d) 0xFF with
      | some r, (some (l, e), s) =>
        let mirrored := s.que.mirrored.contains (pos l)
        let s := { s with que := { s.que with mirrored := s.que.mirrored.filter (· != pos l) } }
        let b := wordsToBytes e
        let code := s.admitCode d b
        let (q, s) := s.nextSeq
        let x := { itemOf d b with seq := q, since := s.now, admitted := s.now, orphan := mirrored }
        if code != 0 then ((s.schCount d 1).trace r x { event := 2, status := code }).complete r x code 0xFF 0 0
        else (((s.setItem r x).schCount d 0).trace r x { event := 1 }).trimDeficits
      | _, (_, s) => s)

/-- AGING_POINT: at a multiple of 256 of SCH_TICK, items that have waited AGE_LIMIT move up one level (R332). -/
def execAgingPoint (s : State) : Host.Outcome State Fault Refusal :=
  let s := s.begin
  .next (if s.mode.mode == .reset then s
    else
      let s := if s.agingDue then s else s.at_ (s.sch.base + (s.schTick / 256 + 1) * 256 * 24)
      s.agePoint)

/-! ### The pick (R333) -/

/-- The districts with a ready item at a level, in cyclic order after `d`. -/
def State.readyAfter (s : State) (l d : Nat) : List Nat := (rrOrder d).filter (fun e => (s.headOf l e).isSome)

/-- The pass of R333 at a level whose districts all fall short: one visit after another. -/
def State.pickLoop (s : State) (l : Nat) : Nat → Option (Nat × Item) × State
  | 0 => (none, s)
  | fuel + 1 =>
    match (s.readyAfter l (s.sch.cur.get 7 l)).head? with
    | none => (none, s)
    | some d =>
      let s := s.sc (fun c => { c with cur := c.cur.set l d })
      let s := s.setDeficit l d (s.deficit l d + s.quantum (slotOf d))
      match s.headOf l d with
      | some (r, x) => if (x.cost : Int) ≤ s.deficit l d then (some (r, x), s) else State.pickLoop s l fuel
      | none => (none, s)

/-- Rounds of credit a district still needs before its head can go: at least one. -/
def roundsNeeded (cost : Nat) (deficit : Int) (quantum : Nat) : Nat :=
  max 1 (ceilDiv ((cost : Int) - deficit).toNat (max 1 quantum))

/-- The ready item that the pass takes at a level, its cost charged (R333). Whole rounds in which no district can go are
added at once. -/
def State.pickReady (s : State) (l : Nat) : Option (Nat × Item) × State :=
  let charge := fun (e : Option (Nat × Item) × State) =>
    match e with
    | (some (r, x), s) => (some (r, x), s.setDeficit l x.dist (s.deficit l x.dist - x.cost))
    | p => p
  let d := s.sch.cur.get 7 l
  match (s.headOf l d).filter (fun e => (e.2.cost : Int) ≤ s.deficit l d) with
  | some e => charge (some e, s)
  | none =>
    let ds := s.readyAfter l d
    let need := fun e => match s.headOf l e with | some (_, x) => roundsNeeded x.cost (s.deficit l e) (s.quantum (slotOf e)) | none => 1
    match ds with
    | [] => (none, s)
    | e :: t =>
      let k := (t.map need).foldl min (need e) - 1
      let s := ds.foldl (fun s e => s.setDeficit l e (s.deficit l e + k * s.quantum (slotOf e))) s
      charge (s.pickLoop l 16)

/-! ### Dispatch, preemption, resume (R334 to R337) -/

/-- The item that runs on a core. -/
def State.onCore (s : State) (c : Nat) : Option (Nat × Item) := List.find? (fun e => e.2.st == .running c) s.sch.recs
/-- The idle cores. -/
def State.idleCores (s : State) : List Nat := (List.range 16).filter (fun c => (s.onCore c).isNone)
/-- The core an item goes to: the lowest idle one whose last item had its HANDLER, else the lowest idle one (R334). -/
def State.coreFor (s : State) (handler : Nat) : Option Nat :=
  match s.idleCores.find? (fun c => s.sch.lastHandler.find? c == some handler) with
  | some c => some c
  | none => s.idleCores.head?

/-- The lowest free parking slot (R336). -/
def State.freeParking (s : State) : Option Nat :=
  (List.range 32).find? (fun p => !s.sch.recs.any (fun e => e.2.st == .parked p))

/-- An item put on a core, which its dispatch interrupt tells (R334). -/
def State.dispatchTo (s : State) (r : Nat) (x : Item) (core : Nat) (t : Trace) : State :=
  let l := x.level
  let x := { x with st := .running core, dispLevel := some l, dispAt := s.now, stint := s.now }
  let s := (s.setItem r x).schCount x.dist 2
  let j := slotOf x.dist
  let s := if l == 7 then s.l7Settle.sc (fun c => { c with used7 := c.used7.upd 0 j (· + 1) }) else s
  let s := s.trimDeficits.emit (.coreIrq core)
  s.trace r x { t with core := core, deficit := s.deficit l x.dist }

/-- A parked item resumes on a core and frees its slot (R337). -/
def State.resume (s : State) (r : Nat) (x : Item) (core : Nat) : State :=
  let slot := match x.st with | .parked p => p | _ => 0xFF
  let x := { x with st := .running core, stint := s.now }
  ((s.setItem r x).emit (.coreIrq core)).trace r x { event := 6, core := core, park := slot }

/-- The victim of a preemption: the lowest level, the latest FAB cycle of dispatch, the highest core (R336). -/
def State.victim (s : State) : Option (Nat × Item × Nat) :=
  (List.range 16).foldl (fun (acc : Option (Nat × Item × Nat)) c =>
    match s.onCore c with
    | none => acc
    | some (r, x) =>
      if x.level ≥ 7 then acc
      else match acc with
        | none => some (r, x, c)
        | some (_, y, _) => if x.level < y.level || (x.level == y.level && y.dispAt / 8 ≤ x.dispAt / 8) then some (r, x, c) else acc) none

/-- A level-7 item takes the core of a victim, which is parked (R336). -/
def State.preempt (s : State) (core : Nat) : State :=
  match s.victim, s.freeParking with
  | some (vr, v, c), some slot =>
    if c != core then s
    else
      match s.pickReady 7 with
      | (some (r, x), s) =>
        let v := { v with st := .parked slot, used := v.used + (s.now - v.stint), parkedOnce := true, parkedAt := s.now, since := s.now }
        let s := ((s.setItem vr v).schCount v.dist 4).trace vr v
          { event := 5, core := c, park := slot, otherRec := r, otherDist := x.dist }
        s.dispatchTo r x c { event := 10, otherRec := vr, otherDist := v.dist }
      | _ => s
  | _, _ => s

/-- ITEM_DISPATCH: the Roundabout picks an item for an idle core and dispatches it; a level-7 item that finds no idle core
preempts (R333 to R337). Nothing happens where the pick goes to another core. -/
def execItemDispatch (core : Fin 16) (s : State) : Host.Outcome State Fault Refusal :=
  let s := s.begin
  let c := core.val
  let s := if s.schOn then s.ageFirst else s
  .next (if !s.schOn then s
    else match s.topLevel with
      | none => s
      | some l =>
        if s.idleCores.isEmpty then (if l == 7 then s.preempt c else s)
        else match s.parkedAtLevel l with
          | some (r, x) => if s.coreFor x.handler == some c then s.resume r x c else s
          | none =>
            match s.pickReady l with
            | (some (r, x), s') => if s.coreFor x.handler == some c then s'.dispatchTo r x c { event := 3 } else s
            | _ => s)

/-! ### Run time and completion (R338 to R340) -/

/-- Core time used so far, in ROOT cycles. -/
def State.usedTime (s : State) (x : Item) : Nat :=
  match x.done with
  | some (_, _, t) => t
  | none => x.used + (s.now - x.stint)

/-- The run limit in ROOT cycles (R338). -/
def Item.limit (x : Item) : Nat := 4 * x.cost * 9600

/-- A running item leaves its core with a status: overrun charged, traced, completed (R338, R339). -/
def State.itemEnds (s : State) (c r : Nat) (x : Item) (status result runUs event : Nat) : State :=
  let l := x.dispLevel.getD x.level
  let beyond := runUs - x.cost
  let s := if beyond == 0 then s else s.setDeficit l x.dist (s.deficit l x.dist - beyond)
  let s := s.sc (fun k => { k with lastHandler := k.lastHandler.set c x.handler })
  let s := s.trace r x { event := event, core := c, status := status, deficit := if beyond == 0 then 0 else s.deficit l x.dist }
  s.complete r x status c runUs result

/-- How a house firmware service ends: done, or failed with a reason of its own (R351); the catalogue names no result. -/
def State.serviceEnd (s : State) : Nat × Nat × State :=
  let (n, s) := s.draw
  (if Config.serviceFails n then 0x08 else 0, (Config.handlerResult n).toNat, s)

/-- ITEM_COMPLETE: the running item of a core whose handler has done its work completes (R338, R339). -/
def execItemComplete (core : Fin 16) (s : State) : Host.Outcome State Fault Refusal :=
  let s := s.begin
  let c := core.val
  .next (match s.onCore c with
    | none => s
    | some (r, x) =>
      let t := s.usedTime x
      if x.handler ≥ 0x7000 && t ≤ x.limit then
        let (status, result, s) := s.serviceEnd
        s.itemEnds c r x status result (ceilDiv t 9600) 7
      else match x.done with
        | some (status, result, t) => s.itemEnds c r x status result (ceilDiv t 9600) 7
        | none => s)

/-- DEFERRED_COMPLETION_WRITE: a completion held for lack of lane space is written once its lane has some (R340). -/
def execDeferredCompletionWrite (slot : Fin 5) (s : State) : Host.Outcome State Fault Refusal :=
  let s := s.begin
  let d := slotDist slot.val
  let held := s.sch.recs.filter (fun e => e.2.st == .ended && e.2.dist == d)
  let ok := held.filter (fun e =>
    (s.lane (8 + slot.val) e.2.lane).level (laneSize (8 + slot.val)) < laneSize (8 + slot.val) &&
      !held.any (fun f => f.2.lane == e.2.lane && f.2.endSeq < e.2.endSeq))
  .next (match ok.foldl (fun (acc : Option (Nat × Item)) e =>
      match acc with | none => some e | some b => if e.2.endSeq < b.2.endSeq then some e else acc) none with
    | some (r, _) => s.writeCompletion r
    | none => s)

/-! ### The handlers (R346) -/

/-- How a handler ends: status, result, and the state with its effect. -/
structure Handled where
  status : Nat
  result : Nat
  st : State

/-- Argument `k`. -/
def Item.arg (x : Item) (k : Nat) : Nat := x.args.getD k 0

/-- The set an argument names, if it belongs to the item's district and holds a range (R346). -/
def State.argSet (s : State) (x : Item) (k off n : Nat) : Option LotSet :=
  if x.arg k ≥ 65536 then none else s.setRange x.dist (x.arg k) off n

/-- The bytes of a range before its first poisoned block. -/
def State.cleanPrefix (s : State) (z : LotSet) (off n : Nat) : Nat :=
  ((List.range n).find? (fun i => s.poisoned z (off + i) 1)).getD n

/-- A number of whole units left behind by a handler that ends early: at most `most`. -/
def State.leftBehind (s : State) (most : Nat) : Nat × State :=
  let (n, s) := s.draw
  (Config.stoppedAt n % (most + 1), s)

/-- How many units a handler moves: all of them, or a prefix of at most all but the last when it is stopped. -/
def State.units (s : State) (stop : Bool) (total : Nat) : Nat × State := if stop then s.leftBehind (total - 1) else (total, s)

/-- COPY. -/
def State.hCopy (s : State) (x : Item) (stop : Bool) : Handled :=
  let n := x.arg 2
  if n == 0 then ⟨0, 0, s⟩
  else match s.argSet x 0 (x.arg 1) n, s.argSet x 3 (x.arg 4) n with
    | some a, some b =>
      let good := s.cleanPrefix a (x.arg 1) n
      let (k, s) := if good < n then s.leftBehind good else s.units stop n
      ⟨if good < n && !stop then 0x07 else 0, k, s.writeShared b (x.arg 4) (s.readSet a (x.arg 1) k)⟩
    | _, _ => ⟨0x06, 0, s⟩

/-- The bytes of `k` 64-bit words of a pattern. -/
def patternBytes (v : Nat) : Nat → List Byte
  | 0 => []
  | k + 1 => leBytes 8 v ++ patternBytes v k

/-- FILL. -/
def State.hFill (s : State) (x : Item) (stop : Bool) : Handled :=
  let n := x.arg 2
  if n == 0 then ⟨0, 0, s⟩
  else if n % 8 != 0 || x.arg 1 % 8 != 0 then ⟨0x06, 0, s⟩
  else match s.argSet x 0 (x.arg 1) n with
    | some z =>
      let (k, s) := s.units stop (n / 8)
      ⟨0, 8 * k, s.writeShared z (x.arg 1) (patternBytes (x.arg 3) k)⟩
    | none => ⟨0x06, 0, s⟩

/-- Entry `i` of a power-law LUT with exponent `g / 2^24` (R346). -/
def lutEntry (g i : Nat) : Nat :=
  let v := i * 2 ^ powBits / 4095
  let p := powFrac (g % 2 ^ 24) 24 v (powInt v (g / 2 ^ 24))
  min 65535 ((2 * 65535 * p + 2 ^ powBits) / 2 ^ (powBits + 1))

/-- Entry `i` of an identity LUT. -/
def lutIdentity (i : Nat) : Nat := (2 * 65535 * i + 4095) / (2 * 4095)

/-- LUTGEN. -/
def State.hLutgen (s : State) (x : Item) (stop : Bool) : Handled :=
  let g := x.arg 3
  let bank := x.arg 1
  if bank > 1 || x.arg 2 > 1 || (x.arg 2 == 1 && (g * 10 < 2 ^ 24 || g > 10 * 2 ^ 24)) then ⟨0x06, 0, s⟩
  else match s.argSet x 0 (8192 * bank) 8192 with
    | some z =>
      let (k, s) := s.units stop 4096
      let f := fun i => if x.arg 2 == 0 then lutIdentity i else lutEntry g i
      ⟨0, k, s.writeShared z (8192 * bank) ((List.range k).flatMap (fun i => leBytes 2 (f i)))⟩
    | none => ⟨0x06, 0, s⟩

/-- CRC. -/
def State.hCrc (s : State) (x : Item) : Handled :=
  let n := x.arg 2
  if n == 0 then ⟨0, 0, s⟩
  else match s.argSet x 0 (x.arg 1) n with
    | some z => if s.poisoned z (x.arg 1) n then ⟨0x07, 0, s⟩ else ⟨0, crc32 (s.readSet z (x.arg 1) n), s⟩
    | none => ⟨0x06, 0, s⟩

/-- A discovery request of E1.20 to a UID, without its checksum: PID and parameter data. -/
def discMsg (dst pid : Nat) (pd : List Byte) : List Byte :=
  [0xCC, 0x01, b8 (24 + pd.length)] ++ beBytes 6 dst ++ beBytes 6 Config.rdmUid.toNat ++ [0, 1, 0, 0, 0, 0x10] ++ beBytes 2 pid ++
    [b8 pd.length] ++ pd
/-- All devices of all manufacturers. -/
def rdmAll : Nat := 2 ^ 48 - 1

/-- The requests of E1.20's search over a branch of UIDs and the UIDs found in it: a branch with one responder mutes it and is
asked again, one with more is halved, the lower half first; at most `most` UIDs. -/
def discSearch (uids : List Nat) : Nat → Nat → Nat → Nat → List (List Byte) × List Nat
  | 0, _, _, _ => ([], [])
  | fuel + 1, most, lo, hi =>
    let branch := discMsg rdmAll 1 (beBytes 6 lo ++ beBytes 6 hi)
    match uids.filter (fun u => lo ≤ u && u ≤ hi) with
    | [] => (if most == 0 then [] else [branch], [])
    | [u] => if most == 0 then ([], []) else ([branch, discMsg u 2 [], branch], [u])
    | _ =>
      if most == 0 then ([], [])
      else
        let mid := (lo + hi) / 2
        let a := discSearch uids fuel most lo mid
        let b := discSearch uids fuel (most - a.2.length) (mid + 1) hi
        (branch :: (a.1 ++ b.1), a.2 ++ b.2)

/-- Full discovery among the responders `uids`: every device is un-muted, then the whole range is searched. -/
def discovery (uids : List (BitVec 48)) (most : Nat) : List (List Byte) × List Nat :=
  let u := ((uids.map (·.toNat)).filter (· < rdmAll)).eraseDups
  let r := discSearch u 49 most 0 (rdmAll - 1)
  (discMsg rdmAll 3 [] :: r.1, r.2)

/-- The controller that the item on a core is to search with is busy with an exchange (R323). -/
def State.discBusy (s : State) (core : Nat) : Bool :=
  (s.onCore core).any (fun e => (s.dmxp (e.2.arg 0)).rdm.isSome)

/-- RDMDISC, with the responders on the line: discovery runs in Active only (R323). -/
def State.hRdmdisc (s : State) (x : Item) (uids : List (BitVec 48)) (stop : Bool) : Handled :=
  let most := x.arg 3
  if x.arg 0 > 3 || most == 0 || most > 4096 || s.rdmDist (x.arg 0) != x.dist then ⟨0x06, 0, s⟩
  else match s.argSet x 1 (x.arg 2) (8 * most) with
    | some z =>
      if !s.active then
        if stop then ⟨0, 0, s⟩
        else
          let (n, s) := s.draw
          ⟨0x08, (Config.handlerResult n).toNat, s⟩
      else
        let (k, s) := if stop then s.leftBehind ((discovery uids most).2.length - 1) else (most, s)
        let (frames, found) := discovery uids k
        let (n, s) := s.draw
        let pad := beBytes 2 (Config.rdmPad n).toNat
        let s := frames.foldl (fun s f => s.emit (.rdm (x.arg 0) (rdmBytes f))) s
        ⟨0, found.length, s.writeShared z (x.arg 2) (found.flatMap (fun v => beBytes 6 v ++ pad))⟩
    | none => ⟨0x06, 0, s⟩

/-- UNIVSNAP. -/
def State.hUnivsnap (s : State) (x : Item) (stop : Bool) : Handled :=
  match s.argSet x 1 (x.arg 2) 512, s.pl.uni? (x.arg 0) with
  | some z, some _ =>
    if !s.granted x.dist 10 then ⟨0x06, 0, s⟩
    else if stop then ⟨0, 0, s⟩
    else
      let (n, v) := s.fxe.sent.get (0, []) (x.arg 0)
      ⟨0, n.toNat, s.writeShared z (x.arg 2) (v ++ List.replicate (512 - v.length) 0)⟩
  | _, _ => ⟨0x06, 0, s⟩

/-- The handler of the item on a core has done its work, unless its core time is over already (R338). -/
def State.handler (s : State) (core h : Nat) (f : State → Item → Handled) : State :=
  match s.onCore core with
  | none => s
  | some (r, x) =>
    let t := s.usedTime x
    if x.handler != h || x.done.isSome || t > x.limit then s
    else
      let o := f s x
      o.st.setItem r { x with done := some (o.status, o.result, t) }

/-- HANDLER_ECHO: handler 0x0001 returns its argument (R346). -/
def execHandlerEcho (core : Fin 16) (s : State) : Host.Outcome State Fault Refusal :=
  .next (s.begin.handler core.val 0x0001 (fun s x => ⟨0, x.arg 0, s⟩))

/-- HANDLER_COPY: handler 0x0010 copies bytes between sets (R346). -/
def execHandlerCopy (core : Fin 16) (s : State) : Host.Outcome State Fault Refusal :=
  .next (s.begin.handler core.val 0x0010 (fun s x => s.hCopy x false))

/-- HANDLER_FILL: handler 0x0011 fills a range with a 64-bit pattern (R346). -/
def execHandlerFill (core : Fin 16) (s : State) : Host.Outcome State Fault Refusal :=
  .next (s.begin.handler core.val 0x0011 (fun s x => s.hFill x false))

/-- HANDLER_LUTGEN: handler 0x0020 writes a transfer LUT bank (R346). -/
def execHandlerLutgen (core : Fin 16) (s : State) : Host.Outcome State Fault Refusal :=
  .next (s.begin.handler core.val 0x0020 (fun s x => s.hLutgen x false))

/-- HANDLER_CRC: handler 0x0030 computes a CRC-32 over a range (R346). -/
def execHandlerCrc (core : Fin 16) (s : State) : Host.Outcome State Fault Refusal :=
  .next (s.begin.handler core.val 0x0030 (fun s x => s.hCrc x))

/-- HANDLER_RDMDISC: handler 0x0040 runs RDM discovery and writes the UIDs found (R346); the port's controller ends the
exchange it has under way first. -/
def execHandlerRdmdisc (core : Fin 16) (uids : List (BitVec 48)) (s : State) : Host.Outcome State Fault Refusal :=
  let s := s.begin
  .next (if s.discBusy core.val then s else s.handler core.val 0x0040 (fun s x => s.hRdmdisc x uids false))

/-- HANDLER_UNIVSNAP: handler 0x0050 copies the slots last sent for a universe (R346). -/
def execHandlerUnivsnap (core : Fin 16) (s : State) : Host.Outcome State Fault Refusal :=
  .next (s.begin.handler core.val 0x0050 (fun s x => s.hUnivsnap x false))

/-- What a handler stopped at the run limit leaves behind (R346). -/
def State.stopped (s : State) (x : Item) (uids : List (BitVec 48)) : Handled :=
  match x.handler with
  | 0x0010 => s.hCopy x true
  | 0x0011 => s.hFill x true
  | 0x0020 => s.hLutgen x true
  | 0x0040 => s.hRdmdisc x uids true
  | _ => ⟨0, 0, s⟩

/-- RUN_LIMIT_STOP: the first instant at which an item's run time exceeds 4 × COST stops it with status 0x0A (R338). -/
def execRunLimitStop (core : Fin 16) (uids : List (BitVec 48)) (s : State) : Host.Outcome State Fault Refusal :=
  let s := s.begin
  let c := core.val
  .next (match s.onCore c with
    | none => s
    | some (r, x) =>
      if x.done.isSome then s
      else
        let s := s.at_ (x.stint + (x.limit + 1 - x.used))
        let o := s.stopped x uids
        ((o.st.schCount x.dist 5).emit (.coreIrq c)).itemEnds c r x 0x0A o.result (4 * x.cost + 1) 8)

/-! ### Frame boundaries, applies and resets (R335, R344, R345) -/

/-- At a frame boundary the level-7 counts return to 0, after the picks of its FAB cycle (R335, R342). -/
def State.l7Reset (s : State) : State := s.l7Settle.sc (fun c => { c with l7Due := some (s.now / 8) })

/-- A full apply: deficits 0, pointers 7, new classes; items above their new MAX_LEVEL move to it (R344). -/
def State.loadClasses (s : State) : State :=
  let s := s.sc (fun c => { c with cur := [] })
  let s := allDists.foldl (fun s d =>
    let j := slotOf d
    let s := (List.range 8).foldl (fun s l => s.wr (Reg.schDdef j l) 0) s
    let (lv, qu, ag) := match s.pl.classes.find? (·.dist == d) with
      | some c => (c.maxLevel, c.quantum, c.age)
      | none => (6, 256, 400000)
    (((s.setF (Reg.schDcfg j) 16 16 qu).setF (Reg.schDcfg j) 8 3 lv).wr (Reg.schDage j) (w32 ag))) s
  s.sch.recs.foldl (fun s e =>
    let m := s.maxLevel (slotOf e.2.dist)
    let waits := match e.2.st with | .ready => true | .parked _ => true | _ => false
    if !waits || e.2.level ≤ m then s
    else
      let (q, s) := s.nextSeq
      s.setItem e.1 { e.2 with level := m, seq := q, since := s.now }) s

/-- A function-level reset of host district `d` (R345). -/
def State.resetItems (s : State) (d : Nat) : State :=
  let s := s.sch.recs.foldl (fun s e =>
    if e.2.dist != d then s
    else match e.2.st with
      | .ready => (s.trace e.1 e.2 { event := 9, status := 0x0B }).freeItem e.1
      | .ended => s.freeItem e.1
      | _ => s.setItem e.1 { e.2 with orphan := true }) s
  let s := { s with regs := s.regs.drop (fun k => Reg.schTrcSet d ≤ k && k ≤ Reg.schTrcRp d && k != Reg.schTrcLost d) }
  s.trimDeficits

end Sys2Proof.Machine
end

