-- ==== Sys2Proof/Machine/TplCheck.lean ====
section
/-! DEFINITION. Validation of a Town Plan, the merge of a live plan and steps 6 to 8 (R56 to R84, R132, R154, R159, R179,
R207, R308, R402, R476, R552, R553): references and conditions over several records, quotas, budgets. -/

namespace Sys2Proof.Machine

/-! ### The merge of a live plan (R79, R84) -/

/-- Insert a record by rising key, replacing one of the same key. -/
def putRec (ty : Nat) (r : PlanRec) : List PlanRec → List PlanRec
  | [] => [r]
  | x :: t =>
    let k := recordKey ty r.bytes
    let k' := recordKey ty x.bytes
    if k == k' then r :: t else if k < k' then r :: x :: t else x :: putRec ty r t

/-- The records of the plan in force that a live plan leaves in a section. -/
def keptRecs (secs : List PlanSec) (p : Plan) (ty : Nat) : List PlanRec :=
  let touched := touchedBy secs
  let ports := livePorts secs p
  let unis := (secOf secs 11).map (fun r => leAt r.bytes 0 2)
  let keep := fun (r : List Byte) =>
    match ty with
    | 0x06 => !touched.contains (byteAt r 0)
    | 0x08 => !touched.contains (byteAt r 2)
    | 0x10 => !touched.contains (byteAt r 1)
    | 0x0A => !ports.contains (byteAt r 0)
    | 0x0C => !unis.contains (leAt r 4 2)
    | _ => true
  ((p.raw.get [] ty).filter keep).map (fun b => { bytes := b })

/-- The section TYPEs. -/
def sectionTypes : List Nat := (List.range 17).map (· + 1)

/-- The sections of a live plan merged with the plan in force, in ascending TYPE and key. -/
def mergeSecs (secs : List PlanSec) (p : Plan) : List PlanSec :=
  sectionTypes.map (fun ty => ⟨ty, 0, (secOf secs ty).foldl (fun l r => putRec ty r l) (keptRecs secs p ty)⟩)

/-- The plan of a list of sections. -/
def planOf (h : PlanHead) (secs : List PlanSec) : Plan :=
  Plan.ofSections h.id h.rev h.base h.live
    ((sectionTypes.map (fun ty => (ty, (secOf secs ty).map (·.bytes)))).filter (fun e => !e.2.isEmpty))

/-! ### Locations -/

/-- The failure at record `i` of section `ty`, at the field of this offset (R553). -/
def recFail (secs : List PlanSec) (ty i field code : Nat) : TplFail :=
  let src := ((secOf secs ty)[i]?.bind (·.src)).getD (0xFFFFFFFF, i)
  { key := (ty * 2 ^ 20 + i) * 64 + field, code := code, off := src.1, ty := ty, idx := src.2 }

/-- A condition over several records that lies at record `i` of section `ty`. -/
structure Breach where
  ty : Nat
  i : Nat
  field : Nat
  code : Nat
deriving DecidableEq, Repr

/-- A breach where a condition does not hold. -/
def must (ok : Bool) (ty i field code : Nat) : List Breach := if ok then [] else [⟨ty, i, field, code⟩]

/-! ### Step 6: references, and conditions over several records -/

/-- A reference to a lot set from a record of district `d` (none where no district constrains it), to a set of class
`cls` with at least `need` bytes (R56, R61). -/
def setRef (p : Plan) (ty i field id : Nat) (d : Option Nat) (cls need : Nat) : List Breach :=
  match p.set? id with
  | none => [⟨ty, i, field, 0x13⟩]
  | some s =>
    must (d.all (· == s.dist)) ty i field 0x14 ++
      must (s.cls == cls && need ≤ s.lots * 2097152) ty i field 0x15

/-- A reference to a PORT record with a USE bit; a port that lacks the bit is reported at the later record. -/
def portRef (p : Plan) (ty i field port use : Nat) : List Breach :=
  match p.ports.findIdx? (·.port == port) with
  | none => [⟨ty, i, field, 0x13⟩]
  | some k =>
    if (p.ports[k]?).any (fun r => natBit r.use use) then []
    else if ty < 9 then [⟨9, k, 6, 0x15⟩] else [⟨ty, i, field, 0x15⟩]

/-- The canvas of a layer is enabled, and so is the layer. -/
def Plan.layerOn (p : Plan) (l : LayRec) : Bool := l.enabled && (p.canvas? l.plaza).any (·.enabled)

/-- True when an enabled layer of a framed canvas uses input `i`. -/
def Plan.framedUse (p : Plan) (i : Nat) : Bool :=
  p.layers.any (fun l => l.inId == i && p.layerOn l && (p.canvas? l.plaza).any (fun c => !c.cut))

/-- Conditions on INPUT records (R63, R132). -/
def checkInputs (p : Plan) : List Breach :=
  p.inputs.zipIdx.flatMap (fun (x, i) =>
    let keys := x.paths.map (fun q => (q, x.group, x.udp))
    let clash := x.enabled && (p.inputs.take i).any (fun y =>
      y.enabled && y.paths.any (fun q => keys.contains (q, y.group, y.udp)))
    must (!clash) 4 i 8 0x0F ++
      (if x.kind == 2 then [] else portRef p 4 i 8 x.portA 1) ++
      (if x.kind == 1 then portRef p 4 i 9 x.portB 1 else []) ++
      setRef p 4 i 18 x.setId (some x.dist) 1 (3 * x.width * x.height * 8))

/-- Packed bytes of the tiles of a canvas. -/
def Plan.canvasPacked (p : Plan) (c : Nat) : Nat :=
  sumOf ((p.tiles.filter (·.plaza == c)).map (fun t =>
    match p.layout? t.layout with
    | some l => tilePacked l (((p.sched? t.id).map (·.sliceLamps)).getD 0)
    | none => 0))

/-- Conditions on CANVAS records (R64), and the presentation delay of R207, which lies at the PORT record concerned. -/
def checkCanvases (p : Plan) : List Breach :=
  p.canvases.zipIdx.flatMap (fun (c, i) =>
    let d := some c.dist
    let s := max (wbDiv c.wbScale) 1
    let frameNs := if c.cut then ceilDiv (1000000000 * p.sys.den) p.sys.num else 0
    setRef p 5 i 8 c.setId d 1 (2 * c.width * c.height * 8) ++
      (if c.wbScale == 0 then []
       else setRef p 5 i 10 c.wbSet d 0 (2 * ceilDiv c.width s * ceilDiv c.height s * 8)) ++
      (if c.cut then [] else setRef p 5 i 28 c.outSet d 1 (2 * p.canvasPacked c.plaza)) ++
      (if !c.enabled then [] else
        p.ports.zipIdx.flatMap (fun (q, k) =>
          if p.tiles.any (fun t => t.plaza == c.plaza && t.port == q.port) then
            must (c.presDelay > 1000 * q.leadUs + frameNs) 9 k 16 0x0F
          else [])))

/-- Conditions on LAYER records (R65, R159) and on the rate of a cut-through input (R154). -/
def checkLayers (p : Plan) : List Breach :=
  p.layers.zipIdx.flatMap (fun (l, i) =>
    must (p.canvas? l.plaza).isSome 6 i 0 0x13 ++
      must (l.inId == 0xFF || (p.input? l.inId).isSome) 6 i 2 0x13 ++
      (match p.canvas? l.plaza, p.input? l.inId with
       | some c, some x =>
         if !p.layerOn l then []
         else
           must (x.dist == c.dist) 6 i 2 0x14 ++
           must (l.cropX + l.cropW ≤ x.width) 6 i 2 0x0F ++ must (l.cropY + l.cropH ≤ x.height) 6 i 2 0x0F ++
           must (l.dstW ≤ 64 * l.cropW && l.cropW ≤ 4 * l.dstW) 6 i 8 0x0F ++
           must (l.dstH ≤ 64 * l.cropH && l.cropH ≤ 4 * l.dstH) 6 i 10 0x0F ++
           (if !c.cut then [] else
             must (l.cropH == l.dstH) 6 i 0 0x0F ++ must (!p.framedUse l.inId) 6 i 0 0x0F ++
             must (x.num * p.sys.den == p.sys.num * x.den) 6 i 0 0x0F)
       | _, _ => []))

/-- The position set of an irregular layout (R67). -/
def checkLayouts (p : Plan) : List Breach :=
  p.layouts.zipIdx.flatMap (fun (l, i) => if l.kind == 1 then setRef p 7 i 12 l.posSet none 1 (l.lamps * 8) else [])

/-- Lamps of the tiles up to and including position `i` that name an LCT set. -/
def Plan.lctLamps (p : Plan) (id i : Nat) : Nat :=
  sumOf (((p.tiles.take (i + 1)).filter (·.lctSet == id)).map (fun t => ((p.layout? t.layout).map (·.lamps)).getD 0))

/-- Conditions on TILE records (R68, R71, R179). -/
def checkTiles (p : Plan) : List Breach :=
  p.tiles.zipIdx.flatMap (fun (t, i) =>
    let d := (p.canvas? t.plaza).map (·.dist)
    let lay := p.layout? t.layout
    must (p.canvas? t.plaza).isSome 8 i 2 0x13 ++ portRef p 8 i 3 t.port 0 ++ must lay.isSome 8 i 4 0x13 ++
      setRef p 8 i 6 t.lctSet d 1 (p.lctLamps t.lctSet i * 24) ++
      (if t.lutSet == 0xFFFF then [] else setRef p 8 i 20 t.lutSet d 1 8192) ++
      must (!(lay.any (fun l => l.kind == 1 && (p.set? l.posSet).any (fun s => d.any (· != s.dist))))) 8 i 2 0x14 ++
      must (!((p.canvas? t.plaza).any (·.cut) && lay.any (·.kind == 1))) 8 i 2 0x0F ++
      must (p.scheds.any (·.tile == t.id)) 8 i 0 0x13)

/-- Conditions on SCHEDULE records (R71, R207). -/
def checkScheds (p : Plan) : List Breach :=
  p.scheds.zipIdx.flatMap (fun (c, i) =>
    let tile := p.tile? c.tile
    must (tile.any (·.port == c.port)) 10 i (if tile.isSome then 0 else 2) 0x13 ++
      must (!((p.scheds.take i).any (·.tile == c.tile))) 10 i 2 0x0F ++
      (match tile.bind (fun t => p.layout? t.layout), tile.bind (fun t => p.canvas? t.plaza) with
       | some l, some cv =>
         must (sliceCount l.lamps c.sliceLamps ≤ 65535) 10 i 2 0x0F ++
         (if cv.enabled && cv.cut && l.kind == 0 then
           must (c.sliceLamps == 2 ^ Nat.log2 c.sliceLamps && l.cols % c.sliceLamps == 0) 10 i 2 0x0F
         else [])
       | _, _ => []))

/-- Conditions on UNIVERSE records (R72, R73, R308). -/
def checkUniverses (p : Plan) : List Breach :=
  p.universes.zipIdx.flatMap (fun (u, i) =>
    let before := p.universes.take i
    (if u.out < 0xF0 then portRef p 11 i 2 u.out 2
     else must (!(before.any (·.out == u.out))) 11 i 2 0x23) ++
      must (u.sync == 0 || before.all (fun v => v.sync != u.sync || v.rateDiv == u.rateDiv)) 11 i 4 0x0F)

/-- Conditions on FIXTURE records (R72, R73). -/
def checkFixtures (p : Plan) : List Breach :=
  p.fixtures.zipIdx.flatMap (fun (x, i) =>
    match p.uni? x.uni with
    | none => [⟨12, i, 4, 0x13⟩]
    | some u =>
      let fin := x.start + x.foot
      must (fin ≤ u.slots + 1) 12 i 6 0x0F ++
        must ((p.fixtures.take i).all (fun y =>
          y.uni != x.uni || y.start + y.foot ≤ x.start || fin ≤ y.start)) 12 i 6 0x23)

/-- KRB is granted to a district by the plan, or the district is the house district (R402). -/
def Plan.grantsKrb (p : Plan) (d : Nat) : Bool := d == houseDist || (p.district? d).any (fun r => natBit r.blocks 15)

/-- Conditions on KERB and SIGNGROUP records (R402). -/
def checkKerbs (p : Plan) : List Breach :=
  p.kerbs.zipIdx.flatMap (fun (k, i) =>
    (if k.kind != 1 then [] else
      match p.signs.findIdx? (·.group == k.group) with
      | none => [⟨13, i, 2, 0x13⟩]
      | some g => must ((p.signs[g]?).any (·.dist == k.dist)) 14 g 0 0x0F) ++
      must (p.grantsKrb k.dist) 13 i 6 0x15) ++
  p.signs.zipIdx.flatMap (fun (g, i) => must (p.grantsKrb g.dist) 14 i 1 0x15)

/-- Conditions on SCHEDCLASS, WITNESS and CAUSEWAY records (R75, R159, R476). -/
def checkOthers (p : Plan) : List Breach :=
  p.classes.zipIdx.flatMap (fun (c, i) =>
    must (c.maxLevel != 7 || c.dist == houseDist || natBit p.sys.fireAuth c.dist || natBit p.sys.modeAuth c.dist)
      15 i 0 0x0F) ++
  p.wits.zipIdx.flatMap (fun (w, i) =>
    match p.canvas? w.plaza with
    | none => [⟨16, i, 1, 0x13⟩]
    | some c =>
      must (!c.enabled || w.w == 0 || w.h == 0 || (w.x + w.w ≤ c.width && w.y + w.h ≤ c.height)) 16 i 1 0x0F) ++
  (match p.cw with
   | some c => must (1100 * p.sys.den ≤ c.leaseMs * p.sys.num) 17 0 0 0x0F
   | none => [])

/-- Step 6. -/
def checkStep6 (p : Plan) : List Breach :=
  checkInputs p ++ checkCanvases p ++ checkLayers p ++ checkLayouts p ++ checkTiles p ++ checkScheds p ++
    checkUniverses p ++ checkFixtures p ++ checkKerbs p ++ checkOthers p

/-! ### Step 7: quotas (R59, R61) -/

/-- The record whose contribution, added in order, first makes a total exceed a limit (R553). -/
def firstOver (limit : Q) (code : Nat) : Q → List (Nat × Nat × Q) → List Breach
  | _, [] => []
  | acc, (ty, i, q) :: t =>
    let acc := acc.add q
    if acc.le limit then firstOver limit code acc t else [⟨ty, i, 0, code⟩]

/-- The terms in location order. -/
def inOrder (l : List (Nat × Nat × Q)) : List (Nat × Nat × Q) :=
  l.mergeSort (fun a b => a.1 < b.1 || (a.1 == b.1 && a.2.1 ≤ b.2.1))

/-- A total held against its limit. -/
def total (limit : Q) (code : Nat) (l : List (Nat × Nat × Q)) : List Breach := firstOver limit code ⟨0, 1⟩ (inOrder l)

/-- Step 7. -/
def checkStep7 (p : Plan) : List Breach :=
  let sq := p.squareSets
  total (Q.ofNat 8188) 0x16 (p.districts.zipIdx.map (fun (d, i) => (2, i, Q.ofNat d.guarD))) ++
  total (Q.ofNat 64) 0x16 (p.districts.zipIdx.map (fun (d, i) => (2, i, Q.ofNat d.guarQ))) ++
  [0, 1, 2, 3, 7].flatMap (fun d =>
    let q := p.district? d
    total (Q.ofNat ((q.map (fun r => r.guarD + r.borD)).getD 0)) 0x16
      (p.sets.zipIdx.filterMap (fun (s, i) =>
        if s.dist == d && !sq.contains s.id then some (3, i, Q.ofNat s.lots) else none)))

/-! ### Step 8: budgets (R66, R71, R77, R159, R207) -/

/-- Nine tenths of a port's line rate, in bit/s. -/
def portLimit (speed : Nat) : Q := ((lineRate speed).mul 9).div 10

/-- Ingress limits. -/
def checkIngress (p : Plan) : List Breach :=
  total (Q.ofNat 12000000000) 0x18 (p.inputs.zipIdx.map (fun (x, i) => (4, i, x.pixelRate))) ++
  p.inputs.zipIdx.flatMap (fun (x, i) => x.paths.flatMap (fun q =>
    must (((p.port? q).map (fun r => (x.pixelRate.mul (wireBits x.format)).le (portLimit r.speed))).getD true)
      4 i 0 0x18))

/-- Plaza limits and the scaler rule. -/
def checkPlazas (p : Plan) : List Breach :=
  let f := p.fps
  p.layers.zipIdx.flatMap (fun (l, i) => must (l.cropW ≤ 8192 || natBit l.flags 2) 6 i 0 0x1A) ++
  p.canvases.zipIdx.flatMap (fun (c, i) =>
    if !c.enabled then [] else
    let lays := p.layers.zipIdx.filter (fun (l, _) => l.plaza == c.plaza && l.enabled)
    must ((f.mul (c.width * c.height)).le (Q.ofNat 6400000000)) 5 i 0 0x19 ++
    must ((f.mul (ceilDiv c.width 4 * (c.height + c.vblank))).le (Q.ofNat 1600000000)) 5 i 0 0x19 ++
    total (Q.ofNat 25600000000) 0x19 (lays.map (fun (l, k) => (6, k, f.mul (l.cropW * l.cropH)))) ++
    total (Q.ofNat 16) 0x1A (lays.map (fun (l, k) => (6, k, Q.ofNat (if natBit l.flags 2 then 2 else 1)))) ++
    lays.flatMap (fun (l, k) =>
      must ((f.mul (ceilDiv l.cropH l.dstH * l.cropW * (c.height + c.vblank))).le
        (Q.ofNat (1600000000 * (if natBit l.flags 2 then 2 else 1)))) 6 k 0 0x19))

/-- The tiles of enabled canvases with their layouts, slice lengths and positions. -/
def Plan.liveTiles (p : Plan) : List (TileRec × LoutRec × Nat × CanRec × Nat) :=
  p.tiles.zipIdx.filterMap (fun (t, i) =>
    match p.layout? t.layout, p.canvas? t.plaza, p.sched? t.id with
    | some l, some c, some s => if c.enabled then some (t, l, s.sliceLamps, c, i) else none
    | _, _, _ => none)

/-- Boulevard limits. -/
def checkBoulevards (p : Plan) : List Breach :=
  total (Q.ofNat 50331648) 0x1B (p.liveTiles.map (fun (_, l, _, _, i) => (8, i, Q.ofNat l.lamps))) ++
  total (Q.ofNat 23040000000) 0x1B (p.liveTiles.map (fun (_, l, _, _, i) => (8, i, p.fps.mul l.lamps)))

/-- Memory limits, over isochronous sets. -/
def checkMemories (p : Plan) : List Breach :=
  let sq := p.squareSets
  let of := fun (b : Bool) => (p.traffic.filter (fun t => p.isIso t.setId && sq.contains t.setId == b)).map (fun t => (t.ty, t.idx, t.bps))
  total (Q.ofNat 1200000000000) 0x1C (of false) ++ total (Q.ofNat 3000000000000) 0x1D (of true)

/-- Port limits, the slice buffer of cut-through tiles and the slice that a frame can carry. -/
def checkPorts (p : Plan) : List Breach :=
  p.ports.flatMap (fun q =>
    total ((portLimit q.speed).div 8) 0x1E (p.portTerms q.port) ++
    total (Q.ofNat 131072) 0x1E (p.liveTiles.filterMap (fun (t, l, per, c, i) =>
      if t.port == q.port && c.cut then
        some (8, i, Q.ofNat (ceilDiv 256 t.pitchY * ((l.cols / per) * 128 + ceilDiv (l.cols * l.channels * fmtBits l.format) 8)))
      else none))) ++
  p.scheds.zipIdx.flatMap (fun (c, i) =>
    match (p.tile? c.tile).bind (fun t => p.layout? t.layout), p.port? c.port with
    | some l, some q => must (packedBytes l c.sliceLamps + 96 ≤ q.maxFrame) 10 i 0 0x1E
    | _, _ => [])

/-- Step 8. -/
def checkStep8 (p : Plan) : List Breach :=
  checkIngress p ++ checkPlazas p ++ checkBoulevards p ++ checkMemories p ++ checkPorts p

/-! ### Validation as a whole (R79) -/

/-- What a plan found valid is: the plan in the form in which it takes effect, and what a live plan touches. -/
def checkedPlan (h : PlanHead) (secs : List PlanSec) (p : Plan) : Checked :=
  { plan := p, live := h.live, touched := if h.live then touchedBy secs else [],
    unis := if h.live then (secOf secs 11).map (fun r => leAt r.bytes 0 2) else [],
    newSets := if h.live then (secOf secs 3).map (fun r => leAt r.bytes 0 2) else p.sets.map (·.id),
    image := encodePlan h.id h.rev h.base h.live (secs.map (fun x => (x.ty, x.recs.map (·.bytes)))) }

/-- What validation finds: the plan or the failure, and the demand where step 8 was reached (R90). -/
structure Verdict where
  res : Except TplFail Checked
  demand : Option (Nat × Nat) := none

/-- Validation of the first `len` bytes of the staging set (R79). -/
def validate (ks : PlanKeys) (cur : Option Plan) (f : List Byte) (len : Nat) : Verdict :=
  match planSteps1to5 ks cur f len with
  | .error e => { res := .error e }
  | .ok (h, secs0) =>
    let secs := if h.live then mergeSecs secs0 (cur.getD {}) else secs0
    let p := planOf h secs
    let p := if h.live then { p with id := (cur.getD {}).id } else p
    let first := fun (l : List Breach) => firstFail (l.map (fun b => recFail secs b.ty b.i b.field b.code))
    match first (checkStep6 p) with
    | some e => { res := .error e }
    | none =>
      match first (checkStep7 p) with
      | some e => { res := .error e }
      | none =>
        let dm := some (mbps (p.demand false), mbps (p.demand true))
        match first (checkStep8 p) with
        | some e => { res := .error e, demand := dm }
        | none => { res := .ok (checkedPlan h secs0 p), demand := dm }

end Sys2Proof.Machine
end

