-- ==== Sys2Proof/Machine/Town.lean ====
section
/-! DEFINITION. The Town Plan's commands and applies (R80 to R90, R97, R98, R107, R109, R554): ownership of the staging set,
VALIDATE, APPLY with its allocation, ABORT, and what a full and a live apply change when they take effect. -/

namespace Sys2Proof.Machine

/-! ### Status -/

/-- The TPL block's state replaced by `f` of it. -/
def State.tp (s : State) (f : TplState → TplState) : State := { s with tpl := f s.tpl }

/-- TPL_STATUS.STATE. -/
def TplSt.code : TplSt → Nat
  | .idle => 0 | .opened => 1 | .validating => 2 | .valid => 3 | .invalid => 4 | .applying => 5

/-- TPL_STATUS in line with the block's state; CMD_RESULT and ERR are kept in the register word of the reader's slot. -/
def State.tplWord (s : State) (j : Nat) : Word32 :=
  putField (putField (putField (putField (s.rd Reg.tplStatus) 20 4 (s.tpl.owner.getD 0xF)) 8 4 (s.fld (distKey j Reg.tplStatus) 8 4))
    7 1 (bit s.inForce)) 0 3 s.tpl.st.code

/-- TPL_STATUS.ERR. -/
def State.tplErr (s : State) (code : Nat) : State := s.setErr Reg.tplStatus code

/-- CMD_RESULT of a district (R88). -/
def State.tplResult (s : State) (d code : Nat) : State := s.setF (distKey (slotOf d) Reg.tplStatus) 8 4 code

/-- A VALIDATE or an APPLY has ended: the TPL event of the district that issued it (R377). -/
def State.tplEvent (s : State) (d : Nat) : State := s.raise d 4 1

/-- The staging set released: TPL is IDLE, and the zero-fill starts (R80). -/
def State.tplRelease (s : State) : State :=
  s.tp (fun t => { t with st := .idle, owner := none, checked := none, zeroFill := true, houseHold := false })

/-- The keys against which envelopes are checked. -/
def State.planKeys (s : State) : PlanKeys := { require := s.lcs.require, owner := s.lcs.owner, slots := s.lcs.slots }

/-! ### Allocation (R82, R97, R98, R107, R109) -/

/-- The set as the plan defines it is unchanged (R82). -/
def SetRec.keeps (r : SetRec) (x : LotSet) : Bool :=
  x.id == r.id && x.dist == r.dist && x.cls == r.cls && x.handles.length == r.lots && x.place == r.place

/-- The set in existence that the record keeps, if one does. -/
def State.keptSet (s : State) (r : SetRec) : Option LotSet := (s.set? r.id).filter r.keeps

/-- The allocations of an apply, in ascending (DIST, SET_ID): its new and replaced sets, and the kept sets that the placement
of R109 puts in the other memory (R82, R98, R109). A live apply leaves promoted sets where they are, since R62 counts them as
DRAM before and after it (DEDUCED, log 231). -/
def State.planWants (s : State) (c : Checked) : List Want :=
  let sq := c.plan.squareSets
  allDists.flatMap (fun d => (c.plan.sets.filter (·.dist == d)).filterMap (fun r =>
    let q := sq.contains r.id
    match s.keptSet r with
    | some x =>
      if x.inSq == q || r.lots == 0 || (c.live && x.promoted && !q) then none
      else some { id := r.id, dist := d, sq := q, lots := r.lots, move := true }
    | none => some { id := r.id, dist := d, sq := q, lots := r.lots }))

/-- The parts of a list of wants, as a request. -/
def wantParts (w : List Want) : List (Nat × Bool × Nat) :=
  allDists.flatMap (fun d => [false, true].map (fun q =>
    (d, q, sumOf ((w.filter (fun x => x.dist == d && x.sq == q)).map (·.lots)))))

/-- Base slots of a full apply (R107). -/
def fullBases (p : Plan) : List (Nat × Nat) :=
  p.sets.map (fun r =>
    (r.id, if r.lots == 0 then 0xFFFF
           else 4 + sumOf ((p.sets.filter (fun q => q.dist == r.dist && q.id < r.id)).map (·.lots))))

/-- The lowest free range of `n` slots from slot 4 upward, clear of the ranges taken (R107). -/
def lowestFree (taken : List (Nat × Nat)) (n : Nat) : Option Nat :=
  let starts := 4 :: taken.map (fun r => r.1 + r.2)
  let ok := fun b => 4 ≤ b && b + n ≤ 16384 && taken.all (fun r => b + n ≤ r.1 || r.1 + r.2 ≤ b)
  (starts.filter ok).foldl (fun m b => match m with | some x => some (min x b) | none => some b) none

/-- Base slots of the sets a live apply wants, in ascending SET_ID; none when no range is free (R107). -/
def State.liveBases (s : State) (wants : List Want) : Option (List (Nat × Nat)) :=
  let wants := wants.filter (!·.move)
  let ids := wants.map (·.id)
  (wants.mergeSort (fun a b => a.id ≤ b.id)).foldl (fun acc w =>
    match acc with
    | none => none
    | some l =>
      if w.lots == 0 then some (l ++ [(w.id, 0xFFFF)])
      else
        let held := (s.lot.sets.filter (fun x => x.dist == w.dist && x.id < 0x1000 && x.base != 0xFFFF && !ids.contains x.id)).map
          (fun x => (x.base, x.handles.length))
        let new := (l.zip wants).filterMap (fun (e, _) =>
          match wants.find? (·.id == e.1) with
          | some v => if v.dist == w.dist && e.2 != 0xFFFF then some (e.2, v.lots) else none
          | none => none)
        match lowestFree (held ++ new) w.lots with
        | some b => some (l ++ [(w.id, b)])
        | none => none) (some [])

/-- An APPLY that ends in failure: the state is VALID again and the owner keeps the staging set (R81, R82). -/
def State.applyFails (s : State) (d code : Nat) : State :=
  ((s.tp (fun t => { t with st := .valid, pend := none })).tplErr code).tplEvent d

/-- The limits of R94 for a full apply: those of the plan it brings, over the lots that the districts hold under it, run-time
sets included (DEDUCED, log 232: the plan in force, if there is one, has no say in what the new plan's quotas allow). -/
def State.fullQuotaOk (s : State) (p : Plan) (wants : List Want) : Bool :=
  let sq := p.squareSets
  let quota := fun (d : Nat) (q : Bool) => match p.district? d with
    | some r => if q then (r.guarQ, r.borQ) else (r.guarD, r.borD)
    | none => (0, 0)
  let run := fun (d : Nat) (q : Bool) => sumOf ((s.lot.sets.filter (fun x => x.id ≥ 0x1000 && x.dist == d && x.inSq == q)).map (·.handles.length))
  let need := fun (d : Nat) (q : Bool) =>
    sumOf ((p.sets.filter (fun r => r.dist == d && sq.contains r.id == q)).map (·.lots)) + run d q - (quota d q).1
  [false, true].all (fun (q : Bool) =>
    let mine := wants.filter (fun w => w.sq == q && w.lots != 0)
    mine.all (fun w => need w.dist q ≤ (quota w.dist q).2) &&
      (mine.isEmpty || sumOf (allDists.map (fun d => need d q)) ≤
        (if q then 64 else 8188) - sumOf (allDists.map (fun d => (quota d q).1))))

/-- A full apply accepted: its sets are allocated at once, or it fails with 0x22 (R82, R94, R98). -/
def State.applyFull (s : State) (d : Nat) (c : Checked) (resident : Bool) : Option State :=
  let wants := s.planWants c
  if !(s.lotsThere (wantParts wants) && s.fullQuotaOk c.plan wants) then none
  else
    let g := s.allocWants wants
    some (g.2.tp (fun t => { t with st := .applying, pend := some {
      chk := c, dist := d, resident := resident, allocated := true, wants := wants,
      moves := (wants.filter (·.move)).map (·.id), grants := g.1, bases := fullBases c.plan } }))

/-- H_d and the lots asked for exceed what a district may hold; Square lots that demotion gives back do not count (R96,
R115). -/
def State.overQuota (s : State) (parts : List (Nat × Bool × Nat)) : Bool :=
  parts.any (fun (d, q, n) => n != 0 && s.heldFirm d q + n > s.guar d q + s.borrow d q)

/-- A live apply accepted: it takes its lots or waits for them as one request of its district (R95, R98, R101, R107,
R115). -/
def State.applyLive (s : State) (d : Nat) (c : Checked) : State :=
  let wants := s.planWants c
  let parts := wantParts wants
  match s.liveBases wants with
  | none => s.applyFails d 0x22
  | some bases =>
    if s.overQuota parts then s.applyFails d 0x22
    else
      let s := s.tp (fun t => { t with st := .applying, pend := some {
        chk := c, dist := d, wants := wants, moves := (wants.filter (·.move)).map (·.id), bases := bases } })
      let need := s.needOf parts
      let r : WaitReq := { dist := d, slot := none, lots := 0, sq := false, base := 0xFFFF, parts := parts,
                           why := if need != 0 then .pool else if s.demoted parts then .zeroFill else .demotion }
      if need == 0 && s.fits r then s.grantReq r
      else { s with lot := { s.lot with waiting := s.lot.waiting ++ [r] } }.endLots s.lot.waiting

/-- A pending apply abandoned: the lots it held are freed (R82, R83). -/
def State.dropPending (s : State) : State :=
  match s.tpl.pend with
  | none => s
  | some p =>
    let s := s.scrubLots (p.grants.flatMap (·.2))
    let s := { s with lot := { s.lot with waiting := s.lot.waiting.filter (·.slot.isSome) } }
    s.tp (fun t => { t with pend := none })

/-- The device leaves Standby: a full apply waits for the first boundary after its return (R39, R83). -/
def State.applyWaits (s : State) : State :=
  s.tp (fun t => { t with pend := t.pend.map (fun (p : PendApply) => if p.chk.live then p else { p with bounds := 1 }) })

/-- The device has left Standby for Maintenance: a pending full apply is abandoned with 0x21, a resident plan waits on
(R83). -/
def State.abandonApply (s : State) : State :=
  match s.tpl.pend with
  | some p => if p.chk.live || p.resident then s else (s.dropPending.applyFails p.dist 0x21)
  | none => s

/-! ### Commands (R81, R88) -/

/-- A TPL command that has passed its checks. -/
inductive TplCmd where
  | open_
  | validate
  | apply
  | abort
deriving DecidableEq, Repr

/-- The states from which a command is accepted (R81). -/
def State.tplAccepts (s : State) (c : TplCmd) : Bool :=
  match c with
  | .open_ => s.tpl.st == .idle
  | .validate => s.tpl.st == .opened || s.tpl.st == .invalid || s.tpl.st == .valid
  | .apply => s.tpl.st == .valid
  | .abort =>
    match s.tpl.st with
    | .opened | .validating | .valid | .invalid => true
    | .applying => s.tpl.pend.any (fun p => p.chk.live && !p.allocated)
    | .idle => false

/-- The effect of an accepted command (R81). -/
def State.tplDo (s : State) (d : Nat) (c : TplCmd) : State :=
  match c with
  | .open_ => s.tp (fun t => { t with st := .opened, owner := some d })
  | .validate => s.tp (fun t => { t with st := .validating, checked := none })
  | .apply =>
    match s.tpl.checked with
    | none => s
    | some k =>
      if k.live then
        if s.mode.mode == .active || s.mode.mode == .standby then s.applyLive d k else s.applyFails d 0x21
      else if s.mode.mode != .standby then s.applyFails d 0x21
      else match s.applyFull d k false with
        | some s => s
        | none => s.applyFails d 0x22
  | .abort => s.dropPending.tplRelease

/-- A write to TPL_CTL, checked in the order of R88. -/
def State.tplCommand (s : State) (d : Nat) (key : BitVec 16) (c : TplCmd) : State :=
  let foreign := s.tpl.owner.any (· != d) && !(c == .abort && d == houseDist)
  if key != 0x7A4E#16 then s.tplResult d 4
  else if !s.auth true (·.planAuth) d then s.tplResult d 2
  else if c == .open_ && (s.role == 2 || s.role == 3) then (s.tplResult d 6).tplErr 0x21
  else if s.tpl.zeroFill || s.tpl.houseHold || foreign then s.tplResult d 5
  else if !s.tplAccepts c then s.tplResult d 3
  else (s.tplResult d 1).tplDo d c

/-- TPL_OPEN: a write to TPL_CTL with CMD 1 (R80, R81, R88). -/
def execTplOpen (init : InitId) (key : BitVec 16) (s : State) : Host.Outcome State Fault Refusal :=
  .next (s.begin.access init 1 (fun s => s.tplCommand (distOf init) key .open_))

/-- TPL_VALIDATE: a write to TPL_CTL with CMD 2 (R79, R81, R88). -/
def execTplValidate (init : InitId) (key : BitVec 16) (s : State) : Host.Outcome State Fault Refusal :=
  .next (s.begin.access init 1 (fun s => s.tplCommand (distOf init) key .validate))

/-- TPL_APPLY: a write to TPL_CTL with CMD 3 (R81, R82, R84, R88). -/
def execTplApply (init : InitId) (key : BitVec 16) (s : State) : Host.Outcome State Fault Refusal :=
  .next (s.begin.access init 1 (fun s => s.tplCommand (distOf init) key .apply))

/-- TPL_ABORT: a write to TPL_CTL with CMD 4 (R81, R88). -/
def execTplAbort (init : InitId) (key : BitVec 16) (s : State) : Host.Outcome State Fault Refusal :=
  .next (s.begin.access init 1 (fun s => s.tplCommand (distOf init) key .abort))

/-- The bytes staged, as many as TPL_LEN says. -/
def State.stagedImage (s : State) : List Byte :=
  let n := (s.rd Reg.tplLen).toNat
  (List.range (min n (4 * lotBytes))).map (fun i => Mem.read s.mem (s.addrIn stagingHandles i))

/-- A validation's failure reported (R79, R553). -/
def State.tplReport (s : State) (f : TplFail) : State :=
  ((s.tplErr f.code).wr Reg.tplErrloc (w32 f.off)).wr Reg.tplErrrec (pack [(24, f.ty), (0, f.idx)])

/-- The demand registers after a validation that reached step 8 (R90); of a demand of 2^32 or more they keep the low 32 bits
(DESIGN CHOICE, log 237). -/
def State.tplDemand (s : State) (v : Verdict) : State :=
  match v.demand with
  | some (d, q) => (s.wr Reg.tplDemandDram (w32 d)).wr Reg.tplDemandSq (w32 q)
  | none => s

/-- VALIDATION_DONE: validation ends with VALID, or with INVALID and the first failure (R79, R81, R90, R553). -/
def execValidationDone (s : State) : Host.Outcome State Fault Refusal :=
  let s := s.begin
  .next (if s.tpl.st != .validating then s
    else
      let v := validate s.planKeys s.plan s.stagedImage (s.rd Reg.tplLen).toNat
      let s := s.tplDemand v
      let s := match v.res with
        | .ok c => (s.tp (fun t => { t with st := .valid, checked := some c })).tplErr 0
        | .error f => (s.tp (fun t => { t with st := .invalid, checked := none })).tplReport f
      s.tplEvent (s.tpl.owner.getD houseDist))

/-- STAGING_ZERO_FILL_DONE: the zero-fill of the released staging set ends (R80). -/
def execStagingZeroFillDone (s : State) : Host.Outcome State Fault Refusal :=
  let s := s.begin
  .next (if !s.tpl.zeroFill then s
    else
      let frames := stagingHandles.map s.frameOf
      { s with mem := Mem.clear s.mem (fun a => frames.contains (a / lotBytes)),
               lot := { s.lot with poison := s.lot.poison.filter (fun k => !frames.contains (k / lotBlocks)) } }.tp
        (fun t => { t with zeroFill := false }))

/-! ### A full apply (R82, R83, R107, R109, R133, R169, R200, R261, R325, R344, R417) -/

/-- The sets as a full apply leaves them: kept ones where the placement puts them, new ones in their new lots. -/
def State.applySets (s : State) (p : PendApply) : State :=
  let old := s.lot.sets.filter (·.id < 0x1000)
  let grant := fun id => ((p.grants.find? (·.1 == id)).map (·.2)).getD []
  let base := fun id => ((p.bases.find? (·.1 == id)).map (·.2)).getD 0xFFFF
  let sq := p.chk.plan.squareSets
  let next := p.chk.plan.sets.map (fun r =>
    match s.keptSet r with
    | some x =>
      let b := if p.chk.live then x.base else base r.id
      if p.wants.any (·.id == r.id) then
        { x with handles := grant r.id, inSq := sq.contains r.id, promoted := false, base := b }
      else { x with base := b, promoted := x.promoted && !sq.contains r.id }
    | none => ({ id := r.id, dist := r.dist, cls := r.cls, place := r.place, inSq := sq.contains r.id,
                 handles := grant r.id, base := base r.id } : LotSet))
  -- sets that are dropped, replaced or moved give their old lots back; a migration of one is cancelled (R103, R114)
  let s := old.foldl (fun s x =>
    match next.find? (·.id == x.id) with
    | some y => if y.handles == x.handles then s else s.freeSet x
    | none => s.freeSet x) s
  { s with lot := { s.lot with sets := next.foldl Machine.putSet (s.lot.sets.filter (·.id ≥ 0x1000)) } }

/-- What every apply does to the registers and the staging set when it takes effect at the boundary that begins frame `n`. -/
def State.applyShow (s : State) (p : PendApply) (n : Word32) : State :=
  let q := p.chk.plan
  let s := ((s.wr Reg.tplPlanId (w32 q.id)).wr Reg.tplPlanRev (w32 q.rev)).wr Reg.tplApplyFrame n
  let s := s.tp (fun t => { t with pend := none })
  -- an apply that mirroring makes does not hold the staging set
  let s := if s.tpl.st == .applying then s.tplRelease.tplErr 0 else s
  let s := s.wr Reg.lotIso (pack [(16, ceilDiv (mbps (q.demand true)) 4000), (0, ceilDiv (mbps (q.demand false)) 3200)])
  s.tplEvent p.dist

/-- Inputs restarted by a full apply from the plan `old` (R133). -/
def State.applyInputs (s : State) (old : Plan) (kept : Nat → Bool) : State :=
  let s := s.igmpSyncAll
  let s := (List.range 16).foldl (fun s i =>
    if (s.pl.input? i).isNone then
      { s with ing := s.ing.drop (· == i), regs := (s.regs.drop (· == Reg.ingStatus i)).drop (· == Reg.ingSsrc i) }
    else s) s
  s.pl.inputs.foldl (fun s r =>
    if old.input? r.id == some r && kept r.setId then s else s.inputRestart r) s

/-- The Causeway's role as the plan in force has it: a device becomes, or ceases to be, a twin (R472). -/
def State.loadCsw (s : State) : State :=
  match s.pl.cw with
  | some _ => if s.role == 0 then s.setRole 1 else s
  | none => s.claimEnds.setRole 0

/-- An entry into Active that waited for a full apply follows at the next boundary (R83). Where the plan makes the device a
twin, the request is no trigger any more (R37) and its entry is dropped (DESIGN CHOICE, log 225). -/
def State.entryAfterApply (s : State) : State :=
  { s with mode := { s.mode with pend := s.mode.pend.bind (fun (m : PendMode) =>
    if !m.afterApply then some m
    else if s.twin.isSome && m.cause != 0x22 then none
    else some { m with afterApply := false, bounds := 1 }) } }

/-- The full apply `p` takes effect at the boundary that begins frame `n`. -/
def State.fullEffect (s : State) (p : PendApply) (n : Word32) : State :=
  let old := s.pl
  let keptIds := (p.chk.plan.sets.filter (fun r => (s.keptSet r).isSome)).map (·.id)
  let kept := fun id => keptIds.contains id || id ≥ 0x1000 && (s.set? id).isSome
  let s := s.applySets p
  let s := { s with plan := some p.chk.plan, hist := [] }
  let s := (s.loadPorts old).applyInputs old kept
  let s := (s.loadPlazasFull old).loadBoulevardsFull n
  let s := s.loadAvenuesFull.loadFxeFull kept
  let s := (s.loadClasses.loadKerb old).ptpApply old
  let s := (if old.sys.num * s.pl.sys.den == s.pl.sys.num * old.sys.den then s else s.ltcFrom.ltcShow).loadCsw
  let s := (s.plazasTick n (fun _ => false)).avenuesTick n
  let s := (s.applyShow p n).wakeUsed
  -- an entry into Active that waited for the apply follows at the next boundary (R83)
  let s := s.entryAfterApply
  s.migEvaluate.lotsFreed

/-- FULL_APPLY_TAKES_EFFECT: at the first frame boundary after allocation and copies, in Standby (R39, R82). A full apply
accepted after the trigger of an entry into Active may be due at the boundary of that entry; the specification does not say
which of the two comes first, and the order of the two commands decides (DESIGN CHOICE, log 224): entered first, Active lets
the apply wait for Standby. -/
def execFullApplyTakesEffect (s : State) : Host.Outcome State Fault Refusal :=
  let s := s.begin
  .next (match s.tpl.pend with
    | some p => if !p.chk.live && p.allocated && p.moves.isEmpty && p.bounds == 0 && s.mode.mode == .standby then s.fullEffect p s.frame else s
    | none => s)

/-! ### A live apply (R84 to R86, R110, R170, R200, R219, R237, R247, R325) -/

/-- The timing mode of a canvas (R85). -/
def CanRec.timing (c : CanRec) : Nat × Nat × Nat × Nat := (c.width, c.height, c.vblank, c.egress)

/-- Canvas `c` of a live plan from the plan `old`, at the boundary that begins frame `n` (R85, R169, R200, R219). -/
def State.liveCanvas (s : State) (old : Plan) (n : Word32) (c : Nat) : State :=
  let timing := (old.canvas? c).map (·.timing) != (s.pl.canvas? c).map (·.timing)
  let s := s.loadPlazaLive old c
  let s := s.loadBoulevardLive old c (if timing then n + 1 else n)
  let on := (s.canvas? c).isSome
  if timing then
    let x := s.avc c
    let s := s.setAvc c { x with mgen := (x.mgen + 1) % 65536, prev := none, mark := true }
    let s := s.setPz c { s.pz c with composing := false, gap := on }
    if !on then s
    else
      let s := s.setF (Reg.aveCstatus c) 0 3 2
      if s.active && !s.black then s.notices c n else s
  else
    match s.canvas? c with
    | some r => if r.cut || !s.plazaOn then s else s.beginCanvas c r n
    | none => s

/-- The tiles expected as frame `n`, with those of touched canvases taken anew. -/
def State.liveExpect (s : State) (old : Plan) (touched : List Nat) (n : Word32) : State :=
  let mine := fun t => (old.tile? t).any (fun r => touched.contains r.plaza)
  let s := { s with ave := { s.ave with ports := s.ave.ports.map (fun e =>
    (e.1, { e.2 with frames := (e.2.frames.map (fun f =>
      if f.n == n then { f with left := f.left.filter (fun t => !mine t) } else f)).filter (fun f => f.n != n || !f.left.isEmpty) })) } }
  if !s.sends n then s
  else s.ports_.foldl (fun s p =>
    s.expect p n (((s.portTiles p).filter (fun t =>
      touched.contains t.plaza && (s.canvas? t.plaza).any (fun c => !c.cut) && !(s.pz t.plaza).gap &&
        s.tileSlices t > 0)).map (·.id))) s

/-- The Avenues with a tile of a canvas in its re-timing gap count their ticks anew (R208, R219). -/
def State.liveTicks (s : State) : State :=
  s.ports_.foldl (fun s p =>
    if (s.portTiles p).any (fun t => (s.pz t.plaza).gap) then (s.setAv p { s.av p with ticks := 0 }).aveShow p else s) s

/-- The live apply `p` takes effect at the boundary that begins frame `n`. -/
def State.liveEffect (s : State) (p : PendApply) (n : Word32) : State :=
  let old := s.pl
  let touched := p.chk.touched
  let words := (old.tiles.filter (fun t => touched.contains t.plaza)).map (fun t => (t.id, s.tileWords t.id n))
  let h : Hist := { frame := n, plan := old, sets := s.lot.sets, tiles := words.foldl (fun t e => Tab.set t e.1 e.2) [],
                    mgens := (List.range 4).foldl (fun t c => Tab.set t c (s.avc c).mgen) [] }
  let s := s.applySets p
  let s := { s with plan := some p.chk.plan, hist := h :: s.hist.filter (fun e => (n - e.frame).toNat < historyFrames) }
  let s := s.loadWits old touched.contains
  let s := touched.foldl (fun s c => s.liveCanvas old n c) s
  let s := s.showBoulevards.loadAvenues
  let s := (s.liveExpect old touched n).liveTicks
  let gone := (old.tiles.filter (fun t => touched.contains t.plaza)).filter (fun t =>
    !((s.pl.tile? t.id).any (fun r => r.port == t.port)))
  let s := gone.foldl (fun s t => s.tileRemoved t.port t.id) s
  let s := s.loadFxeLive p.chk.unis
  -- the frame's universes, held back by the tick for this apply
  let s := if p.chk.unis.isEmpty || !s.sends n then s else s.fxeBegin n
  let s := (s.applyShow p n).wakeUsed
  s.migEvaluate.lotsFreed

/-- LIVE_APPLY_TAKES_EFFECT: at the first frame boundary after allocation (R85). -/
def execLiveApplyTakesEffect (s : State) : Host.Outcome State Fault Refusal :=
  let s := s.begin
  .next (match s.tpl.pend with
    | some p => if p.chk.live && p.allocated && p.moves.isEmpty && p.bounds == 0 && s.plazaOn then s.liveEffect p s.frame else s
    | none => s)

/-- A function-level reset of host district `d` that owns the staging set releases it, unless an apply is under way
(R87). -/
def State.resetTpl (s : State) (d : Nat) : State :=
  if s.tpl.owner == some d && s.tpl.st != .applying then s.tplRelease else s

end Sys2Proof.Machine
end

