-- ==== Sys2Proof/Machine/Mirror.lean ====
section
/-! DEFINITION. Mirroring between twins (R484 to R488): the FRAME records that the holder builds and the standby installs,
mirror records, blackouts, the steps of a sync, and divergence. -/

namespace Sys2Proof.Machine

/-! ### FRAME records (R484) -/

/-- The state as it will govern frame `n`: what latches before the frame's first row has latched (R167, R197). -/
def State.committedFor (s : State) (n : Word32) : State :=
  (List.range 4).foldl (fun s p =>
    match s.canvas? p with
    | some c =>
      let s := if !c.cut && c.latchLine < c.vblank then s.latch p c else s
      if c.cut then s else s.samplePoint p n
    | none => s) s

/-- The committed settings of frame `n` (R484). -/
def State.frameRecord (s : State) (n : Word32) : FrameRec :=
  let s := s.committedFor n
  let words := fun k => (List.range 6).map (fun i => s.rd (k + 4 * i))
  let plazas := (List.range 4).filter (fun p => (s.canvas? p).isSome)
  { frame := n,
    layers := plazas.flatMap (fun p =>
      (List.range 16).map (fun l => (p, l, words (Reg.plzLactSrc p l))) ++
        [(p, 16, [s.rd (Reg.plzBgactLo p), s.rd (Reg.plzBgactHi p)])]),
    tiles := s.pl.tiles.map (fun t => (t.id, [s.rd (Reg.blvTactMaster t.id), s.rd (Reg.blvTactWhite t.id),
      w32 (s.fld (Reg.blvTstatus t.id) 1 3)])),
    gmasters := (List.range 4).map (fun c => (c, s.rd (Reg.blvGmasterAct c))),
    fxe := s.fxe.act.map (fun e => (e.1, e.2.set, e.2.base, e.2.count, e.2.bank)),
    levels := (s.pl.kerbs.filter (·.kind == 0)).map (fun r => (r.ch, (s.rd (Reg.krbChlevel r.ch)).toNat)),
    steps := s.pl.signs.map (fun g => (g.group, s.krb.step.get 0 g.group)),
    inputs := s.pl.inputs.map (fun r => (r.id, s.fld (Reg.ingStatus r.id) 16 2)),
    mgens := (List.range 4).map (fun c => (c, (s.avc c).mgen)),
    seqs := s.fxe.seq, syncSeqs := s.fxe.syncSeq }

/-- The FRAME record of frame `n` leaves, while the device mirrors. -/
def State.sendFrameRec (s : State) (n : Word32) : State :=
  if s.mirroring then s.emit (.causeway (.frameRec (s.frameRecord n))) else s

/-- Layer or background words of a FRAME record installed. -/
def State.installLayer (s : State) (e : Nat × Nat × List Word32) : State :=
  let (p, l, w) := e
  if l == 16 then s.wrWords (Reg.plzBgactLo p) w
  else
    let s := s.wrWords (Reg.plzLactSrc p l) w
    let y := Lay.ofWords w
    if y.on && y.gang then (if ((s.pz p).lent.find? l).isSome then s else s.gangLoaded p l)
    else s.setPz p { s.pz p with lent := (s.pz p).lent.drop (· == l) }

/-- Tile words of a FRAME record installed. -/
def State.installTile (s : State) (e : Nat × List Word32) : State :=
  let (t, w) := e
  ((s.wr (Reg.blvTactMaster t) (w.getD 0 0)).wr (Reg.blvTactWhite t) (w.getD 1 0)).setF (Reg.blvTstatus t) 1 3
    (w.getD 2 0).toNat

/-- The settings of a FRAME record installed on the standby. -/
def State.installRecord (s : State) (r : FrameRec) : State :=
  let s := r.layers.foldl State.installLayer s
  let s := (List.range 4).foldl (fun s p =>
    let x := s.pz p
    let s := if x.composing && x.next == 0 then s.setPz p { x with cur := s.settings p } else s
    s.plzShow p) s
  let s := r.tiles.foldl State.installTile s
  let s := r.gmasters.foldl (fun s e => s.wr (Reg.blvGmasterAct e.1) e.2) s
  let s := s.fx (fun f => { f with act := r.fxe.map (fun e => (e.1, ⟨e.2.1, e.2.2.1, e.2.2.2.1, e.2.2.2.2⟩)),
                                   seq := r.seqs, syncSeq := r.syncSeqs })
  let s := r.levels.foldl (fun s e => s.wr (Reg.krbChlevel e.1) (w32 e.2)) s
  let s := s.kb (fun k => { k with step := r.steps.foldl (fun t e => Tab.set t e.1 e.2) k.step })
  let s := r.inputs.foldl (fun s e => s.setF (Reg.ingStatus e.1) 16 2 e.2) s
  let s := r.mgens.foldl (fun s e => s.setAvc e.1 { s.avc e.1 with mgen := e.2 }) s
  s.cs (fun x => { x with frameRec := some r.frame, snapshot := true })

/-! ### Divergence and sync (R485, R486) -/

/-- A sync that starts again from step 1. -/
def State.resync (s : State) : State := (s.startSync.cs (fun x => { x with snapshot := false })).cswEvent 4

/-- Mirroring has failed (R485). -/
def State.diverge (s : State) (code : Nat) : State := ((s.setF Reg.cswSync 31 1 1).cswErr code).resync

/-- CSW_RESYNC: CSW_CMD RESYNC on a SYNCING or READY device starts the sync again (R486, R491). -/
def execCswResync (init : InitId) (key : BitVec 16) (s : State) : Host.Outcome State Fault Refusal :=
  .next (s.begin.cswCmd init key (fun r => r == 2 || r == 3) State.resync)

/-- FRAME_RECORD: the standby installs the settings of its frame; a record of another frame diverges (R484 to R486). -/
def execFrameRecord (item : FrameRec) (s : State) : Host.Outcome State Fault Refusal :=
  let s := s.begin
  let last := s.role == 2 && s.fld Reg.cswSync 8 2 == 3
  .next (if s.role != 3 && !last then s
    else if item.frame != s.frame then s.diverge 0x07
    else s.installRecord item)

/-- FRAME_RECORD_LATE: 50 µs after its sample point a READY standby has no FRAME record of its frame (R485). -/
def execFrameRecordLate (s : State) : Host.Outcome State Fault Refusal :=
  let s := s.begin
  .next (if s.role != 3 || s.csw.frameRec == some s.frame then s
    else (s.passTicks (20000 - s.clt.elapsed)).diverge 0x07)

/-- SYNC_STEP_DONE: the step in progress is complete, and the next one begins or the standby is READY (R486). -/
def execSyncStepDone (s : State) : Host.Outcome State Fault Refusal :=
  let s := s.begin
  .next (if s.role != 2 then s
    else match s.fld Reg.cswSync 8 2 with
      | 0 => if s.fullPending || !s.inForce then s else s.setF Reg.cswSync 8 2 1
      | 1 =>
        if s.cltSt != 2 && s.cltSt != 3 then s
        else
          let off := s.csw.peerOff
          let s := if off == 0 then s else (s.wr Reg.cltFrame (s.frame + off)).bump Reg.cltFdisc
          (s.cs (fun x => { x with peerOff := 0 })).setF Reg.cswSync 8 2 2
      | 2 => ((s.setF Reg.cswSync 0 8 100).setF Reg.cswSync 8 2 3).cs (fun x => { x with snapshot := false })
      | _ => if s.csw.snapshot then s.setRole 3 else s)

/-! ### Mirror records (R484, R487) -/

/-- A plan that mirroring brings is applied without the staging set; TPL keeps its own state. -/
def State.mirrorPlan (s : State) (image : List Byte) (boundary : Option Word32) : State :=
  if s.tpl.pend.isSome then s
  else
    let v := validate {} (if boundary.isSome then s.plan else none) image image.length
    match v.res with
    | .error _ => s
    | .ok c =>
      let t := s.tpl
      let s := match boundary with
        | none => if c.live || s.mode.mode != Mode.standby then s else (s.applyFull houseDist c false).getD s
        | some b =>
          if !c.live then s
          else
            let s : State := s.applyLive houseDist c
            s.tp (fun t => { t with pend := t.pend.map (fun (p : PendApply) => { p with bounds := max 1 (b - s.frame).toNat }) })
      { s with tpl := { t with pend := s.tpl.pend } }

/-- A mirrored post to a submission queue: executed, its completion discarded. -/
def State.mirrorPost (s : State) (d lane : Nat) (words : List Word32) : State :=
  let j := slotOf d
  let pos := (laneKey j lane, (s.lane j lane).wp)
  match s.quePost j lane 0x40#8 words with
  | (.stored, s) => { s with que := { s.que with mirrored := pos :: s.que.mirrored } }
  | (_, s) => s

/-- A function-level reset of district `d` as the standby takes it: the effects of R384. -/
def State.mirrorReset (s : State) (d : Nat) : State := (((s.resetQueues d).resetIngress d).resetFxe d).resetItems d

/-- MIRROR_RECORD: the standby applies a mirrored plan, lot write, submission, frame descriptor or reset; the holder's
buffer overflow diverges (R484, R485). -/
def execMirrorRecord (item : MirrorRec) (s : State) : Host.Outcome State Fault Refusal :=
  let s := s.begin
  .next (if s.role != 2 && s.role != 3 then s
    else match item with
      | .fullPlan image => s.mirrorPlan image none
      | .livePlan image boundary => s.mirrorPlan image (some boundary)
      | .lotWrite set off bytes => s.writeSetId set off bytes
      | .submission dist lane words => s.mirrorPost dist lane words
      | .hdPost input set off pitch tag =>
        let x := s.inp input
        if (s.pl.input? input).isNone || x.hd.length ≥ 4 then s
        else (s.setInp input { x with hd := x.hd ++ [⟨set, off, pitch, tag⟩] }).hdFree input
      | .distReset dist => s.mirrorReset dist.val
      | .overflow => s.diverge 0x06)

/-- A record of the blackout that a doorbell here has begun too: the peer's doorbell was rung before the record of this one,
which takes up to 2 µs, could reach it (R487, R489). -/
def State.bothRang (s : State) (bgen : Byte) : Bool :=
  s.black && s.bgen == bgen.toNat && s.csw.rang.any (fun t => s.now ≤ t + usRoot 2)

/-- BLACK_RECORD: a blackout or release accepted by the peer changes BLACK and BGEN; only the device in Active sends
BLACKOUT frames and zero universes (R487). Doorbells on both twins are one event, with DIST from the lower district (R489). -/
def execBlackRecord (black : Bool) (bgen : Byte) (dist : Nat) (s : State) : Host.Outcome State Fault Refusal :=
  let s := s.begin
  let counted := fun (s : State) => s.setF Reg.lmsBlackcnt 0 24 (s.fld Reg.lmsBlackcnt 0 24 + 1)
  .next (if s.twin.isNone then s
    else if black && s.bothRang bgen then counted (s.setF Reg.lmsBlackout 16 4 (min (s.fld Reg.lmsBlackout 16 4) (dist % 16)))
    else
      let was := s.black
      let s := ((s.setF Reg.lmsBlackout 8 8 bgen.toNat).setF Reg.lmsBlackout 0 1 (bit black)).setF Reg.lmsBlackout 16 4 dist
      if black then (counted s).blackOut was dist
      else if was then { s with ave := { s.ave with first := s.frame + 1 } } else s)

end Sys2Proof.Machine
end

