-- ==== Sys2Proof/Machine/Modes.lean ====
section
/-! DEFINITION. The operating modes (R34 to R43): mode requests, the transitions and what each switches on and off, the
frame boundary for every engine (R302), and the reset of a host district (R384). -/

namespace Sys2Proof.Machine

/-! ### Transitions (R34 to R36) -/

/-- The sign of a mode in MODE_STATUS (R40). -/
def Mode.code : Mode → Nat
  | .reset => 0 | .boot => 1 | .standby => 2 | .active => 3 | .maintenance => 4 | .safe => 5

/-- The modes in which the network ports, the DMX drivers and the Causeway lanes are up (R34). -/
def Mode.linesUp : Mode → Bool
  | .standby | .active | .maintenance => true
  | .reset | .boot | .safe => false

/-- The LTC output and the PTP engine run in the mode (R295, R304). -/
def Mode.timed : Mode → Bool
  | .standby | .active | .maintenance => true
  | .reset | .boot | .safe => false

/-- The lines of R34 come up or go idle. -/
def State.lines (s : State) (up : Bool) : State :=
  ((s.emit (.line .netPorts up)).emit (.line .dmxDrivers up)).emit (.line .causeway up)

/-- Every input restarted, or switched off, in line with the mode (R34, R153). -/
def State.inputsMode (s : State) : State := s.pl.inputs.foldl (fun s r => s.inputRestart r) s

/-- The Causeway's role follows Maintenance (R472). -/
def State.cswMode (s : State) (prev : Mode) : State :=
  if s.twin.isNone then s
  else match s.mode.mode with
    | .maintenance => s.claimEnds.setRole 6
    | .standby => if prev == .active then s else s.setRole 1
    | _ => s

/-- The mode changes, with everything that follows the mode but the device's entry into and exit from Active: MODE_STATUS
and its event, ingress, composition, a pending apply, calibration, the Causeway (R34, R83, R377, R448, R472). -/
def State.setMode (s : State) (target : Mode) (cause : Nat) : State :=
  let prev := s.mode.mode
  let was := s.ingressOn
  let s := { s with mode := { mode := target, prev := prev, cause := cause } }
  let s := allDists.foldl (fun s d => s.raise d 3 0) s
  let s := if prev.linesUp == target.linesUp then s else s.lines target.linesUp
  let s := if (prev == .active) == s.active then s else s.ports_.foldl (fun s p => s.aveShow p) s
  let s := if was == s.ingressOn then s else s.inputsMode.igmpSyncAll
  let s := if s.plazaOn then s else (List.range 4).foldl (fun s p => s.setPz p { s.pz p with composing := false }) s
  let s := if (prev == .standby || prev == .maintenance) && target != .standby && target != .maintenance then s.calMode else s
  let s := if prev == .standby then s.applyWaits else s
  let s := if prev == .standby && target == .maintenance then s.abandonApply else s
  let s := if prev == .boot then s.ptpRestart else s
  let s := if prev.timed == target.timed then s else s.ltcShow
  (s.cswMode prev).lmsSending

/-- The epoch of a device without a twin: one higher at each entry into Active, skipping 0 (R234). -/
def State.nextEpoch (s : State) : State :=
  if s.twin.isSome then s
  else
    let e := s.rd Reg.lmsEpoch + 1
    let e := if e == 0 then 1 else e
    { s.wr Reg.lmsEpoch e with nv := s.nv.set Reg.lmsEpoch e }

/-- The frame before the entry that a handover's new holder also sends (R481): framed tiles that the Boulevards have. -/
def State.handoverFrame (s : State) (m : Word32) : State :=
  let s := s.expectFramed m
  s.pl.tiles.foldl (fun s t =>
    let framed := (s.canvas? t.plaza).any (fun c => !c.cut) && s.tileSlices t > 0
    let handed := s.blv.frame.find? t.plaza == some m
    if framed && handed && !(s.blv.todo.any (fun r => r.tile == t.id && r.n == m)) then s.tileReady t m else s) s

/-- Active is entered at the boundary that begins frame `n` (R34, R36, R211, R228, R234, R403, R481). -/
def State.enterActive (s : State) (cause : Nat) (n : Word32) : State :=
  let by_ := s.csw.byHandover
  let s := (s.setMode .active cause).nextEpoch
  let s := s.wr Reg.modeFrame n
  let s := { s with ave := { s.ave with first := if by_ then n - 1 else n, seq := [] } }
  let s := s.heartbeats n false
  let s := if by_ && s.sends (n - 1) then s.handoverFrame (n - 1) else s
  let s := if s.sends n then s.expectFramed n else s
  let s := (s.setF Reg.fxeStatus 16 1 1).fxeBegin n
  let s := (List.range 4).foldl (fun s k => s.rdmSend k) s
  let s := (s.krbEnter.pumpPorts).cs (fun x => { x with byHandover := false })
  s

/-- The Fixture Engine stops without Stream_Terminated packets (R481). -/
def State.fxeStop (s : State) : State :=
  s.fxeDrop.setF Reg.fxeStatus 16 1 0

/-- Active is left for `target` at the boundary that begins frame `n` (R34, R36, R211, R247, R319, R403, R475, R481). -/
def State.leaveActive (s : State) (target : Mode) (cause : Nat) (n : Word32) : State :=
  let s := if s.csw.byHandover then s else s.heartbeats n true
  let s := if cause == 0x23 || cause == 0x24 then s.discardSlices.fxeStop else s.discardSlices.fxeLeave
  let s := s.krbRelease.sessionsEnd
  let s := if s.csw.held then s.leaseEnds else s
  let s := (s.setMode target cause).cs (fun x => { x with byHandover := false })
  s.wr Reg.modeFrame n

/-- MODE_TRANSITION_TAKES_EFFECT: a pending transition into or out of Active takes effect at its frame boundary (R36). -/
def execModeTransitionTakesEffect (s : State) : Host.Outcome State Fault Refusal :=
  let s := s.begin
  .next (match s.mode.pend with
    | some p =>
      if p.bounds != 0 || p.afterApply then s
      else if p.target == .active then (if s.mode.mode == .standby then s.enterActive p.cause s.frame else s)
      else if s.active && (p.target == .standby || p.target == .maintenance) then s.leaveActive p.target p.cause s.frame
      else s
    | none => s)

/-! ### Mode requests (R37, R38, R41, R42) -/

/-- REQ_RESULT of a district. -/
def State.reqResult (s : State) (d code : Nat) : State := s.setF (distKey (slotOf d) Reg.modeStatus) 10 3 code

/-- The interface versions agree (R513). -/
def State.versionsAgree (s : State) : Bool := s.fld Reg.updMismatch 24 8 == 0

/-- The table of R35 has the transition with the trigger "accepted mode request". -/
def State.requestable (s : State) (target : Mode) : Bool :=
  match s.mode.mode, target with
  | .standby, .active | .active, .standby | .standby, .maintenance | .active, .maintenance => true
  | .maintenance, .standby => s.versionsAgree
  | _, _ => false

/-- An accepted mode request: it arms or disarms a twin, or is the trigger of a transition (R37, R472). -/
def State.acceptMode (s : State) (target : Mode) : State :=
  let s := if s.twin.isSome then s.setArmed (target == .active) else s
  if target == .active && s.twin.isSome then s else s.trigger target 0x20

/-- The mode changes in the next FAB cycle (R36). -/
def State.nextCycleMode (s : State) (target : Mode) (cause : Nat) : State := (s.elapse 8).setMode target cause

/-- A FAB cycle of accesses ends: a transition accepted in it that does not involve Active takes effect in the next one
(R36). `busy`: a transition was pending before. -/
def State.endModes (s : State) (busy : Bool) : State :=
  match s.mode.pend with
  | some p => if busy || s.active || p.target == .active then s else s.nextCycleMode p.target p.cause
  | none => s

/-- A write to MODE_REQ, checked in the order of R41. -/
def State.modeReq (s : State) (d : Nat) (key : BitVec 16) (target : Mode) : State :=
  if key != 0x5A17#16 then s.reqResult d 4
  else if !s.auth false (·.modeAuth) d then s.reqResult d 2
  else if s.mode.pend.isSome then s.reqResult d 5
  else if !s.requestable target then s.reqResult d 3
  else (s.reqResult d 1).acceptMode target

/-- MODE_REQ_STANDBY: a MODE_REQ write with TARGET 2 (R41). -/
def execModeReqStandby (init : InitId) (key : BitVec 16) (s : State) : Host.Outcome State Fault Refusal :=
  .next (s.begin.access init 0 (fun s => (s.modeReq (distOf init) key .standby).endModes s.mode.pend.isSome))

/-- MODE_REQ_ACTIVE: a MODE_REQ write with TARGET 3; it arms a twin (R37, R41). -/
def execModeReqActive (init : InitId) (key : BitVec 16) (s : State) : Host.Outcome State Fault Refusal :=
  .next (s.begin.access init 0 (fun s => (s.modeReq (distOf init) key .active).endModes s.mode.pend.isSome))

/-- MODE_REQ_MAINTENANCE: a MODE_REQ write with TARGET 4 (R41). -/
def execModeReqMaintenance (init : InitId) (key : BitVec 16) (s : State) : Host.Outcome State Fault Refusal :=
  .next (s.begin.access init 0 (fun s => (s.modeReq (distOf init) key .maintenance).endModes s.mode.pend.isSome))

/-! ### The frame boundary (R302) -/

/-- What waits for a frame boundary comes one boundary nearer: a pending transition, an apply whose allocation and copies
are complete, a completed migration copy, the next migration evaluation (R36, R82, R85, R113, R114). -/
def State.nearer (s : State) : State :=
  let m := s.mode.pend.map (fun (p : PendMode) =>
    if p.afterApply && s.fullPending then p else { p with afterApply := false, bounds := p.bounds - 1 })
  let t := s.tpl.pend.map (fun (p : PendApply) =>
    let on := if p.chk.live then s.plazaOn else s.mode.mode == .standby
    if on && p.allocated && p.moves.isEmpty then { p with bounds := p.bounds - 1 } else p)
  let c := s.lot.copy.map (fun (c : Copy) => { c with ready := c.done })
  { s with mode := { s.mode with pend := m }, tpl := { s.tpl with pend := t },
           lot := { s.lot with copy := c, sinceEval := s.lot.sinceEval + 1 } }

/-- A transition out of Active takes effect at this boundary. -/
def State.leaving (s : State) : Bool := s.active && s.mode.pend.any (fun p => p.bounds == 0 && p.target != .active)

/-- A live apply that replaces universes takes effect at this boundary: it begins the frame's universes. -/
def State.liveUnis (s : State) : Bool :=
  s.tpl.pend.any (fun p => p.chk.live && p.allocated && p.bounds == 0 && !p.chk.unis.isEmpty)

/-- A full apply takes effect at this boundary. -/
def State.fullDue (s : State) : Bool :=
  s.tpl.pend.any (fun p => !p.chk.live && p.allocated && p.moves.isEmpty && p.bounds == 0) && s.mode.mode == .standby

/-- The boundary that begins frame `n` for every engine (R151, R157, R205, R211, R247, R311, R335, R484). -/
def State.boundary (s : State) (n : Word32) : State :=
  let s := s.nearer.inputsPresent.l7Reset
  let s := (s.plazasTick n (fun _ => false)).avenuesTick n
  let go := s.active && !s.leaving
  let s := if go then s.heartbeats n false else s
  let s := s.fxeTick n (go && !s.liveUnis) s.fullDue
  s.sessionsTick.sendFrameRec n

/-- FRAME_TICK: the Clocktower raises the tick that begins the next frame (R302). -/
def execFrameTick (s : State) : Host.Outcome State Fault Refusal :=
  let s := s.begin
  .next (if s.mode.mode == .reset then s
    else
      let s := s.raiseTick
      s.boundary s.frame)

end Sys2Proof.Machine
end

