-- ==== Sys2Proof/Machine/Denial.lean ====
section
/-! DEFINITION. Who may reach which register (R155, R178, R202, R221, R258, R287, R306, R326, R350, R470, R490, R531,
R532): the accesses of hosts that a block denies, with the codes they leave, and the writes of hosts that it ignores. -/

namespace Sys2Proof.Machine

/-- The unit of an array of `n` units, `stride` bytes apart from `base`, that holds offset `a`, and the offset in it (R26). -/
def unitAt (a base n stride : Nat) : Option (Nat × Nat) :=
  if base ≤ a && (a - base) / stride < n then some ((a - base) / stride, (a - base) % stride) else none

/-- LOT_CTL, LOT_DSEL and LOT_LTCFG ignore host writes (R128, R131). -/
def State.foreignLot (s : State) (a : Nat) (write : Bool) : Option State :=
  if write && (a == Reg.lotCtl || a == Reg.lotDsel || a == Reg.lotLtcfg) then some s else none

/-- The two pages of an input belong to its district (R155); mirrored districts' ING_HD writes are discarded (R488). -/
def State.foreignIng (s : State) (d a : Nat) (write : Bool) : Option State :=
  if write && (unitAt a 0x302000 16 0x100).isSome && s.mirrorLocked d then some s.mirrorDrop
  else
    match (unitAt a 0x301000 16 0x100).orElse (fun _ => unitAt a 0x302000 16 0x100) with
    | some (i, _) => if (s.pl.input? i).any (·.dist == d) then none else some (s.setErr (Reg.ingStatus i) 0x07)
    | none => none

/-- A Plaza belongs to its canvas's district and a window to its own (R178). -/
def State.foreignPlz (s : State) (d a : Nat) : Option State :=
  match unitAt a 0x440000 64 0x10 with
  | some (w, _) =>
    match s.pl.wits.find? (·.win == w) with
    | some r => if r.dist == d then none else some (s.setErr (Reg.plzStatus r.plaza) 0x07)
    | none => some s
  | none =>
    match unitAt a 0x400000 4 0x10000 with
    | some (p, _) => if (s.pl.canvas? p).any (·.dist == d) then none else some (s.setErr (Reg.plzStatus p) 0x07)
    | none => none

/-- Tiles and global masters belong to their canvas's district (R202). -/
def State.foreignBlv (s : State) (d a : Nat) : Option State :=
  match unitAt a 0x510000 4096 0x40 with
  | some (t, _) =>
    match s.pl.tile? t with
    | some r => if s.blvMay d r.plaza then none else some (s.setErr (Reg.blvTstatus t) 0x05)
    | none => some s
  | none =>
    match unitAt a 0x500400 4 0x10 with
    | some (c, _) => if s.blvMay d c then none else some (s.masterDenied c)
    | none => none

/-- A canvas's Avenue registers belong to its district (R221). -/
def State.foreignAve (s : State) (d a : Nat) : Option State :=
  match unitAt a 0x600400 4 0x10 with
  | some (c, _) => if (s.pl.canvas? c).any (·.dist == d) then none else some (s.setErr (Reg.aveCstatus c) 0x06)
  | none => none

/-- Port registers belong to the port's district, tile registers to that of the tile's canvas and that of its port; the
house district alone writes the configuration (R258). -/
def State.foreignLms (s : State) (d a : Nat) (write : Bool) : Option State :=
  let owns := fun p => (s.pl.port? p).any (·.dist == d)
  match unitAt a 0x710000 64 0x100, unitAt a 0x720000 4096 0x20 with
  | some (p, _), _ => if owns p then none else some (s.setErr (Reg.lmsPstatus p) 0x0A)
  | _, some (t, _) =>
    if (s.pl.tile? t).any (fun r => (s.pl.canvas? r.plaza).any (·.dist == d) || owns r.port) then none
    else some (s.setErr (Reg.lmsTstat t) 0x0A)
  | none, none =>
    if write && (a == Reg.lmsCfg || a == Reg.lmsHbmacLo || a == Reg.lmsHbmacHi || a == Reg.lmsTiming) then some s else none

/-- A port belongs to its district; PRT_PREEMPT, PRT_LATADJ and PRT_SERDES ignore host writes (R287). -/
def State.foreignPrt (s : State) (d a : Nat) (write : Bool) : Option State :=
  match unitAt a 0x800000 64 0x1000 with
  | some (p, o) =>
    if !(s.pl.port? p).any (·.dist == d) then some (s.setErr (Reg.prtStatus p) 0x20)
    else if write && (o == 0x0C || o == 0x18 || o == 0x1C) then some s
    else none
  | none => none

/-- District slots belong to their districts, RDM registers and windows to RDM_DIST; a host only reads the global registers,
FXE_SRCIP and the DMX registers at offsets 0x00 to 0x0C (R326). -/
def State.foreignFxe (s : State) (d a : Nat) (write : Bool) : Option State :=
  let may : Bool :=
    match unitAt a 0xA00100 5 0x20, unitAt a 0xA00600 4 0x40, unitAt a 0xA01000 4 0x400 with
    | some (j, _), _, _ => slotAllowed d j
    | _, some (k, o), _ => if o ≥ 0x10 then s.rdmDist k == d else !write
    | _, _, some (k, _) => s.rdmDist k == d
    | none, none, none => !(write && (a < 0xA00100 || (unitAt a 0xA00400 64 4).isSome))
  if may then none else some (s.setErr Reg.fxeStatus 0x07)

/-- A district's slot belongs to it; the house district alone writes L7_ITEMS (R350). -/
def State.foreignSch (s : State) (d a : Nat) (write : Bool) : Option State :=
  match unitAt a 0xB00400 5 0x80 with
  | some (j, o) =>
    if slotAllowed d j && !(write && o == 0) then none else some (s.setErr (distKey (slotOf d) Reg.schStatus) 0x10)
  | none => none

/-- A district's slot of the Queue Bank belongs to it (R371). -/
def State.foreignQue (s : State) (d a : Nat) : Option State :=
  match unitAt a 0xC00000 5 0x10000 with
  | some (j, _) => if slotAllowed d j then none else some (s.queDenied j)
  | none => none

/-- A host reaches its own pins and user page and the windows of R521; PMC_BWCFG and PMC_PERM are written by the house
district (R531). -/
def State.foreignPmc (s : State) (d a : Nat) (write : Bool) : Option State :=
  let may : Bool :=
    match unitAt a 0x1602000 5 0x200, unitAt a 0x1610000 5 0x1000, unitAt a 0x1601000 64 8, unitAt a 0x1601400 4 8 with
    | some (j, _), _, _, _ => slotAllowed d j
    | _, some (j, _), _, _ => slotAllowed d j
    | _, _, some (p, _), _ => (s.pl.port? p).any (·.dist == d)
    | _, _, _, some (h, _) => h == d
    | none, none, none, none => !(write && (a == Reg.pmcPerm || a == Reg.pmcBwcfg))
  if may then none else some (s.pmcErr d 0x04)

/-- A host reaches its own slot and ERR_SEQ (R532). -/
def State.foreignErr (s : State) (d a : Nat) : Option State :=
  let may : Bool :=
    match unitAt a 0x1700100 5 0x40 with
    | some (j, _) => slotAllowed d j
    | none => a == Reg.errSeq
  if may then none else some (s.errDenied d)

/-- The state that an access denied or ignored by its block leaves; none for an access that has its effect. Blocks deny
only hosts. -/
def State.foreign (s : State) (init : InitId) (a : Nat) (write : Bool) : Option State :=
  let d := distOf init
  if d == houseDist then none
  else match a / 0x100000 with
  | 2 => s.foreignLot a write
  | 3 => s.foreignIng d a write
  | 4 => s.foreignPlz d a
  | 5 => s.foreignBlv d a
  | 6 => s.foreignAve d a
  | 7 => s.foreignLms d a write
  | 8 => s.foreignPrt d a write
  | 9 => if write then some s else none
  | 10 => s.foreignFxe d a write
  | 11 => s.foreignSch d a write
  | 12 => s.foreignQue d a
  | 18 => if write && a != Reg.ckgRstctl then some (s.ckgErr 0x17) else none
  | 19 => if write && a != Reg.cswCmd then some (s.cswErr 0x0D) else none
  | 22 => s.foreignPmc d a write
  | 23 => s.foreignErr d a
  | _ => none

end Sys2Proof.Machine
end

