-- ==== Sys2Proof/Machine/Restart.lean ====
section
/-! DEFINITION. Reset (R35, R461 to R463, R526, R544, R547): what each kind of reset keeps, and the causes. -/

namespace Sys2Proof.Machine

/-- The life-cycle and update state replaced by `f` of it. -/
def State.lc (s : State) (f : LcsState → LcsState) : State := { s with lcs := f s.lcs }

/-- The clocks after a reset. A warm reset keeps the root PLL and the REFCLK monitor with EXPECT (R461). -/
def CkgState.restart (c : CkgState) (cold : Bool) (now : Nat) : CkgState :=
  if cold then { resetAt := now, cold := true, heldUntil := c.heldUntil }
  else { expect := c.expect, ok := c.ok, counts := c.counts, good := c.good, wins := c.wins, osc := c.osc,
         switch := c.switch, again := c.again, resetAt := now, cold := false, heldUntil := c.heldUntil }

/-- What the update protocol keeps: a session ends, a block under way is not marked, a verification has changed nothing
(R506, R512, R515). -/
def LcsState.restart (l : LcsState) : LcsState :=
  { l with session := none, prog := none, waiting := [], link := false, running := 3, intDbg := false,
           stage := if l.stage == 3 then 2 else l.stage }

/-- A reset of the device: every state but the settings store, the boot flash, what a warm reset keeps and the levels of
its input pins returns to its reset value (R461). -/
def State.restart (s : State) (cause : Nat) (cold : Bool) : State :=
  let nv := s.nv.set Reg.ckgRststat (pack [(24, cause), (8, bit cold)])
  let out := if s.mode.mode.linesUp then (s.lines false).out else s.out
  let out := if s.bitOf Reg.cswStatus 8 then out ++ [.leaseOut false] else out
  let t : State := {
    now := s.now, nv := nv, regs := nv, free := s.free, out := out, resp := s.resp, pending := s.pending,
    mode := { mode := .reset, prev := s.mode.mode, cause := cause },
    lot := { frame := s.lot.frame, spares := s.lot.spares },
    met := { copies := s.met.copies }, cal := { store := s.cal.store, recs := s.cal.recs, seq := s.cal.seq },
    ckg := s.ckg.restart cold s.now, lcs := s.lcs.restart, therm := s.therm,
    csw := { inHigh := s.csw.inHigh, inSince := s.csw.inSince } }
  let t := t.setF Reg.cswStatus 9 1 (bit s.csw.inHigh)
  if cold then t else (t.setF Reg.ckgStatus 6 2 (if s.ckg.osc then 2 else 3)).ckgShow

/-! ### Causes -/

/-- POWER_ON: supplies return and a cold reset begins (R461), in every mode (log 226). -/
def execPowerOn (s : State) : Host.Outcome State Fault Refusal := .next (s.begin.restart 0x01 true)

/-- Nominal millivolts and tolerance in percent of the rails, in the order of the table of R542. -/
def rails : List (Nat × Nat) :=
  [(750, 3), (850, 3), (1100, 3), (1800, 5), (900, 3), (1200, 3), (900, 2), (1800, 5), (3300, 5), (900, 3), (3300, 2)]

/-- BROWN_OUT: a rail lies below its brown-out level for 1 µs or longer (R544). -/
def execBrownOut (rail mv ns : Nat) (s : State) : Host.Outcome State Fault Refusal :=
  let s := s.begin
  .next (match rails[rail]? with
    | some (v, tol) => if 1000 ≤ ns && 100 * mv < v * (98 - tol) then s.restart 0x01 true else s
    | none => s)

/-- A low on RESET_N that is recognised: a cold reset, and Reset lasts as long as the pin is low. A reset at power-on keeps
its cause (R35, R462, R551). In a Reset of another cause the model restarts with cause 0x02: R35 names any mode as the source
and R38 lets a trigger for the current mode have no effect (DESIGN CHOICE, log 226). -/
def State.resetN (s : State) (lowNs : Nat) : State :=
  let until_ := s.now + ceilDiv (lowNs * 48) 5
  let hold := fun (s : State) => s.ck (fun c => { c with heldUntil := max c.heldUntil until_ })
  if s.mode.mode == .reset && s.mode.cause == 0x01 then hold s else hold (s.restart 0x02 true)

/-- RESET_N_ASSERTED: RESET_N is low for a time; under 100 ns it is ignored, from 1 µs it is recognised, between the two it
may be (R462). -/
def execResetNAsserted (lowNs : Nat) (s : State) : Host.Outcome State Fault Refusal :=
  let s := s.begin
  if lowNs < 100 then .next s
  else if 1000 ≤ lowNs then .next (s.resetN lowNs)
  else
    let (k, s) := s.draw
    .next (if Config.shortReset k then s.resetN lowNs else s)

/-- RESET_COMMAND: a write to CKG_RSTCTL; KEY 0x8E57 of the house district or the service port resets the device (R463,
R470). -/
def execResetCommand (init : InitId) (value : Word32) (s : State) : Host.Outcome State Fault Refusal :=
  .next (s.begin.access init 18 (fun s =>
    if (isHouse init || init == 0x50#8) && field value 16 16 == 0x8E57 then s.restart 0x04 false else s.ckgErr 0x16))

/-- WATCHDOG_EXPIRY: TIMEOUT_MS passes without a kick (R469). -/
def execWatchdogExpiry (s : State) : Host.Outcome State Fault Refusal :=
  let s := s.begin
  .next (match s.ckg.wd with
    | some t => (s.at_ (t + msRoot (s.fld Reg.ckgWdcfg 0 16))).restart 0x03 false
    | none => s)

/-- FATAL_RESET_EXPIRY: 100 µs after a device-fatal event (R526). -/
def execFatalResetExpiry (s : State) : Host.Outcome State Fault Refusal :=
  let s := s.begin
  .next (match s.err.fatalAt with
    | some t => (s.at_ (t + usRoot 100)).restart 0x05 false
    | none => s)

/-! ### Thermal pins (R547) -/

/-- A sensor reads a temperature, in thousandths of a degree Celsius: both pins follow, with their hysteresis. -/
def State.sensor (s : State) (k : Nat) (temp : Int) : State :=
  let temps := s.therm.temps.set k temp
  let at_ := fun (lim : Int) => temps.any (fun e => e.2 ≥ lim)
  let alert := at_ 110000 || (s.therm.alert && at_ 105000)
  let trip := at_ 125000 || (s.therm.trip && at_ 100000)
  let old := s.therm
  let s := { s with therm := { temps := temps, alert := alert, trip := trip } }
  let s := if alert == old.alert then s else s.emit (.therm false alert)
  if trip == old.trip then s else s.emit (.therm true trip)

/-- THERMAL_ALERT: a sensor crosses 110 °C or 105 °C and THERM_ALERT_N is driven or released. -/
def execThermalAlert (sensor : Fin 8) (temp : Int) (s : State) : Host.Outcome State Fault Refusal :=
  .next (s.begin.sensor sensor.val temp)

/-- THERMAL_TRIP: a sensor reaches 125 °C, or falls below 100 °C, and THERM_TRIP_N is driven or released. -/
def execThermalTrip (sensor : Fin 8) (temp : Int) (s : State) : Host.Outcome State Fault Refusal :=
  .next (s.begin.sensor sensor.val temp)

end Sys2Proof.Machine
end

