-- ==== Sys2Proof/Machine/Update.lean ====
section
/-! DEFINITION. Life cycle and field update (R492 to R516): the boot and plan pointers, the update protocol on the service
port, its requests, verification, keys and life-cycle transitions. -/

namespace Sys2Proof.Machine

/-! ### Pointers, regions and manifests (R500, R501, R509) -/

/-- The record in force of a pointer: the one whose SEQ is later (R13, R509). -/
def pointerNow : List Pointer → Option Pointer
  | [] => none
  | p :: t => some (t.foldl (fun a b => if frameLater b.seq a.seq then b else a) p)

/-- A pointer written: the older record is replaced by `p` with the next SEQ. -/
def pointerWrite (l : List Pointer) (p : Pointer) : List Pointer :=
  match pointerNow l with
  | none => [p]
  | some q => [q, { p with seq := q.seq + 1 }]

/-- The boot pointer. -/
def LcsState.boot (l : LcsState) : Pointer := (pointerNow l.ptr).getD {}
/-- The boot pointer written (R509). -/
def LcsState.setBoot (l : LcsState) (p : Pointer) : LcsState := { l with ptr := pointerWrite l.ptr p }
/-- The region with a number. -/
def LcsState.region (l : LcsState) (n : Nat) : Region := l.flash.get {} n
/-- The region with a number replaced. -/
def LcsState.setRegion (l : LcsState) (n : Nat) (r : Region) : LcsState := { l with flash := l.flash.set n r }
/-- The fuse counter of a class (R503). -/
def LcsState.counter (l : LcsState) (c : Nat) : Nat := l.svn.get 0 c

/-- Fields of a manifest. -/
def mfClass (m : List Byte) : Nat := byteAt m 4
def mfForm (m : List Byte) : Nat := byteAt m 5
def mfVersion (m : List Byte) : Nat := beAt m 8 4
def mfIf (m : List Byte) : Nat := beAt m 0xC 2
def mfSvn (m : List Byte) : Nat := beAt m 0x18 4
def mfLen (m : List Byte) : Nat := beAt m 0x1C 4
def mfImgLen (m : List Byte) : Nat := beAt m 0x20 4

/-- The plan copy that a package is written to: the one not in use (R499). -/
def LcsState.planCopy (l : LcsState) : Nat :=
  match pointerNow l.planPtr with
  | some p => 1 - p.slot
  | none => 0

/-- The region an image belongs in, by its class and target slot (R499, R500). -/
def LcsState.imageRegion (l : LcsState) (cls target : Nat) : Nat :=
  if cls == 1 then 2 * target else if cls == 2 then 2 * target + 1 else if cls == 3 then 5 + l.planCopy else 7

/-- The region that a package's payload is downloaded to: a delta goes to the staging area. -/
def LcsState.loadRegion (l : LcsState) (m : List Byte) (target : Nat) : Nat :=
  if mfForm m == 1 then 4 else l.imageRegion (mfClass m) target

/-- Bytes of a region; the settings store's package has none stated (R500). -/
def LcsState.regionSize (l : LcsState) (n : Nat) : Option Nat :=
  if n == 0 || n == 2 then some 0x800000
  else if n == 1 || n == 3 then some 0x100000
  else if n == 4 then some (if l.big then 0xE00000 else 0x400000)
  else if n == 5 || n == 6 then some (if l.big then 0x800000 else 0x500000)
  else none

/-- Blocks of a payload. -/
def blocksOf (len : Nat) : Nat := ceilDiv len 1024
/-- A length that a region can take. -/
def fitsIn (len : Nat) : Option Nat → Bool
  | some n => len ≤ n
  | none => true

/-- The payload or image as stored: the first `len` bytes of the blocks in order. -/
def Region.bytes (r : Region) (len : Nat) : List Byte := (r.blocks.flatMap (·.2)).take len

/-- A byte string as numbered blocks. -/
def toBlocks : Nat → Nat → List Byte → Tab (List Byte)
  | 0, _, _ => []
  | f + 1, k, l => if l.isEmpty then [] else (k, l.take 1024) :: toBlocks f (k + 1) (l.drop 1024)

/-! ### The UPD registers (R505, R516) -/

/-- Downloads are accepted in this mode. -/
def State.updOn (s : State) : Bool := s.mode.mode == .maintenance || s.mode.mode == .safe

/-- UPD_STATUS. -/
def State.updStatusWord (s : State) : Word32 :=
  let l := s.lcs
  pack [(24, s.fld Reg.updStatus 24 8), (16, l.stage), (9, bit l.boot.trial), (8, if l.stage == 0 then 0 else l.target),
        (7, bit l.session.isSome), (6, bit s.updOn), (5, bit l.link), (0, if l.stage == 0 then 0 else mfClass l.manifest)]

/-- UPD_BLOCKS. -/
def State.updBlocksWord (s : State) : Word32 :=
  let l := s.lcs
  if l.stage == 0 then 0
  else pack [(16, (l.region (l.loadRegion l.manifest l.target)).blocks.length), (0, blocksOf (mfLen l.manifest))]

/-- UPD_SINFO of a region: VALID when verified and its SVN accepted. -/
def State.sinfo (s : State) (k : Nat) : Word32 :=
  let r := s.lcs.region k
  let svn := mfSvn r.manifest
  pack [(31, bit (r.verified && s.lcs.counter (k % 2) ≤ svn)), (24, svn % 64), (0, mfIf r.manifest)]

/-- A UPD register, by its offset in the block. -/
def State.updWord (s : State) (o : Nat) : Word32 :=
  let b := s.lcs.boot
  if o == 0 then s.updStatusWord
  else if o == 4 then s.updBlocksWord
  else if o == 8 then pack [(31, bit b.trial), (24, b.tries), (16, b.confirmed), (0, b.slot)]
  else if o == 0xC then b.seq
  else if 0x10 ≤ o && o < 0x30 then
    if o % 8 == 0 then w32 (mfVersion (s.lcs.region ((o - 0x10) / 8)).manifest) else s.sinfo ((o - 0x10) / 8)
  else s.rd (0x1500000 + o)

/-- An LCS register, by its offset in the block (R492, R494, R497, R503). -/
def State.lcsWord (s : State) (o : Nat) : Word32 :=
  let l := s.lcs
  let mask := fun (t : Tab (List Byte)) => sumOf ((List.range 4).map (fun k => if (t.find? k).isSome then 2 ^ k else 0))
  if o == 0 then
    pack [(9, bit l.erased), (8, bit (l.state == 1 || ((l.state == 2 || l.state == 4) && l.intDbg))),
          (7, bit (l.state == 1 || l.state == 2 || l.state == 4)), (0, l.state)]
  else if o == 0xC then pack [(8, min 63 (l.counter 1)), (0, min 63 (l.counter 0))]
  else if o == 0x10 then pack [(8, mask l.slots), (4, mask l.owner), (0, mask l.roots)]
  else if o == 0x14 then l.kseq
  else s.rd (0x1400000 + o)

/-- The device's serial number (R495, R498). -/
def State.serial (s : State) : Nat := s.rd64 Reg.lcsSerialLo

/-! ### Answers (R504, R516) -/

/-- TYPE of a request. -/
def updType : UpdKind → Nat
  | .open_ => 1 | .status => 2 | .begin_ => 3 | .block => 4 | .bitmap => 5 | .verify => 6 | .activate => 7
  | .confirm => 8 | .revert => 9 | .abort => 0xA | .reset => 0xB | .lcs => 0xC | .close => 0xD

/-- Bytes 0 to 23 of a protocol frame. -/
def updHead (ver ty len : Nat) (session seq arg0 arg1 : Word32) (status : Nat) : List Byte :=
  [b8 ver, b8 ty] ++ beBytes 2 len ++ beBytes 4 session.toNat ++ beBytes 4 seq.toNat ++ beBytes 4 arg0.toNat ++
    beBytes 4 arg1.toNat ++ [b8 status, 0, 0, 0]

/-- The length of a request's frame (R265), and its payload as the service port keeps it: the first 1,518 bytes (R285). -/
def updLen (r : UpdReq) : Nat := 14 + 32 + r.payload.length + 4
/-- The payload of a frame truncated to 1,518 bytes. -/
def updKept (r : UpdReq) : List Byte := if updLen r > 1518 then r.payload.take 1472 else r.payload

/-- A request's CRC is right (R504). -/
def updCrcOk (r : UpdReq) (k : UpdKind) : Bool :=
  r.crc.toNat == crc32 (updHead r.ver.toNat (updType k) r.payload.length r.session r.seq r.arg0 r.arg1 0 ++ updKept r)

/-- A request answered: the response frame to its source, and the code in UPD_STATUS. -/
def State.updAnswer (s : State) (k : UpdKind) (r : UpdReq) (code : Nat) (arg0 : Word32 := 0) (payload : List Byte := []) :
    State :=
  let h := updHead 1 (updType k + 0x80) payload.length r.session r.seq arg0 0 code
  let f := beBytes 6 r.src.toNat ++ beBytes 6 s.lcs.mac.toNat ++ beBytes 2 0x88B6 ++ h ++
    beBytes 4 (crc32 (h ++ payload)) ++ [0, 0, 0, 0] ++ payload
  ((s.emit (.service (f ++ List.replicate (60 - f.length) 0))).bump (Reg.updSpcnt 1)).setErr Reg.updStatus code

/-- A storage failure answered; one of the settings store is also recorded (R516). -/
def State.updStoreFails (s : State) (k : UpdKind) (r : UpdReq) (io : StoreOut) : State :=
  match io with
  | .store => (s.updAnswer k r 0x11).report { block := 21, code := 0x11, sev := 1 }
  | _ => s.updAnswer k r 0x10

/-! ### BEGIN and BLOCK (R507) -/

/-- Reserved bytes of a manifest are 0. -/
def mfReserved (m : List Byte) : Bool :=
  beAt m 6 2 == 0 && beAt m 0xE 2 == 0 && beAt m 0x26 2 == 0 && (slice m 0xD6 202).all (· == 0)

/-- A Solesk signature is valid: the key that travels with the image has the hash fused, and verifies (R497, R501). -/
def rootSignature (hash msg : List Byte) (r s : Nat) : Bool :=
  let k := Config.rootKey hash
  beBytes 48 (sha384 k) == hash && ecdsaP384 k msg r s

/-- The manifest's signature is valid with a key that the class and the life-cycle state accept (R494, R498, R499). -/
def LcsState.signatureOk (l : LcsState) (m : List Byte) : Bool :=
  let msg := m.take 0x1A0
  let r := beAt m 0x1A0 48
  let t := beAt m 0x1D0 48
  let ty := byteAt m 0x24
  let ix := byteAt m 0x25
  let owner := ty == 2 && match l.owner.find? ix with | some k => ecdsaP384 k msg r t | none => false
  if mfClass m ≤ 2 then
    ty == 1 && l.state != 5 && match l.roots.find? ix with
      | some h => (l.state == 1 || l.state == 4 || !Config.rootIsTest h) && rootSignature h msg r t
      | none => false
  else if mfClass m == 3 then (if l.owner.isEmpty then ty == 0 || owner else owner)
  else owner || (ty == 0 && l.owner.isEmpty && l.state == 2)

/-- The image carries a Solesk test signature. -/
def LcsState.isTest (l : LcsState) (m : List Byte) : Bool :=
  mfClass m ≤ 2 && match l.roots.find? (byteAt m 0x25) with | some h => Config.rootIsTest h | none => false

/-- The target slot is not permitted (R507, check 1). -/
def State.targetBarred (s : State) (cls target : Nat) : Bool :=
  let l := s.lcs
  l.boot.trial ||
    (cls ≤ 2 && (target > 1 || target == l.running || (s.mode.mode != .safe && target == l.boot.confirmed)))

/-- The checks of BEGIN, in order; 0 when it passes (R507). -/
def State.beginCheck (s : State) (resume : Bool) (target : Nat) (m : List Byte) : Nat :=
  let l := s.lcs
  let cls := mfClass m
  let full := cls == 3 || cls == 4
  if s.targetBarred cls target then 0x0D
  else if m.length != 512 || beAt m 0 4 != 0x5658494D || cls == 0 || cls > 4 || mfForm m > 1 || (full && mfForm m == 1) ||
      !mfReserved m || mfSvn m > 63 then 0x06
  else if mfLen m == 0 then 0x15
  else if !fitsIn (mfLen m) (l.regionSize (l.loadRegion m target)) || !fitsIn (mfImgLen m) (l.regionSize (l.imageRegion cls target)) ||
      (mfForm m == 0 && mfImgLen m != mfLen m) || mfImgLen m == 0 then 0x06
  else if !l.signatureOk m then 0x07
  else if cls ≤ 2 && mfSvn m < l.counter (cls - 1) then 0x08
  else if cls == 4 && mfVersion m ≤ l.kseq.toNat then 0x08
  else if resume && (l.stage == 0 || m != l.manifest || (cls ≤ 2 && target != l.target)) then 0x14
  else 0

/-- A BEGIN that passes: the download starts anew or resumes. -/
def LcsState.begin_ (l : LcsState) (resume : Bool) (target : Nat) (m : List Byte) : LcsState :=
  let n := l.loadRegion m target
  let all := blocksOf (mfLen m)
  if resume then { l with stage := if (l.region n).blocks.length == all then 2 else 1 }
  else { l.setRegion n { manifest := m, test := l.isTest m } with stage := 1, manifest := m, target := if mfClass m ≤ 2 then target else 0 }

/-- BEGIN. -/
def State.updBegin (s : State) (r : UpdReq) : State :=
  let resume := r.arg0 == 1
  let target := r.arg1.toNat
  if r.arg0.toNat > 1 then s.updAnswer .begin_ r 0x06
  else
    let code := s.beginCheck resume target r.payload
    if code != 0 then s.updAnswer .begin_ r code
    else if r.io != .ok then
      -- an erase that fails leaves the region without a valid image
      let n := s.lcs.loadRegion r.payload target
      let s := if resume || r.io == .store then s else s.lc (fun l => l.setRegion n { l.region n with verified := false })
      s.updStoreFails .begin_ r r.io
    else (s.lc (fun l => l.begin_ resume target r.payload)).updAnswer .begin_ r 0

/-- Bytes of block `i` of the package. -/
def LcsState.blockLen (l : LcsState) (i : Nat) : Nat := min 1024 (mfLen l.manifest - 1024 * i)

/-- BLOCK: checked, and programmed unless it is marked already. -/
def State.updBlock (s : State) (r : UpdReq) : State :=
  let l := s.lcs
  let i := r.arg0.toNat
  if r.payload.isEmpty then s.updAnswer .block r 0x15
  else if i ≥ blocksOf (mfLen l.manifest) || r.payload.length != l.blockLen i then s.updAnswer .block r 0x0C
  else if ((l.region (l.loadRegion l.manifest l.target)).blocks.find? i).isSome then s.updAnswer .block r 0
  else s.lc (fun l => { l with prog := some r })

/-- The block in hand has been programmed and read back: it is marked; the last one completes the download. -/
def LcsState.mark (l : LcsState) (r : UpdReq) : LcsState :=
  let n := l.loadRegion l.manifest l.target
  let g := l.region n
  let g := { g with blocks := g.blocks.set r.arg0.toNat r.payload }
  { l.setRegion n g with stage := if g.blocks.length == blocksOf (mfLen l.manifest) then 2 else l.stage }

/-- BITMAP: 1,024 bytes of the bitmap, least significant bit first. -/
def State.updBitmap (s : State) (r : UpdReq) : State :=
  let l := s.lcs
  let g := l.region (l.loadRegion l.manifest l.target)
  let first := r.arg0.toNat
  if first % 8192 != 0 then s.updAnswer .bitmap r 0x0C
  else
    let mine := (g.blocks.map (·.1)).filter (fun k => first ≤ k && k < first + 8192)
    let byteOf := fun i => b8 (sumOf ((mine.filter (fun k => (k - first) / 8 == i)).map (fun k => 2 ^ ((k - first) % 8))))
    s.updAnswer .bitmap r 0 0 ((List.range 1024).map byteOf)

/-! ### Verification (R502, R503, R508) -/

/-- The image a delta makes of its base; none where a command breaks a rule (R502). -/
def applyDelta (base : List Byte) : Nat → List Byte → List Byte → Option (List Byte)
  | 0, _, _ => none
  | f + 1, d, out =>
    if d.isEmpty then some out
    else
      let op := byteAt d 0
      let len := beAt d 4 4
      if d.length < 8 || len == 0 then none
      else if op == 1 then
        let src := beAt d 8 4
        if d.length < 12 || src + len > base.length then none
        else applyDelta base f (d.drop 12) (out ++ slice base src len)
      else if op == 2 then
        if d.length < 8 + len then none else applyDelta base f (d.drop (8 + len)) (out ++ slice d 8 len)
      else none

/-- The payload of the package as stored. -/
def LcsState.payload (l : LcsState) : List Byte := (l.region (l.loadRegion l.manifest l.target)).bytes (mfLen l.manifest)
/-- The payload is the one that was sent (R508, check 1). -/
def LcsState.payloadOk (l : LcsState) : Bool := sha384 l.payload == beAt l.manifest 0x44 48

/-- The image in the running slot that a delta is made against, when it has BASE_HASH (R508, check 2). -/
def LcsState.deltaBase (l : LcsState) : Option (List Byte) :=
  let g := l.region (l.imageRegion (mfClass l.manifest) l.running)
  let base := g.bytes (mfImgLen g.manifest)
  if l.running ≤ 1 && sha384 base == beAt l.manifest 0x74 48 then some base else none

/-- The image the package yields, or the code of the failure (R508, checks 1 to 3). -/
def LcsState.builtImage (l : LcsState) : Except Nat (List Byte) :=
  let m := l.manifest
  let pay := l.payload
  if !l.payloadOk then .error 0x09
  else if mfForm m == 0 then (if sha384 pay != beAt m 0xA4 48 then .error 0x09 else .ok pay)
  else match l.deltaBase.bind (fun base => applyDelta base (pay.length + 1) pay []) with
    | none => .error 0x0B
    | some img =>
      if img.length != mfImgLen m then .error 0x0B
      else if sha384 img != beAt m 0xA4 48 then .error 0x09
      else .ok img

/-- The package's SVN lies below the counter of its class (R503). -/
def LcsState.svnLow (l : LcsState) : Bool := mfClass l.manifest ≤ 2 && mfSvn l.manifest < l.counter (mfClass l.manifest - 1)

/-- Verification has begun to write the image of a delta into the target region (R508, check 2). -/
def LcsState.rebuilds (l : LcsState) : Bool := mfForm l.manifest == 1 && !l.svnLow && l.payloadOk && l.deltaBase.isSome

/-- VERIFY's result: the image, or the first failure's code (R508). -/
def State.verifyResult (s : State) : Except Nat (List Byte) :=
  let l := s.lcs
  let m := l.manifest
  let cls := mfClass m
  if l.svnLow then .error 0x08
  else match l.builtImage with
    | .error e => .error e
    | .ok img =>
      if cls ≤ 2 then
        match gcmOpen l.imageKey (slice m 0x28 12) (m.take 0x28) img (slice m 0x34 16) with
        | some _ => .ok img
        | none => .error 0x0A
      else if cls == 3 then
        match planSteps1to5 s.planKeys none img img.length with
        | .ok _ => .ok img
        | .error _ => .error 0x06
      else .ok img

/-- A verified package: its region holds the image, and a slot's CF returns to 0 (R468, R508). -/
def LcsState.verified (l : LcsState) (img : List Byte) : LcsState :=
  let m := l.manifest
  let n := l.imageRegion (mfClass m) l.target
  let g : Region := { manifest := m, blocks := toBlocks (blocksOf img.length) 0 img, verified := true, test := l.isTest m }
  let l := { l.setRegion n g with stage := 4 }
  if mfClass m ≤ 2 then { l with cf := l.cf.set l.target 0 } else l

/-- A failed verification: the stage returns to DOWNLOADED, and a target region that holds a delta's image, or a part of it,
is no valid image any more. -/
def LcsState.unverified (l : LcsState) : LcsState :=
  let n := l.imageRegion (mfClass l.manifest) l.target
  let l := if l.rebuilds then l.setRegion n { l.region n with verified := false } else l
  { l with stage := 2 }

/-- UPD_VERIFY_DONE: verification ends with VERIFIED, or with its code in DOWNLOADED. -/
def execUpdVerifyDone (s : State) : Host.Outcome State Fault Refusal :=
  let s := s.begin
  .next (if s.lcs.stage != 3 then s
    else match s.verifyResult with
      | .ok img => (s.lc (fun l => l.verified img)).setErr Reg.updStatus 0
      | .error e => (s.lc LcsState.unverified).setErr Reg.updStatus e)

/-! ### KEYS operations (R498) -/

/-- The keys that a KEYS package changes. -/
structure KeySet where
  owner : Tab (List Byte)
  slots : Tab (List Byte)
  require : Bool
  /-- REQUIRE has been set in the package -/
  asked : Bool := false
deriving DecidableEq, Repr

/-- One operation record: the keys after it, or the code of its failure. -/
def keyOp (state serial : Nat) (k : KeySet) (op ix wrap : Nat) (d : List Byte) : Except Nat KeySet :=
  if ix > 3 || wrap > 3 then .error 0x06
  else if op == 1 then (if d.length == 96 then .ok { k with owner := k.owner.set ix d } else .error 0x06)
  else if op == 2 then (if d.isEmpty then .ok { k with owner := k.owner.drop (· == ix) } else .error 0x06)
  else if op == 3 then (if d.isEmpty then .ok { k with require := true, asked := true } else .error 0x06)
  else if op == 4 then (if d.isEmpty then .ok { k with require := false } else .error 0x06)
  else if op == 5 then
    (if d.length == 32 && state == 2 then .ok { k with slots := k.slots.set ix d } else .error 0x06)
  else if op == 6 then
    if d.length != 60 then .error 0x06
    else match k.slots.find? wrap with
      | none => .error 0x07
      | some w =>
        match gcmOpen w (d.take 12) (beBytes 8 serial) (slice d 12 32) (slice d 44 16) with
        | some key => .ok { k with slots := k.slots.set ix key }
        | none => .error 0x0A
  else if op == 7 then (if d.isEmpty then .ok { k with slots := k.slots.drop (· == ix) } else .error 0x06)
  else .error 0x06

/-- A sequence of operation records: all of it, or none. -/
def keyOps (state serial : Nat) : Nat → KeySet → List Byte → Except Nat KeySet
  | 0, _, _ => .error 0x06
  | f + 1, k, d =>
    if d.isEmpty then (if k.asked && k.require && k.owner.isEmpty then .error 0x06 else .ok k)
    else
      let len := beAt d 4 4
      if d.length < 8 + len then .error 0x06
      else match keyOp state serial k (byteAt d 0) (byteAt d 1) (byteAt d 2) (slice d 8 len) with
        | .error e => .error e
        | .ok k => keyOps state serial f k (d.drop (8 + len))

/-! ### ACTIVATE, CONFIRM, REVERT, ABORT (R505, R509, R510) -/

/-- The package is over: stage IDLE. -/
def LcsState.idle (l : LcsState) : LcsState := { l with stage := 0, manifest := [], target := 0 }

/-- ACTIVATE, by class. -/
def State.updActivate (s : State) (r : UpdReq) : State :=
  let l := s.lcs
  let cls := mfClass l.manifest
  if cls ≤ 2 then
    if !(l.region (2 * l.target)).verified || !(l.region (2 * l.target + 1)).verified then s.updAnswer .activate r 0x0E
    else if r.io != .ok then s.updStoreFails .activate r .store
    else (s.lc (fun l => (l.setBoot { slot := l.target, trial := true, confirmed := l.running }).idle)).updAnswer .activate r 0
  else if r.io != .ok then s.updStoreFails .activate r .store
  else if cls == 3 then
    (s.lc (fun l => { l with planPtr := pointerWrite l.planPtr { slot := l.planCopy } }.idle)).updAnswer .activate r 0
  else
    let d := (l.region 7).bytes (mfLen l.manifest)
    match keyOps l.state s.serial (d.length + 1) { owner := l.owner, slots := l.slots, require := l.require } d with
    | .error e => s.updAnswer .activate r e
    | .ok k =>
      (s.lc (fun l => { l with owner := k.owner, slots := k.slots, require := k.require,
                               kseq := w32 (mfVersion l.manifest) }.idle)).updAnswer .activate r 0

/-- The fuse counters raised to the SVNs of a slot's images (R503). -/
def LcsState.raiseSvn (l : LcsState) (slot : Nat) : LcsState :=
  let svn := fun k => max (mfSvn (l.region (2 * slot + k)).manifest) (l.counter k)
  { l with svn := (l.svn.set 0 (svn 0)).set 1 (svn 1) }

/-- CONFIRM: only while the trial slot runs with every version in agreement (R510). -/
def State.updConfirm (s : State) (r : UpdReq) : State :=
  let p := s.lcs.boot
  if !p.trial || p.slot != s.lcs.running || !s.versionsAgree then s.updAnswer .confirm r 0x0F
  else if r.io != .ok then s.updStoreFails .confirm r .store
  else (s.lc (fun l => (l.setBoot { slot := p.slot, confirmed := p.slot }).raiseSvn p.slot)).updAnswer .confirm r 0

/-- REVERT: the pointer names the confirmed slot from the next start on (R510). -/
def State.updRevert (s : State) (r : UpdReq) : State :=
  let p := s.lcs.boot
  if !p.trial then s.updAnswer .revert r 0x05
  else if r.io != .ok then s.updStoreFails .revert r .store
  else (s.lc (fun l => l.setBoot { slot := p.confirmed, confirmed := p.confirmed })).updAnswer .revert r 0

/-- ABORT: the bitmap is discarded and the target region reads as invalid. -/
def State.updAbort (s : State) (r : UpdReq) : State :=
  if r.io != .ok then s.updStoreFails .abort r .store
  else
    (s.lc (fun l =>
      let n := l.loadRegion l.manifest l.target
      let t := l.imageRegion (mfClass l.manifest) l.target
      let l := l.setRegion t { l.region t with verified := false }
      (l.setRegion n { l.region n with blocks := [], verified := false }).idle)).updAnswer .abort r 0

/-! ### Life-cycle transitions (R493, R495) -/

/-- Which signatures a transition needs: Solesk's, the owner's; none where R493 has no such transition. -/
def LcsState.transition (l : LcsState) (target : Nat) : Option (Bool × Bool) :=
  let owner := !l.owner.isEmpty
  if l.state == 1 && target == 2 then some (true, false)
  else if l.state == 2 && target == 3 then some (false, owner)
  else if (l.state == 2 || l.state == 3) && target == 4 then some (true, owner)
  else if l.state == 4 && target == 5 then some (false, false)
  else none

/-- The check of a life-cycle token: 0, or the code of its refusal. -/
def State.tokenCheck (s : State) (t : List Byte) : Nat :=
  let l := s.lcs
  let msg := t.take 16
  if t.length != 208 || beAt t 0 4 != 0x56584C43 || beAt t 8 8 != s.serial then 0x13
  else match l.transition (byteAt t 4) with
    | none => 0x12
    | some (solesk, owner) =>
      let a := !solesk || match l.roots.find? (byteAt t 5) with
        | some h => rootSignature h msg (beAt t 0x10 48) (beAt t 0x40 48)
        | none => false
      let b := !owner || match l.owner.find? (byteAt t 6) with
        | some k => ecdsaP384 k msg (beAt t 0x70 48) (beAt t 0xA0 48)
        | none => false
      if a && b then 0 else 0x13

/-- LCS: an accepted transition blows its fuses and resets the device with cause 0x04. -/
def State.updLcs (s : State) (r : UpdReq) : State :=
  let code := s.tokenCheck r.payload
  if code != 0 then s.updAnswer .lcs r code
  else ((s.lc (fun l => { l with fused := byteAt r.payload 4 })).updAnswer .lcs r 0).restart 0x04 false

/-! ### The protocol (R504 to R506) -/

/-- The modes that accept a request (R34, R505). -/
def Mode.takes (m : Mode) (k : UpdKind) : Bool :=
  match m with
  | .maintenance | .safe => true
  | .standby | .active => k == .open_ || k == .status || k == .confirm || k == .revert || k == .close
  | .boot => k == .status
  | .reset => false

/-- The stages that accept a request (R505). -/
def stageTakes (stage : Nat) (k : UpdKind) : Bool :=
  match k with
  | .begin_ => stage != 3
  | .block | .bitmap => stage == 1
  | .verify => stage == 2
  | .activate => stage == 4
  | .confirm | .revert | .lcs => stage == 0
  | .abort => stage == 1 || stage == 2 || stage == 4
  | .open_ | .status | .reset | .close => true

/-- The effect of a request that its mode and stage accept. -/
def State.updDo (s : State) (k : UpdKind) (r : UpdReq) : State :=
  match k with
  | .open_ =>
    let (n, s) := s.draw
    let id := Config.sessionId n
    (s.lc (fun l => { l with session := some { id := id, mac := r.src, last := s.now } })).updAnswer .open_ r 0 id
  | .status =>
    s.updAnswer .status r 0 0 (wordsToBytes ((List.range 16).map (fun i => s.updWord (4 * i))))
  | .begin_ => s.updBegin r
  | .block => s.updBlock r
  | .bitmap => s.updBitmap r
  | .verify => (s.lc (fun l => { l with stage := 3 })).updAnswer .verify r 0
  | .activate => s.updActivate r
  | .confirm => s.updConfirm r
  | .revert => s.updRevert r
  | .abort => s.updAbort r
  | .reset => (s.updAnswer .reset r 0).restart 0x04 false
  | .lcs => s.updLcs r
  | .close => (s.lc (fun l => { l with session := none })).updAnswer .close r 0

/-- A request refused for its session: another one is open, or it is not of this one (R506). Where the service port answers
STATUS only there is no session. -/
def State.sessionCode (s : State) (k : UpdKind) (r : UpdReq) : Nat :=
  if s.mode.mode == .boot then 0
  else match s.lcs.session with
    | some x => if k == .open_ then 0x01 else if x.id == r.session && x.mac == r.src then 0 else 0x02
    | none => if k == .open_ then 0 else 0x02

/-- A request in its turn: session, mode, stage, effect. -/
def State.updServe (s : State) (k : UpdKind) (r : UpdReq) : State :=
  let code := s.sessionCode k r
  if code != 0 then s.updAnswer k r code
  else
    let s := s.lc (fun l => { l with session := l.session.map (fun x => { x with last := s.now }) })
    if !s.mode.mode.takes k then s.updAnswer k r 0x04
    else if !stageTakes s.lcs.stage k then s.updAnswer k r 0x05
    else s.updDo k r

/-- A request frame that the service port has accepted (R504, R506): it is discarded, waits behind the block being
programmed, or is served. -/
def State.updFrame (s : State) (k : UpdKind) (r : UpdReq) : State :=
  let all := BitVec.ofNat 48 0xFFFFFFFFFFFF
  if r.dst != s.lcs.mac && !(k == .open_ && r.dst == all) then s
  else if r.ver != 1 || !updCrcOk r k then s.bump (Reg.updSpcnt 3)
  else if s.lcs.state == 5 && k != .status then s
  else if s.lcs.prog.isNone then s.updServe k r
  else if s.lcs.waiting.length ≥ 15 then s
  else s.lc (fun l => { l with waiting := l.waiting ++ [(k, r)] })

/-- A request frame arrives on the service port. -/
def State.updRequest (s : State) (k : UpdKind) (r : UpdReq) : State :=
  if !s.lcs.link || s.mode.mode == .reset then s
  else
    let s := s.bump (Reg.updSpcnt 0)
    if !r.good && updLen r ≤ 1518 then s.bump (Reg.updSpcnt 2) else s.updFrame k r

/-- The request type of a TYPE byte (R505). -/
def updKindOf (ty : Nat) : Option UpdKind :=
  [(1, UpdKind.open_), (2, .status), (3, .begin_), (4, .block), (5, .bitmap), (6, .verify), (7, .activate), (8, .confirm),
   (9, .revert), (10, .abort), (11, .reset), (12, .lcs), (13, .close)].lookup ty

/-- The request that an untagged frame of EtherType 0x88B6 holds. -/
def updParse (f : List Byte) : UpdReq :=
  let m := f.drop 14
  { dst := BitVec.ofNat 48 (beAt f 0 6), src := BitVec.ofNat 48 (beAt f 6 6), good := true, ver := b8 (byteAt m 0),
    session := w32 (beAt m 4 4), seq := w32 (beAt m 8 4), arg0 := w32 (beAt m 12 4), arg1 := w32 (beAt m 16 4),
    crc := w32 (beAt m 24 4), payload := (m.drop 32).take (beAt m 2 2), io := .ok }

/-- The service port receives a frame, from its destination MAC to the last byte of its FCS (R265, R266, R285). A request
that lacks bytes of its PAY_LEN has a wrong CRC; flash and settings store answer without failure. -/
def State.serviceReceive (s : State) (bytes : List Byte) (rx : RxMeta) : State :=
  if !s.lcs.link || s.mode.mode == .reset || rx.kind != .frame then s
  else
    let s := s.bump (Reg.updSpcnt 0)
    let data := bytes.take 1518
    let long := bytes.length > 1518
    if bytes.length ≤ 63 || !rx.pcsOk || (!long && !rx.fcsOk) || etherType data == 0x8808 then s.bump (Reg.updSpcnt 2)
    else if beAt data 12 2 != 0x88B6 then s
    else
      let f := if long then data else data.take (data.length - 4)
      let r := updParse f
      let ours := r.dst == s.lcs.mac || r.dst == BitVec.ofNat 48 0xFFFFFFFFFFFF
      match updKindOf (byteAt f 15) with
      | some k => if r.payload.length == beAt f 16 2 then s.updFrame k r else if ours then s.bump (Reg.updSpcnt 3) else s
      | none => if ours then s.bump (Reg.updSpcnt 3) else s

/-- PORT_RX_FRAME: a port receives a frame, which is counted and discarded or goes to its first consumer (R265 to R268);
port 64 is the service port (R285). -/
def execPortRxFrame (port : Fin 65) (bytes : List Byte) (rx : RxMeta) (s : State) : Host.Outcome State Fault Refusal :=
  .next (if port.val == 64 then s.begin.serviceReceive bytes rx else s.begin.portReceive (Fin.ofNat 64 port.val) bytes rx)

/-- The requests that waited are served, up to the next block that is to be programmed. -/
def State.updDrain : Nat → State → State
  | 0, s => s
  | n + 1, s =>
    match s.lcs.prog, s.lcs.waiting with
    | none, (k, r) :: t => State.updDrain n ((s.lc (fun l => { l with waiting := t })).updServe k r)
    | _, _ => s

/-- UPD_OPEN: an OPEN request. -/
def execUpdOpen (req : UpdReq) (s : State) : Host.Outcome State Fault Refusal := .next (s.begin.updRequest .open_ req)
/-- UPD_STATUS: a STATUS request. -/
def execUpdStatus (req : UpdReq) (s : State) : Host.Outcome State Fault Refusal := .next (s.begin.updRequest .status req)
/-- UPD_BEGIN: a BEGIN request. -/
def execUpdBegin (req : UpdReq) (s : State) : Host.Outcome State Fault Refusal := .next (s.begin.updRequest .begin_ req)
/-- UPD_BLOCK: a BLOCK request. -/
def execUpdBlock (req : UpdReq) (s : State) : Host.Outcome State Fault Refusal := .next (s.begin.updRequest .block req)
/-- UPD_BITMAP: a BITMAP request. -/
def execUpdBitmap (req : UpdReq) (s : State) : Host.Outcome State Fault Refusal := .next (s.begin.updRequest .bitmap req)
/-- UPD_VERIFY: a VERIFY request. -/
def execUpdVerify (req : UpdReq) (s : State) : Host.Outcome State Fault Refusal := .next (s.begin.updRequest .verify req)
/-- UPD_ACTIVATE: an ACTIVATE request. -/
def execUpdActivate (req : UpdReq) (s : State) : Host.Outcome State Fault Refusal := .next (s.begin.updRequest .activate req)
/-- UPD_CONFIRM: a CONFIRM request. -/
def execUpdConfirm (req : UpdReq) (s : State) : Host.Outcome State Fault Refusal := .next (s.begin.updRequest .confirm req)
/-- UPD_REVERT: a REVERT request. -/
def execUpdRevert (req : UpdReq) (s : State) : Host.Outcome State Fault Refusal := .next (s.begin.updRequest .revert req)
/-- UPD_ABORT: an ABORT request. -/
def execUpdAbort (req : UpdReq) (s : State) : Host.Outcome State Fault Refusal := .next (s.begin.updRequest .abort req)
/-- UPD_RESET: a RESET request. -/
def execUpdReset (req : UpdReq) (s : State) : Host.Outcome State Fault Refusal := .next (s.begin.updRequest .reset req)
/-- UPD_LCS: an LCS request. -/
def execUpdLcs (req : UpdReq) (s : State) : Host.Outcome State Fault Refusal := .next (s.begin.updRequest .lcs req)
/-- UPD_CLOSE: a CLOSE request. -/
def execUpdClose (req : UpdReq) (s : State) : Host.Outcome State Fault Refusal := .next (s.begin.updRequest .close req)

/-- UPD_BLOCK_PROGRAMMED: the block in hand is programmed, read back and marked, or has failed; its request is answered, and
the requests behind it are served (R506, R507). -/
def execUpdBlockProgrammed (io : StoreOut) (s : State) : Host.Outcome State Fault Refusal :=
  let s := s.begin
  .next (match s.lcs.prog with
    | none => s
    | some r =>
      let s := s.lc (fun l => { l with prog := none })
      let s := if io == .ok then (s.lc (fun l => l.mark r)).updAnswer .block r 0 else s.updStoreFails .block r io
      State.updDrain 16 s)

/-- UPD_SESSION_TIMEOUT: 60 s pass without a valid request (R506). -/
def execUpdSessionTimeout (s : State) : Host.Outcome State Fault Refusal :=
  let s := s.begin
  .next (match s.lcs.session with
    | none => s
    | some x => (s.at_ (x.last + msRoot 60000)).lc (fun l => { l with session := none }))

end Sys2Proof.Machine
end

