-- ==== Sys2Proof/Machine/Start.lean ====
section
/-! DEFINITION. The start (R35, R464 to R470, R496, R510, R513, R554): slot selection, the steps of Boot, the resident Town
Plan, and BOOT_DONE. -/

namespace Sys2Proof.Machine

/-! ### Slot selection and trials (R467, R510) -/

/-- The other slot. -/
def otherSlot (k : Nat) : Nat := 1 - k

/-- Failed starts of a slot. -/
def LcsState.fails (l : LcsState) (k : Nat) : Nat := l.cf.get 0 k
/-- The count of a slot set. -/
def LcsState.setFails (l : LcsState) (k n : Nat) : LcsState := { l with cf := l.cf.set k n }

/-- The image of a slot passes its check: both regions verified, SVNs accepted, signatures accepted in the life-cycle state
(R494, R503). -/
def LcsState.slotGood (l : LcsState) (k : Nat) : Bool :=
  l.state != 5 && [0, 1].all (fun c =>
    let r := l.region (2 * k + c)
    r.verified && l.counter c ≤ mfSvn r.manifest && (!r.test || l.state == 1 || l.state == 4))

/-- The boot ROM's handling of a trial, before slot selection (R510). -/
def LcsState.trialStart (l : LcsState) : LcsState :=
  let p := l.boot
  if !p.trial then l
  else if p.tries == 3 then l.setBoot { slot := p.confirmed, confirmed := p.confirmed }
  else l.setBoot { p with tries := p.tries + 1 }

/-- The slot selected before step 5, with its count raised; none for Safe (R467). -/
def LcsState.select (l : LcsState) : Option Nat × LcsState :=
  let k := l.boot.slot
  let k := if l.fails k == 3 then otherSlot k else k
  if l.fails k == 3 then (none, l) else (some k, l.setFails k (l.fails k + 1))

/-- Step 11: the image of slot `k` is checked; a failing slot gives way to the other (R467). -/
def LcsState.loadSlot (l : LcsState) : Nat → Nat → Option Nat × LcsState
  | 0, _ => (none, l)
  | f + 1, k =>
    if l.slotGood k then (some k, l)
    else
      let l := l.setFails k 3
      let o := otherSlot k
      if l.fails o == 3 then (none, l) else LcsState.loadSlot (l.setFails o (l.fails o + 1)) f o

/-- A trial ends when another slot than its own starts (R510). -/
def LcsState.trialEnds (l : LcsState) (k : Nat) : LcsState :=
  let p := l.boot
  if p.trial && p.slot != k then l.setBoot { slot := p.confirmed, confirmed := p.confirmed } else l

/-! ### Erasure in RETURN (R496) -/

/-- The settings that erasure leaves: the manufacturing record, and what the hardware records of itself. -/
def keptSetting (k : Nat) : Bool :=
  k == Reg.lcsSerialLo || k == Reg.lcsSerialHi || k == Reg.lotSpare || k == Reg.ckgRststat ||
    (List.range 64).any (fun p => k == Reg.prtLatadj p || k == Reg.prtSerdes p)

/-- A start in RETURN completes the erasure before step 11. -/
def State.erase (s : State) : State :=
  let nv := s.nv.filter (fun e => keptSetting e.1)
  let gone := s.nv.filter (fun e => !keptSetting e.1)
  let s := { s with nv := nv, regs := s.regs.drop (fun k => gone.any (·.1 == k)),
                    met := { s.met with copies := [] }, cal := { s.cal with store := [], recs := [], seq := 0 } }
  s.lc (fun l => { l with owner := [], slots := [], require := false, kseq := 0, planPtr := [], erased := true,
                          flash := l.flash.drop (fun n => 4 ≤ n),
                          stage := if mfClass l.manifest ≤ 2 && mfForm l.manifest == 0 then l.stage else 0 })

/-! ### Interface versions (R513) -/

/-- The hardware interface version of stepping A1. -/
def hwVersion : Nat := 0x0100

/-- The first failure of the version checks: code, version found, range. -/
def mismatch (main kerb : List Byte) : Option (Nat × Nat × Nat) :=
  let bad := fun (v range : Nat) => v < range / 65536 || range % 65536 < v
  let a := beAt main 0x10 4
  let b := beAt main 0x14 4
  let c := beAt kerb 0x10 4
  if bad hwVersion a then some (1, hwVersion, a)
  else if bad (mfIf kerb) b then some (3, mfIf kerb, b)
  else if bad (mfIf main) c then some (2, mfIf main, c)
  else none

/-- Steps 14 and 15: the versions that run (R483: CSP_VER too), and a MISMATCH recorded. -/
def State.checkVersions (s : State) (k : Nat) : State :=
  let main := (s.lcs.region (2 * k)).manifest
  let kerb := (s.lcs.region (2 * k + 1)).manifest
  let s := s.wr Reg.updIfrun (pack [(16, mfIf main), (0, mfIf kerb)])
  let s := (s.setF Reg.cswVer 0 16 (beAt main 0xD4 2)).lc (fun l => { l with version := mfVersion main })
  match mismatch main kerb with
  | none => s
  | some (c, v, r) => (s.wr Reg.updMismatch (pack [(24, c), (0, v)])).wr Reg.updMmrange (w32 r)

/-! ### The resident Town Plan (R554) -/

/-- The resident plan, if the plan pointer names a copy that holds one. -/
def State.residentPlan (s : State) : Option (List Byte) :=
  match pointerNow s.lcs.planPtr with
  | none => none
  | some p =>
    let r := s.lcs.region (5 + p.slot)
    if r.verified then some (r.bytes (mfLen r.manifest)) else none

/-- From the first FAB cycle of Boot the house district holds the staging set. -/
def State.holdStaging (s : State) : State :=
  s.tp (fun t => { t with st := .opened, owner := some houseDist, houseHold := true })

/-- A resident plan that fails: its code, its location and a record of severity deferred. -/
def State.residentFails (s : State) (f : TplFail) : State :=
  ((s.tp (fun t => { t with st := .invalid, checked := none })).tplReport f).report { block := 1, code := f.code, sev := 1 }

/-- Step 16: the resident plan is read into the staging set, validated, and applied as a full apply of the house district. -/
def State.loadResident (s : State) : State :=
  match s.residentPlan with
  | none => s
  | some f =>
    let s := (s.writeCells (fun i => s.addrIn stagingHandles i) 0 f).wr Reg.tplLen (w32 f.length)
    let v := validate s.planKeys none f f.length
    let s := s.tplDemand v
    match v.res with
    | .error e => s.residentFails e
    | .ok c =>
      match s.applyFull houseDist c true with
      | some s => s
      | none => s.residentFails { key := 0, code := 0x22, off := 0 }

/-! ### RESET_RELEASE and the steps of Boot (R465) -/

/-- CKG_BOOTSTEP. -/
def State.step_ (s : State) (n : Nat) : State := s.wr Reg.ckgBootstep (w32 n)

/-- Safe is entered from Boot: both slots have failed (R467). -/
def State.enterSafe (s : State) : State :=
  let s := { s with host := [] }.lc (fun l => { l with running := 3 })
  s.tplRelease.nextCycleMode .safe 0x14

/-- Steps 11 to 16 for slot `k`. -/
def State.bootSlot (s : State) (k : Nat) : State :=
  let (r, l) := s.lcs.loadSlot 3 k
  match r with
  | none => ({ s with lcs := l }.step_ 11).enterSafe
  | some k =>
    let s := { s with lcs := { l.trialEnds k with running := k } }
    ((s.checkVersions k).loadResident).step_ 16

/-- The first FAB cycle of Boot: straps, clocks, the time bases (R289, R464). -/
def State.bootBegin (s : State) (maint failsafe sdr decl8D big : Bool) : State :=
  let s := s.wr Reg.ckgStrap (pack [(2, bit sdr), (1, bit failsafe), (0, bit maint)])
  let s := s.setF Reg.krbStatus 0 1 (bit failsafe)
  let s := ((s.setF Reg.ckgStatus 7 1 1).setF Reg.ckgStatus 6 1 (bit !s.ckg.osc)).setF Reg.ckgStatus 0 1 (bit s.ckg.cold)
  let s := s.ck (fun c => { c with bootAt := s.now, xspi8D := decl8D && !sdr })
  let s := { s with sch := { s.sch with base := s.now }, krb := { s.krb with start := s.now } }
  (s.lc (fun l => { l with state := l.fused, big := big })).ckgShow.holdStaging.step_ 4

/-- Steps 5 to 10, and in RETURN the erasure: the Kerb link, the settings store's copies. -/
def State.bootSettings (s : State) : State :=
  let s := if s.lcs.state == 4 then s.erase else s
  let s := (s.setF Reg.krbStatus 1 1 1).metBoot.calBoot
  (List.range 4).foldl (fun s k => s.ckoRun k) s

/-- The start from step 4 to step 16. -/
def State.boot (s : State) (maint failsafe sdr decl8D big : Bool) : State :=
  let s := (s.setMode .boot 0x06).bootBegin maint failsafe sdr decl8D big
  if s.lcs.state == 5 then s
  else
    let (r, l) := s.lcs.trialStart.select
    let s := { s with lcs := l }
    match r with
    | none => s.enterSafe
    | some k =>
      let s := s.lc (fun l => l.trialEnds k)
      s.bootSettings.bootSlot k

/-- RESET_RELEASE: supplies are valid, RESET_N is high, REFCLK is qualified and the root PLL is locked; the start runs to
step 16 (R35, R461, R465). A warm reset has lasted 10 µs. The operands are the straps as sampled, and what the SFDP table of
the boot flash declares: 8D-8D-8D operation, and 512 Mbit or more. -/
def execResetRelease (maint failsafe sdr decl8D big : Bool) (s : State) : Host.Outcome State Fault Refusal :=
  let s := s.begin
  .next (if s.mode.mode != .reset || !s.ckg.ok then s
    else
      let s := s.at_ (max s.ckg.heldUntil (if s.ckg.cold then 0 else s.ckg.resetAt + usRoot 10))
      s.boot maint failsafe sdr decl8D big)

/-! ### BOOT_DONE (R35, R465, R467, R469) -/

/-- The resident plan that waits asks for an automatic start, or arms a twin (R35, R37, R472). -/
def State.autoStart (s : State) : State :=
  match s.tpl.pend with
  | some p =>
    if !p.resident || p.chk.plan.sys.start != 1 then s
    else if p.chk.plan.cw.isSome then s.setArmed true
    else if s.mode.mode == .standby then s.trigger .active 0x21
    else s
  | none => s

/-- BOOT_DONE: the slot's count returns to 0, the watchdog is armed, and the device goes to Standby or Maintenance. -/
def execBootDone (s : State) : Host.Outcome State Fault Refusal :=
  let s := s.begin
  .next (if s.mode.mode != .boot || s.lcs.running > 1 then s
    else
      let s := s.lc (fun l => l.setFails l.running 0)
      let s := (s.wr Reg.ckgBoottime (w32 ((s.now - s.ckg.bootAt) / 9600))).step_ 17
      let s := s.ck (fun c => { c with wd := some s.now })
      let s := if s.tpl.st == .applying then s else s.tplRelease
      let s := if !s.versionsAgree then s.nextCycleMode .maintenance 0x12
        else if s.bitOf Reg.ckgStrap 0 then s.nextCycleMode .maintenance 0x13
        else s.nextCycleMode .standby 0x10
      s.autoStart)

/-- BOOT_DONE_TIMEOUT: 10 s pass in Boot without BOOT_DONE: a failed start (R35, R467). The timer is disarmed in SCRAPPED
(R494). -/
def execBootDoneTimeout (s : State) : Host.Outcome State Fault Refusal :=
  let s := s.begin
  .next (if s.mode.mode != .boot || s.lcs.state == 5 then s
    else (s.at_ (s.ckg.bootAt + msRoot 10000)).restart 0x11 false)

end Sys2Proof.Machine
end

