-- ==== Sys2Proof/Machine/ReadReg.lean ====
section
/-! DEFINITION. What a read of a register returns (R20 to R24): the register words, and the registers whose fields are
taken from an engine's state. -/

namespace Sys2Proof.Machine

/-- The key of the copy of offset `a` that an initiator sees. -/
def regKey (init : InitId) (a : Nat) : Nat :=
  match regAt a with
  | some d => match d.view with
    | .common => a
    | .district => distKey (slotOf (distOf init)) a
    | .initiator => initKey init a
  | none => a

/-! ### HST, TPL and the Lot Manager -/

/-- MODE_STATUS as district `d` reads it (R40). -/
def State.modeStatusWord (s : State) (d : Nat) : Word32 :=
  pack [(24, s.mode.cause), (16, s.mode.prev.code), (10, s.fld (distKey (slotOf d) Reg.modeStatus) 10 3),
        (8, bit s.csw.held), (7, bit s.mode.pend.isSome), (0, s.mode.mode.code)]

/-- A mailbox status with its levels: RX in [20:16], TX in [12:8] (R371). -/
def mbxLevels (w : Word32) (rx tx : Nat) : Word32 := putField (putField w 16 5 rx) 8 5 tx

/-- A register of HST: the MODE registers for every initiator, the function's own for its host. -/
def State.readHst (s : State) (init : InitId) (a : Nat) : Word32 :=
  let d := distOf init
  let w := s.rd (regKey init a)
  if a == Reg.modeStatus then s.modeStatusWord d
  else if a == Reg.modeFrame then w
  else if !isHost init then 0
  else if a == Reg.hstId then putField w 0 3 d
  else if a == Reg.hstMbxStatus then mbxLevels w (s.queLevel (0x18 + d)) (s.queLevel (0x10 + d))
  else if Reg.hstMbxTx 0 ≤ a && a < Reg.hstMbxTx 16 then 0
  else w

/-- TPL_SIGPOL (R89). -/
def State.sigpolWord (s : State) : Word32 := pack [(4, field (s.lcsWord 0x10) 4 4), (0, bit s.lcs.require)]

/-- A register of TPL. -/
def State.readTpl (s : State) (init : InitId) (a : Nat) : Word32 :=
  if a == Reg.tplStatus then s.tplWord (slotOf (distOf init))
  else if a == Reg.tplSigpol then s.sigpolWord
  else s.rd a

/-- LOT_STATUS (R128). -/
def State.lotStatusWord (s : State) : Word32 :=
  pack [(31, bit (s.lot.copy.any (!·.done))), (30, bit !s.lot.scrub.isEmpty), (16, s.freeLots false), (0, s.freeLots true)]

/-- LOT_DHELD of district `e` (R128). -/
def State.lotHeldWord (s : State) (e : Nat) : Word32 :=
  let w := s.lot.waiting.filter (·.dist == e)
  pack [(16, s.held e false), (13, w.length), (12, bit (w.any (·.isHead))), (0, s.held e true)]

/-- The set that an initiator has selected, if it exists and is its own, or any set for the house district (R130). -/
def State.lotSelected (s : State) (init : InitId) : Option LotSet :=
  (s.set? (s.fld (initKey init Reg.lotSsel) 0 16)).filter (fun x => isHouse init || x.dist == distOf init)

/-- LOT_SINFO (R130). -/
def State.lotInfoWord (s : State) (x : LotSet) : Word32 :=
  let moving := s.lot.copy.any (fun c => c.setId == x.id && (c.kind == .promote || c.kind == .demote))
  pack [(31, 1), (30, bit x.inSq), (29, bit moving), (28, bit (x.cls == 1)), (26, if x.id < 0x1000 then x.place else 0),
        (23, x.dist), (0, x.handles.length)]

/-- LOT_SHANDLE of lot `i` of a set (R130). -/
def State.lotHandleWord (s : State) (x : LotSet) (i : Nat) : Word32 :=
  match x.handles[i]? with
  | some h =>
    let f := s.frameOf h
    pack [(31, bit (s.lot.poison.any (fun b => b / lotBlocks == f))), (30, bit (s.lot.frame.find? h).isSome), (0, h)]
  | none => 0xFFFF#32

/-- A register of LOT. -/
def State.readLot (s : State) (init : InitId) (a : Nat) : Word32 :=
  let e := s.lotDist init
  let x := s.lotSelected init
  if a == Reg.lotStatus then s.lotStatusWord
  else if a == Reg.lotDsel then w32 e
  else if a == Reg.lotDheld then s.lotHeldWord e
  else if a == Reg.lotDcredit then w32 (s.lot.credit.get 0 e)
  else if a == Reg.lotSinfo then (match x with | some x => s.lotInfoWord x | none => 0)
  else if a == Reg.lotSbase then (match x with | some x => w32 x.base | none => 0xFFFF#32)
  else if a == Reg.lotShandle then
    (match x with | some x => s.lotHandleWord x (s.fld (initKey init Reg.lotSsel) 16 14) | none => 0xFFFF#32)
  else if a == Reg.lotLat then s.lotLatWord
  else if a == Reg.lotSpare then pack [(8, s.lot.spares), (0, s.sparesLeft)]
  else if a == Reg.lotReqLast || a == Reg.lotErr || (Reg.lotRstat 0 ≤ a && a < Reg.lotRstat 4) then
    (if isDistrict e then s.rd (distKey (slotOf e) a) else 0)
  else s.rd (regKey init a)

/-! ### Ingress, Plazas, Avenues, ports -/

/-- ING_SUMMARY: inputs LOST and LOCKED, of a host only its own (R155). -/
def State.ingSummaryWord (s : State) (init : InitId) : Word32 :=
  let mine := fun i => isHouse init || (s.pl.input? i).any (·.dist == distOf init)
  let inState := fun i st => bit (mine i && s.fld (Reg.ingStatus i) 0 3 == st)
  pack ((List.range 16).map (fun i => (16 + i, inState i 3)) ++ (List.range 16).map (fun i => (i, inState i 2)))

/-- PLZ_STATUS.LINE: the line period under way (R157); a cut-through canvas counts the rows it has composed. -/
def State.plzLine (s : State) (p : Nat) : Nat :=
  match s.canvas? p with
  | none => 0
  | some c =>
    let n := c.height + c.vblank
    let (f, d) := s.frameRate
    if !s.plazaOn then 0
    else if c.cut then (if (s.pz p).composing then min (n - 1) (c.vblank + (s.pz p).next) else 0)
    else min (n - 1) (s.clt.elapsed * n * f / (d * 400000000))

/-- A register of PLZ. -/
def State.readPlz (s : State) (a : Nat) : Word32 :=
  match unitAt a 0x400000 4 0x10000 with
  | some (p, 0) => putField (s.rd a) 0 15 (s.plzLine p)
  | _ => s.rd a

/-- A register of AVE. -/
def State.readAve (s : State) (a : Nat) : Word32 :=
  match unitAt a 0x601000 64 0x40 with
  | some (p, 0x0C) => s.aveLtWord p
  | _ => s.rd a

/-- A register of LMS; LMS_CPL_HI shows the second half of the completion at the front (R24). -/
def State.readLms (s : State) (init : InitId) (a : Nat) : Word32 :=
  match unitAt a 0x710000 64 0x100 with
  | some (p, 0x3C) => ((s.lp p).cpl.head?.map (·.2)).getD 0
  | _ => s.rd (regKey init a)

/-- A register of PRT; PRT_PREEMPT reads 1 while USE bit 0 is set (R287). -/
def State.readPrt (s : State) (a : Nat) : Word32 :=
  match unitAt a 0x800000 64 0x1000 with
  | some (p, 0x0C) => if (s.pl.port? p).any (fun r => natBit r.use 0) then 1 else s.rd a
  | _ => s.rd a

/-! ### Clocktower -/

/-- The live value of a register that a latching read latches (R306), or none for another register. -/
def State.cltLive (s : State) (a : Nat) : Option Word32 :=
  ((([0, 1, 2] : List (Fin 3)).flatMap (fun w => (s.cltLatch w).2.2)).find? (·.1 == a)).map (·.2)

/-- A register of CLT: a latched register returns what its initiator's last latching read latched, or its live value
(R306). -/
def State.readClt (s : State) (init : InitId) (a : Nat) : Word32 :=
  match s.cltLive a with
  | some w => s.hiLatch.get w (initKey init a)
  | none =>
    if a == Reg.cltAdjLeft then w32 (twos 32 (Int.tdiv s.clt.slew 4294967296))
    else s.rd (regKey init a)

/-! ### The Roundabout, the Queue Bank and the mailboxes -/

/-- The records whose items meet `p`. -/
def State.itemsWith (s : State) (p : Item → Bool) : Nat := (List.filter (fun e => p e.2) s.sch.recs).length

/-- The parking slot of an item that is parked. -/
def Item.parking (x : Item) : Option Nat := match x.st with | .parked k => some k | _ => none
/-- True for an item on a core. -/
def Item.onCore (x : Item) : Bool := match x.st with | .running _ => true | _ => false

/-- SCH_STATUS as district `d` reads it (R350, R351). -/
def State.schStatusWord (s : State) (d : Nat) : Word32 :=
  pack [(24, s.fld (distKey (slotOf d) Reg.schStatus) 24 8), (16, s.itemsWith (·.parking.isSome)), (8, if s.schOn then s.idleCores.length else 0),
        (0, bit s.schOn)]

/-- SCH_CORE, or SCH_CORE_REC, of core `c`: HANDLER, TAG and RECORD of another district's item read 0 for a host (R350). -/
def State.schCoreWord (s : State) (d c : Nat) (rec : Bool) : Word32 :=
  match s.onCore c with
  | none => 0
  | some (r, x) =>
    let mine := d == houseDist || x.dist == d
    if rec then (if mine then pack [(16, x.tag), (0, r)] else 0)
    else pack [(16, if mine then x.handler else 0), (14, 1), (11, x.dispLevel.getD x.level), (8, x.dist)]

/-- SCH_DREADY from level `l0` on: four counts of ready items of slot `j`. -/
def State.schReadyWord (s : State) (j l0 : Nat) : Word32 :=
  pack ((List.range 4).map (fun i =>
    (8 * i, min 255 (s.itemsWith (fun x => x.dist == slotDist j && x.st == .ready && x.level == l0 + i)))))

/-- SCH_DSTAT of slot `j` (R351). -/
def State.schDstatWord (s : State) (j : Nat) : Word32 :=
  let mine := fun (x : Item) => x.dist == slotDist j
  pack [(24, s.fld (Reg.schDstat j) 24 8), (20, s.l7Used j), (15, s.itemsWith (fun x => mine x && x.onCore)),
        (9, s.itemsWith (fun x => mine x && x.parking.isSome)), (0, s.itemsWith mine)]

/-- A register of SCH. -/
def State.readSch (s : State) (init : InitId) (a : Nat) : Word32 :=
  let d := distOf init
  match unitAt a 0xB00100 16 8, unitAt a 0xB00400 5 0x80 with
  | some (c, o), _ => s.schCoreWord d c (o == 4)
  | _, some (j, 0x08) => s.schDstatWord j
  | _, some (j, 0x0C) => s.schReadyWord j 0
  | _, some (j, 0x10) => s.schReadyWord j 4
  | _, _ =>
    if a == Reg.schStatus then s.schStatusWord d
    else if a == Reg.schTickLo then w32 s.schTick
    else if a == Reg.schTickHi then w32 (s.schTick / 2 ^ 32)
    else if a == Reg.schParkmap then
      pack ((List.filterMap (fun e => e.2.parking) s.sch.recs).map (fun k => (k, 1)))
    else s.rd a

/-- A register of QUE (R371). -/
def State.readQue (s : State) (init : InitId) (a : Nat) : Word32 :=
  match unitAt a 0xC00000 5 0x10000 with
  | some (j, o) =>
    if 0x100 ≤ o && o < 0x120 then
      let x := s.lane j ((o - 0x100) / 4)
      pack [(16, x.wp), (0, x.rp)]
    else if 0x240 ≤ o && o < 0x260 then
      let x := s.lane (8 + j) ((o - 0x240) / 4)
      pack [(31, bit x.markValid), (24, x.mark), (16, x.wp), (0, x.rp)]
    else if o ≥ 0x1000 then 0
    else s.rd (regKey init a)
  | none => 0

/-- A register of MBX (R371). -/
def State.readMbx (s : State) (init : InitId) (a : Nat) : Word32 :=
  match unitAt a 0xD00000 4 0x1000 with
  | some (d, 0x80) => mbxLevels (s.rd a) (s.queLevel (0x10 + d)) (s.queLevel (0x18 + d))
  | some (_, o) => if o < 0x40 then 0 else s.rd (regKey init a)
  | none => 0

/-! ### Clocks, counters, errors -/

/-- CKG_BOOT: the slot that runs and the failed starts of the slots (R467). -/
def State.bootWord (s : State) : Word32 := pack [(16, s.lcs.running), (4, s.lcs.fails 1), (0, s.lcs.fails 0)]

/-- The counter that PMC_VAL shows an initiator: 0 unless its selection is readable (R519). -/
def State.pmcValue (s : State) (init : InitId) : Nat :=
  let w := s.rd (initKey init Reg.pmcSel)
  if s.selCode (distOf init) w == 0 then s.selValue w else 0

/-- A register of PMC. -/
def State.readPmc (s : State) (init : InitId) (a : Nat) : Word32 :=
  match unitAt a 0x1610000 5 0x1000 with
  | some (j, o) =>
    if o < 0x200 then w32 (if o % 8 == 0 then s.pinValue j (o / 8) else s.pinValue j (o / 8) / 2 ^ 32) else 0
  | none =>
    if a == Reg.pmcValLo then w32 (s.pmcValue init)
    else if a == Reg.pmcValHi then w32 (s.pmcValue init / 2 ^ 32)
    else s.rd (regKey init a)

/-- A register of ERR; a slot's status shows how many records its log holds and whether one is fatal (R532). -/
def State.readErr (s : State) (init : InitId) (a : Nat) : Word32 :=
  match unitAt a 0x1700100 5 0x40 with
  | some (j, 0) =>
    let l := s.err.logs.get [] j
    putField (putField (s.rd a) 7 1 (bit (l.any (·.sev == 2)))) 0 7 l.length
  | _ => s.rd (regKey init a)

/-! ### Any register -/

/-- The word that an initiator reads at offset `a`, reserved offsets reading 0 (R23); whether the access is permitted is
decided before. -/
def State.readWord (s : State) (init : InitId) (a : Nat) : Word32 :=
  match a / 0x100000 with
  | 0 => s.readHst init a
  | 1 => s.readTpl init a
  | 2 => s.readLot init a
  | 3 => if a == Reg.ingSummary then s.ingSummaryWord init else s.rd (regKey init a)
  | 4 => s.readPlz a
  | 6 => s.readAve a
  | 7 => s.readLms init a
  | 8 => s.readPrt a
  | 9 => s.readClt init a
  | 11 => s.readSch init a
  | 12 => s.readQue init a
  | 13 => s.readMbx init a
  | 18 => if a == Reg.ckgBoot then s.bootWord else s.rd a
  | 20 => s.lcsWord (a % 0x100000)
  | 21 => s.updWord (a % 0x100000)
  | 22 => s.readPmc init a
  | 23 => s.readErr init a
  | _ => s.rd (regKey init a)

/-- True when `a` is a LO register of a 64-bit pair (R24). -/
def isPairLo (a : Nat) : Bool := (regAt a).any (·.pair)

/-- The queues whose pointers or levels a register shows: its read compares their copies (R360). -/
def State.queuesAt (s : State) (init : InitId) (a : Nat) : List Nat :=
  let d := distOf init
  if a == Reg.hstMbxStatus then (if isHost init then [0x10 + d, 0x18 + d] else [])
  else match unitAt a 0xC00000 5 0x10000, unitAt a 0xD00000 4 0x1000, unitAt a 0x710000 64 0x100 with
    | some (j, o), _, _ => if 0x100 ≤ o && o < 0x120 then [j] else if 0x240 ≤ o && o < 0x260 then [8 + j] else []
    | _, some (d, o), _ => if o == 0x80 then [0x10 + d, 0x18 + d] else []
    | _, _, some (p, o) => if o == 0x04 then [0x40 + p] else []
    | _, _, _ =>
      (s.pl.tiles.filter (fun t => a == Reg.lmsTmark t.id)).map (fun t => 0x40 + t.port)

/-- A read of a register that has no row of its own: a LO register latches its HI half for the initiator, a HI register
returns what was latched, or the live value (R24); a selection of PMC that may not be read leaves its code (R519). -/
def State.readReg (s : State) (init : InitId) (a : Nat) : State :=
  let s := (s.queuesAt init a).foldl (fun s q => s.queGuard q init) s
  let w := s.readWord init a
  let s := if a == Reg.pmcValLo then
      (let c := s.selCode (distOf init) (s.rd (initKey init Reg.pmcSel))
       if c == 0 then s else s.pmcErr (distOf init) c)
    else s
  if isPairLo a then
    { s with hiLatch := s.hiLatch.set (initKey init a) (s.readWord init (a + 4)) }.reply (.word w)
  else if 4 ≤ a && isPairLo (a - 4) then s.reply (.word (s.hiLatch.get w (initKey init (a - 4))))
  else s.reply (.word w)

end Sys2Proof.Machine
end

