-- ==== Sys2Proof/Machine/Access.lean ====
section
/-! DEFINITION. Register accesses by address (R20 to R24): REG64_LO_READ, a read of any register, and REGISTER_WRITE, a
write to any register. Where a register has a command of its own, its access is that command's. -/

namespace Sys2Proof.Machine

/-- What a register's own command does. -/
abbrev Meaning := State → Host.Outcome State Fault Refusal

/-- `k` as an index of an array of `n + 1`. -/
def finOf (n k : Nat) : Fin (n + 1) := ⟨k % (n + 1), Nat.mod_lt _ (Nat.succ_pos n)⟩

/-! ### Reads -/

/-- The command of a register whose read has a row of its own. -/
def readRow (init : InitId) (a : Nat) : Option Meaning :=
  match a / 0x100000 with
  | 0 => if a == Reg.hstMbxPop then some (execF2hPop init) else none
  | 2 =>
    if a == Reg.lotEccCe then some (execLotEccCountRead init false)
    else if a == Reg.lotEccUe then some (execLotEccCountRead init true)
    else none
  | 4 => match unitAt a 0x400000 4 0x10000 with
    | some (p, 0x40) => some (execPlzUnderrunRead init (finOf 3 p))
    | _ => none
  | 6 => match unitAt a 0x601000 64 0x40 with
    | some (p, 0x18) => some (execAveUnderrunRead init (finOf 63 p))
    | _ => none
  | 7 => match unitAt a 0x710000 64 0x100 with
    | some (p, 0x38) => some (execLmsCplPop init (finOf 63 p))
    | _ => none
  | 9 =>
    if a == Reg.cltTns then some (execCltLatchingRead init 0)
    else if a == Reg.cltFtNs then some (execCltLatchingRead init 1)
    else if a == Reg.cltLtcinTns then some (execCltLatchingRead init 2)
    else none
  | 12 => match unitAt a 0xC00000 5 0x10000 with
    | some (j, 0x200) => some (execQueCqPop init (finOf 4 j))
    | _ => none
  | 13 => match unitAt a 0xD00000 4 0x1000 with
    | some (d, 0x40) => some (execH2fPop init (finOf 3 d))
    | _ => none
  | 23 => match unitAt a 0x1700100 5 0x40 with
    | some (j, 0x04) => some (execErrPop init (finOf 4 j))
    | _ => none
  | _ => none

/-! ### Writes -/

/-- The command of a register whose write has a row of its own. -/
def writeRow (init : InitId) (a : Nat) (v : Word32) : Option Meaning :=
  let key : BitVec 16 := BitVec.ofNat 16 (field v 16 16)
  match a / 0x100000 with
  | 0 =>
    let h := finOf 3 (distOf init)
    if a == Reg.modeReq then
      (match field v 0 3 with
       | 2 => some (execModeReqStandby init key)
       | 3 => some (execModeReqActive init key)
       | 4 => some (execModeReqMaintenance init key)
       | _ => none)
    else if !isHost init then none
    else if a == Reg.hstMbxTx 15 then some (execH2fPost init v)
    else if a == Reg.hstFire then some (execBlackoutDoorbell h v)
    else match unitAt a 0x400 4 0x40 with
      | some (k, 0) =>
        let r := RingId.dma h (finOf 3 k)
        some (if v.getLsbD 31 then execRingEnable init r v else execRingDisable init r v)
      | some (k, 0x14) => some (execRingTailWrite init (.dma h (finOf 3 k)) v)
      | _ => none
  | 1 =>
    if a == Reg.tplCtl then
      (match field v 0 3 with
       | 1 => some (execTplOpen init key)
       | 2 => some (execTplValidate init key)
       | 3 => some (execTplApply init key)
       | 4 => some (execTplAbort init key)
       | _ => none)
    else none
  | 2 =>
    if a == Reg.lotReq then some (execLotReq init v)
    else if a == Reg.lotFree then some (execLotFree init v)
    else if Reg.lotRstat 0 ≤ a && a < Reg.lotRstat 4 then some (execLotRstatAck init (finOf 3 ((a - Reg.lotRstat 0) / 4)) v)
    else none
  | 3 => match unitAt a 0x301000 16 0x100, unitAt a 0x302000 16 0x100 with
    | some (i, 0), _ => some (execIngRelearn init (finOf 15 i) v)
    | _, some (i, 0x50) => some (execIngHdPost init (finOf 15 i) v)
    | _, _ => none
  | 5 => match unitAt a 0x510000 4096 0x40, unitAt a 0x500400 4 0x10 with
    | some (t, 0x0C), _ => some (execBlvTcommit init (finOf 4095 t) v)
    | _, some (c, 0) => some (execBlvGmasterWrite init (finOf 3 c) v)
    | _, _ => none
  | 7 => match unitAt a 0x710000 64 0x100 with
    | some (p, 0x30) => some (execLmsCqPost init (finOf 63 p) v)
    | _ => if a == Reg.lmsBlackRel then some (execBlackoutRelease init v) else none
  | 8 => match unitAt a 0x800000 64 0x1000 with
    | some (n, o) =>
      let p := finOf 63 n
      if o == 0x1C then some (execPrtSerdesWrite init p v)
      else match unitAt o 0x400 4 0x40, unitAt o 0x600 4 0x40 with
        | some (r, 0), _ =>
          some (if v.getLsbD 31 then execRingEnable init (.rx p (finOf 3 r)) v else execRingDisable init (.rx p (finOf 3 r)) v)
        | some (r, 0x14), _ => some (execRingTailWrite init (.rx p (finOf 3 r)) v)
        | _, some (r, 0) =>
          some (if v.getLsbD 31 then execRingEnable init (.tx p (finOf 3 r)) v else execRingDisable init (.tx p (finOf 3 r)) v)
        | _, some (r, 0x14) => some (execRingTailWrite init (.tx p (finOf 3 r)) v)
        | _, _ => none
    | none => none
  | 9 =>
    if a == Reg.cltIncrLo then some (execCltIncrWrite init v)
    else if a == Reg.cltAdj then some (execSlewStart init v)
    else if a == Reg.cltStepCtl then
      (match field v 0 2 with
       | 1 => some (execCltStepAdd init key)
       | 2 => some (execCltStepSet init key)
       | _ => none)
    else none
  | 10 => match unitAt a 0xA00100 5 0x20, unitAt a 0xA00600 4 0x40 with
    | some (j, 0x08), _ => some (execFxeDcommit init (finOf 4 j) v)
    | _, some (k, 0x10) =>
      if !v.getLsbD 31 then none
      else (match field v 0 2 with
        | 0 => some (execRdmBroadcast init (finOf 3 k))
        | 1 => some (execRdmRequest init (finOf 3 k))
        | 2 => some (execRdmDiscovery init (finOf 3 k))
        | _ => none)
    | _, _ => none
  | 11 => match unitAt a 0xB00400 5 0x80 with
    | some (j, 0x20) => some (execTraceEnable init (finOf 4 j) v)
    | _ => none
  | 12 => match unitAt a 0xC00000 5 0x10000 with
    | some (j, o) =>
      if 0x1000 ≤ o && o < 0x1200 then
        some (execSubmissionPost init (finOf 4 j) (finOf 7 ((o - 0x1000) / 0x40)) (finOf 15 (o % 0x40 / 4)) [v])
      else if o == 0x260 && field v 0 2 == 1 then some (execCqMark init (finOf 4 j))
      else if o == 0x260 && field v 0 2 == 2 then some (execCqRewind init (finOf 4 j))
      else none
    | none => none
  | 13 => match unitAt a 0xD00000 4 0x1000 with
    | some (d, 0x3C) => some (execF2hPost init (finOf 3 d) v)
    | _ => if a == Reg.mbxFire then some (execHouseDoorbell init v) else none
  | 18 =>
    if a == Reg.ckgRstctl then some (execResetCommand init v)
    else if a == Reg.ckgWdcfg then some (execWatchdogConfigWrite init v)
    else if a == Reg.ckgWdkick then some (execWatchdogKick init v)
    else if a == Reg.ckgGatecmd && field v 30 2 == 1 then some (execUnitGate init (BitVec.ofNat 6 (field v 0 6)))
    else if a == Reg.ckgGatecmd && field v 30 2 == 2 then some (execUnitUngate init (BitVec.ofNat 6 (field v 0 6)))
    else none
  | 19 =>
    if a == Reg.cswRenew then some (execCswRenew init v)
    else if a == Reg.cswCmd && field v 0 2 == 1 then some (execCswHandover init key)
    else if a == Reg.cswCmd && field v 0 2 == 2 then some (execCswResync init key)
    else none
  | 22 => match unitAt a 0x1602000 5 0x200 with
    | some (j, o) =>
      if o < 0x100 then some (execPmcPinWrite init (finOf 4 j) (finOf 63 (o / 4)) v) else none
    | none => none
  | 23 => if a == Reg.errInject then some (execErrInject init v) else none
  | _ => none

/-- A register word after a write by its access types: RW fields take the value, W1C bits written 1 clear, W1S bits
written 1 set, everything else stays (R21). -/
def RegDef.written (d : RegDef) (old v : Word32) : Word32 :=
  let rw := w32 d.rw
  (((old &&& ~~~ rw) ||| (v &&& rw)) &&& ~~~ (v &&& w32 d.w1c)) ||| (v &&& w32 d.w1s)

/-- A write by access types to a register that is one word; a reserved offset ignores it (R21, R23). -/
def State.writePlain (s : State) (init : InitId) (a : Nat) (v : Word32) : State :=
  match regAt a with
  | some d => let k := regKey init a; s.wr k (d.written (s.rd k) v)
  | none => s

/-- A write to either half of a 64-bit pair: HI stages for the initiator, LO writes both halves with the staged one
(R24). -/
def State.writePair (s : State) (init : InitId) (a : Nat) (v : Word32) : State :=
  if isPairLo a then
    (s.writePlain init a v).writePlain init (a + 4) (s.hiStage.get 0 (initKey init a))
  else if (regAt (a - 4)).any (·.rw != 0) then { s with hiStage := s.hiStage.set (initKey init (a - 4)) v }
  else s

/-- A write by access types to any register. -/
def State.writeAny (s : State) (init : InitId) (a : Nat) (v : Word32) : State :=
  if isPairLo a || (4 ≤ a && isPairLo (a - 4)) then s.writePair init a v else s.writePlain init a v

/-- MODE_REQ with a TARGET that is no mode: result 3 unless an earlier check fails (R41). -/
def State.modeNoTarget (s : State) (d : Nat) (key : Nat) : State :=
  if key != 0x5A17 then s.reqResult d 4
  else if !s.auth false (·.modeAuth) d then s.reqResult d 2
  else if s.mode.pend.isSome then s.reqResult d 5
  else s.reqResult d 3

/-- A write to a configuration register of a ring: ignored with code 0x23 while the ring is enabled (R274, R379). -/
def State.ringConfig (s : State) (init : InitId) (r : RingId) (a : Nat) (v : Word32) : State :=
  if s.ringOn r && (regAt a).any (·.rw != 0) then s.ringErr r 0x23 else s.writeAny init a v

/-- HST registers: the host's heartbeat is mirrored to MBX_HOSTHB (R366). -/
def State.writeHst (s : State) (init : InitId) (a : Nat) (v : Word32) : State :=
  let d := distOf init
  if a == Reg.modeReq then s.modeNoTarget d (field v 16 16)
  else if !isHost init then s
  else if Reg.hstMbxTx 0 ≤ a && a < Reg.hstMbxTx 15 then s.wr (initKey init a) v
  else if a == Reg.hstHostHb then (s.writePlain init a v).wr (Reg.mbxHosthb d) v
  else match unitAt a 0x400 4 0x40 with
    | some (k, _) => s.ringConfig init (.dma (finOf 3 d) (finOf 3 k)) a v
    | none => s.writeAny init a v

/-- TPL registers: an unknown CMD has result 4, TPL_LEN is written by the owner in OPEN or INVALID (R88), REQUIRE is set
by the house district (R89). -/
def State.writeTpl (s : State) (init : InitId) (a : Nat) (v : Word32) : State :=
  let d := distOf init
  if a == Reg.tplCtl then s.tplResult d 4
  else if a == Reg.tplLen then
    (if s.tpl.owner == some d && (s.tpl.st == .opened || s.tpl.st == .invalid) then s.wr a v else s)
  else if a == Reg.tplSigpol && isHouse init && v.getLsbD 0 then { s with lcs := { s.lcs with require := true } }
  else s

/-- PLZ registers: PLZ_COMMIT takes its layers, then the background (R165). -/
def State.writePlz (s : State) (init : InitId) (a : Nat) (v : Word32) : State :=
  match unitAt a 0x400000 4 0x10000 with
  | some (p, 0x10) =>
    let s := if field v 0 16 == 0 then s else s.commitLayers p (BitVec.ofNat 16 (field v 0 16))
    if v.getLsbD 16 then s.commitBg p else s
  | _ => s.writeAny init a v

/-- BLV registers: a tile that is not defined ignores writes (R202). -/
def State.writeBlv (s : State) (init : InitId) (a : Nat) (v : Word32) : State :=
  match unitAt a 0x510000 4096 0x40 with
  | some (t, _) => if (s.pl.tile? t).isNone then s else s.writeAny init a v
  | none => s.writeAny init a v

/-- AVE registers: AVE_URMASK clears only bits of the writing district's ports (R221). -/
def State.writeAve (s : State) (init : InitId) (a : Nat) (v : Word32) : State :=
  if a == Reg.aveUrmask0 || a == Reg.aveUrmask1 then
    let lo := if a == Reg.aveUrmask0 then 0 else 32
    let mine := pack (((List.range 32).filter (fun j => (s.pl.port? (lo + j)).any (·.dist == distOf init))).map (fun j => (j, 1)))
    s.writePlain init a (v &&& mine)
  else s.writeAny init a v

/-- LMS registers: the configuration is written outside Active; RESP_US 0 leaves its field (R258, R259). -/
def State.writeLms (s : State) (init : InitId) (a : Nat) (v : Word32) : State :=
  if a == Reg.lmsCfg || a == Reg.lmsHbmacLo || a == Reg.lmsHbmacHi then
    (if s.active then s else s.writeAny init a v)
  else if a == Reg.lmsTiming then
    (if s.active then s
     else
       let v := if field v 0 16 == 0 then putField v 0 16 (s.fld a 0 16) else v
       s.writePlain init a v)
  else s.writeAny init a v

/-- PRT registers: PRT_PREEMPT is ignored while USE bit 0 is set, and starts the verify of a port whose link is up; ring
configuration is guarded (R269, R274, R287). -/
def State.writePrt (s : State) (init : InitId) (a : Nat) (v : Word32) : State :=
  match unitAt a 0x800000 64 0x1000 with
  | some (n, o) =>
    let p := finOf 63 n
    if o == 0x0C then
      match s.pl.port? n with
      | none => s.writePlain init a v
      | some r =>
        if natBit r.use 0 then s
        else
          let s := s.writePlain init a v
          if s.linkUp n then s.preemptStart r else s
    else match unitAt o 0x400 4 0x40, unitAt o 0x600 4 0x40 with
      | some (r, _), _ => s.ringConfig init (.rx p (finOf 3 r)) a v
      | _, some (r, _) => s.ringConfig init (.tx p (finOf 3 r)) a v
      | none, none => s.writeAny init a v
  | none => s

/-- CLT registers, written by the house district: the ranges of FOFFSET, TZ and the daily jam; accepted writes clear ERR
(R292, R301, R304, R307). -/
def State.writeClt (s : State) (init : InitId) (a : Nat) (v : Word32) : State :=
  if a == Reg.cltStepCtl then s.cltErr 0x03
  else if a == Reg.cltFoffset then
    let x := signed 32 v.toNat
    if x < -100000000 || 100000000 < x then s.cltErr 0x07
    else
      let s := s.wr a v
      ((if s.clt.ltcK.isSome then s.setF Reg.cltStatus 8 1 1 else s).ltcFrom).cltErr 0
  else if a == Reg.cltLtcCfg then
    let z := signed 8 (field v 8 8)
    let s := if -48 ≤ z && z ≤ 56 then s.setF a 8 8 (field v 8 8) else s
    ((s.setF a 0 1 (field v 0 1)).cltErr 0).ltcShow
  else if a == Reg.cltLtcJam then
    (if field v 0 17 > 86399 then s else (s.wr a (w32 (field v 0 17))).cltErr 0)
  else
    match regAt a with
    | some d => if d.rw == 0 then s.writeAny init a v else (s.writeAny init a v).cltErr 0
    | none => s

/-- FXE registers: a TTL of 0, a BREAK, MAB or RDM_DIST out of range leave their fields; EXPECT 3 is refused; the request
window holds what is written (R323, R327). -/
def State.writeFxe (s : State) (init : InitId) (a : Nat) (v : Word32) : State :=
  match unitAt a 0xA00600 4 0x40, unitAt a 0xA01000 4 0x400 with
  | some (k, 0x00), _ =>
    let b := field v 16 10
    let m := field v 8 7
    let r := field v 0 3
    let s := if 92 ≤ b && b ≤ 1000 then s.setF (Reg.fxeDmxcfg k) 16 10 b else s
    let s := if 12 ≤ m && m ≤ 100 then s.setF (Reg.fxeDmxcfg k) 8 7 m else s
    if 4 ≤ r && r ≤ 6 then s else s.setF (Reg.fxeDmxcfg k) 0 3 r
  | some (k, 0x10), _ => if v.getLsbD 31 then s.rdmStart k 3 else s
  | _, some (_, o) => if o < 0x100 then s.wr a v else s
  | _, _ =>
    if a == Reg.fxeIpcfg then (if field v 0 8 == 0 then s else s.writePlain init a v)
    else s.writeAny init a v

/-- SCH registers: L7_ITEMS above 8 leaves the field; trace configuration is guarded while the trace is enabled (R348,
R351). -/
def State.writeSch (s : State) (init : InitId) (a : Nat) (v : Word32) : State :=
  match unitAt a 0xB00400 5 0x80 with
  | some (_, 0x00) => if field v 0 4 > 8 then s else (s.setF a 0 4 (field v 0 4)).trimDeficits
  | some (j, o) =>
    if (o == 0x14 || o == 0x18 || o == 0x1C) && s.bitOf (Reg.schTrcCtl j) 31 then s.setErr (Reg.schDstat j) 0x13
    else s.writeAny init a v
  | none => s

/-- MBX registers, of the house district: staged words and the firmware's heartbeat, mirrored to HST_FW_HB (R356, R366). -/
def State.writeMbx (s : State) (init : InitId) (a : Nat) (v : Word32) : State :=
  match unitAt a 0xD00000 4 0x1000 with
  | some (d, o) =>
    if o < 0x3C then s.wr (initKey init a) v
    else if o == 0x88 then s.fwBeat d v
    else s.writeAny init a v
  | none => s

/-- PMC registers: a selection, the window's length and the permissions (R519, R521, R531). -/
def State.writePmc (s : State) (init : InitId) (a : Nat) (v : Word32) : State :=
  if a == Reg.pmcSel then s.pmcSelect init v
  else if a == Reg.pmcBwcfg then
    (if field v 0 16 < 10 then s.pmcErr (distOf init) 0x03 else s.writePlain init a v)
  else s.writeAny init a v

/-- A write to a register that has no row of its own. -/
def State.writeReg (s : State) (init : InitId) (a : Nat) (v : Word32) : State :=
  match a / 0x100000 with
  | 0 => s.writeHst init a v
  | 1 => s.writeTpl init a v
  | 4 => s.writePlz init a v
  | 5 => s.writeBlv init a v
  | 6 => s.writeAve init a v
  | 7 => s.writeLms init a v
  | 8 => s.writePrt init a v
  | 9 => s.writeClt init a v
  | 10 => s.writeFxe init a v
  | 11 => s.writeSch init a v
  | 12 => match unitAt a 0xC00000 5 0x10000 with
    | some (j, 0x260) => s.cqBadCmd init j
    | _ => s.writeAny init a v
  | 13 => s.writeMbx init a v
  | 18 => if a == Reg.ckgGatecmd then s.gateCmd (field v 30 2) (field v 0 6) else s.writeAny init a v
  | 19 =>
    if a == Reg.cswCmd then
      s.cswCmd init (BitVec.ofNat 16 (field v 16 16)) (fun _ => false) id
    else s.writeAny init a v
  | 22 => s.writePmc init a v
  | _ => s.writeAny init a v

/-! ### The function's configuration and BAR4 (R372, R373, R378) -/

/-- Payload and read request sizes by their PCI Express encoding: 128 bytes times a power of two, kept within the sizes of
R372. -/
def sizeOf_ (code most : Nat) : Nat := min most (128 * 2 ^ code)

/-- Where the settings store keeps word `i` of a function's Subsystem IDs and Device Serial Number (R372). -/
def cfgKey (d i : Nat) : Nat := 0x2000000 + 16 * d + 4 * i

/-- A write to configuration space or BAR4 of a host's function. Offsets from 0x8000_0000 stand for BAR4: the MSI-X table,
sixteen bytes per vector. 0x9000_0000 stands for MSI-X Message Control in its upper half, 0x9000_0004 for the Command
register, 0x9000_0008 for Device Control and 0x9000_000C for the power state. The table is behind a BAR, which D3hot
disables. -/
def State.configWrite (s : State) (d addr : Nat) (v : Word32) : State :=
  let h := s.hp d
  if !h.link then s
  else if addr == 0x90000000 then
    (s.setHp d { h with msixEn := v.getLsbD 31, fmask := v.getLsbD 30 }).hostFlush d
  else if addr == 0x90000004 then (s.setHp d { h with bme := v.getLsbD 2 }).hostFlush d
  else if addr == 0x90000008 then
    s.setHp d { h with mps := sizeOf_ (field v 5 3) 512, mrrs := sizeOf_ (field v 12 3) 4096 }
  else if addr == 0x9000000C then (s.setHp d { h with d3 := field v 0 2 == 3 }).hostFlush d
  else if addr == 0x90000028 then s.setHp d { h with aer := h.aer &&& ~~~ v }
  else if 0x80000000 ≤ addr && addr < 0x80001000 && !h.d3 then
    let o := addr - 0x80000000
    if o % 16 == 12 then (s.setHp d { h with unmasked := h.unmasked.set (o / 16) (!v.getLsbD 0) }).hostFlush d
    else s.setHp d { h with table := h.table.set o v }
  else s

/-- The logarithm of a size in units of 128 bytes. -/
def sizeCode (n : Nat) : Nat := Nat.log2 (n / 128)

/-- A dword of configuration space or BAR4 as the host reads it (R372, R373): beside the registers that State.configWrite
names, 0x9000_0010 stands for Device ID and Vendor ID, 0x9000_0014 for Class Code and Revision ID, 0x9000_0018 for the
Subsystem IDs, 0x9000_001C and 0x9000_0020 for the Device Serial Number, 0x9000_0024 for the link's width and generation and
0x9000_0028 for the AER uncorrectable error status. BAR4 holds the MSI-X table and, at 0x2000, the Pending Bit Array. -/
def State.configWord (s : State) (d addr : Nat) : Word32 :=
  let h := s.hp d
  if addr == 0x90000000 then pack [(31, bit h.msixEn), (30, bit h.fmask), (16, 255)]
  else if addr == 0x90000004 then pack [(2, bit h.bme)]
  else if addr == 0x90000008 then pack [(12, sizeCode h.mrrs), (5, sizeCode h.mps)]
  else if addr == 0x9000000C then pack [(0, if h.d3 then 3 else 0)]
  else if addr == 0x90000010 then pack [(16, 0x6400), (0, s.fld (distKey d Reg.hstId) 16 16)]
  else if addr == 0x90000014 then pack [(8, 0x048000), (0, 0xA1)]
  else if addr == 0x90000018 then s.nv.get 0 (cfgKey d 0)
  else if addr == 0x9000001C then s.nv.get 0 (cfgKey d 1)
  else if addr == 0x90000020 then s.nv.get 0 (cfgKey d 2)
  else if addr == 0x90000024 then pack [(4, h.width), (0, h.gen)]
  else if addr == 0x90000028 then h.aer
  else if 0x80000000 ≤ addr && addr < 0x80001000 then
    let o := addr - 0x80000000
    if o % 16 == 12 then pack [(0, bit (!h.unmasked.get false (o / 16)))] else h.table.get 0 o
  else if 0x80002000 ≤ addr && addr < 0x80002020 then
    let k := (addr - 0x80002000) / 4
    pack ((List.range 32).map (fun j => (j, bit (h.pend.get false (32 * k + j)))))
  else 0

/-- A read of configuration space or BAR4: the function answers over its link, BAR4 only in D0. -/
def State.configRead (s : State) (d addr : Nat) : State :=
  let h := s.hp d
  if !h.link || s.mode.mode == .reset then s
  else if addr < 0x90000000 && h.d3 then s.reply .unsupported
  else s.reply (.word (s.configWord d addr))

/-! ### One access -/

/-- The state after a meaning. -/
def Meaning.run (f : Meaning) (s : State) : State := match f s with | .next t => t | _ => s

/-- A dword read of a register whose access arrives (R20, R23, R24). -/
def State.readAt (s : State) (init : InitId) (addr : Nat) : State :=
  let a := addr / 4 * 4
  if a ≥ 0x1800000 then s.reply (if isHost init then .unsupported else .word 0)
  else if crossAddr a then (match initInput init with | some i => s.crossPresent i a | none => s)
  else match readRow init a with
  | some f => Meaning.run f s
  | none =>
    s.access init (a / 0x100000) (write := false) (fun s =>
      match s.foreign init a false with
      | some s => s.reply (.word 0)
      | none => s.readReg init a)

/-- The registers whose writes act on what the other accesses of their FAB cycle leave, without what the end of the cycle
brings (R42, R100, R236, R368). `rung`: a doorbell of the cycle has been accepted. -/
def cycleRow (rung : Bool) (init : InitId) (a : Nat) (v : Word32) : Option (State → State) :=
  let key : BitVec 16 := BitVec.ofNat 16 (field v 16 16)
  let mode := fun (m : Mode) (s : State) => s.access init 0 (fun s => s.modeReq (distOf init) key m)
  if a == Reg.modeReq then
    (match field v 0 3 with
     | 2 => some (mode .standby)
     | 3 => some (mode .active)
     | 4 => some (mode .maintenance)
     | _ => none)
  else if a == Reg.lotReq then some (fun s => s.access init 2 (fun s => s.lotRequest (distOf init) v))
  else if a == Reg.hstFire && isHost init then some (fun s => s.hostFire rung (distOf init) v)
  else if a == Reg.mbxFire then some (fun s => s.houseFire rung init v)
  else if a == Reg.lmsBlackRel then some (fun s => s.access init 7 (fun s => s.blackRelease rung init v))
  else none

/-- A dword write to a register whose access arrives (R20, R21, R23, R24); `cyc` is there when other accesses lie in its
FAB cycle. -/
def State.writeAt (s : State) (cyc : Option Bool) (init : InitId) (addr : Nat) (v : Word32) : State :=
  let a := addr / 4 * 4
  if a ≥ 0x1800000 then (if isHost init then s.reply .unsupported else s)
  else if crossAddr a then (match initInput init with | some i => s.crossPost i a v | none => s)
  else match cyc.bind (fun rung => cycleRow rung init a v) with
  | some f => f s
  | none => match writeRow init a v with
    | some f => Meaning.run f s
    | none =>
      s.access init (a / 0x100000) (fun s =>
        match s.foreign init a true with
        | some s => s
        | none => s.writeReg init a v)

/-- An access is performed. A host port keeps a write that the Crossing answers with retry, and its Crossing reads, which it
presents one at a time, and repeats them on the host's behalf (R375, R387). -/
def State.perform (s : State) (cyc : Option Bool) (a : Acc) : State :=
  let d := distOf a.init
  let h := s.hp d
  let mine := isHost a.init && crossAddr a.addr
  if mine && !a.write && !h.reads.isEmpty then s.setHp d { h with reads := h.reads ++ [a.addr] }
  else
    let t := if a.write then s.writeAt cyc a.init a.addr a.value else s.readAt a.init a.addr
    if !(mine && t.resp == some .retry) then t
    else
      let h := t.hp d
      { t.setHp d (if a.write then { h with queue := [a] } else { h with reads := [a.addr] }) with resp := none }

/-- An access arrives: a host's stand in the order received behind a write that the Crossing has not accepted (R374,
R375). -/
def State.accessOne (s : State) (cyc : Option Bool) (a : Acc) : State :=
  let d := distOf a.init
  if !s.arrives a.init then s
  else if !isHost a.init then s.perform cyc a
  else if a.addr % 4 != 0 then (if a.write then s.aerAbort d else s.reply .completerAbort)
  else if !(s.hp d).queue.isEmpty then s.setHp d { s.hp d with queue := (s.hp d).queue ++ [a] }
  else s.perform cyc a

/-! ### The accesses of one FAB cycle (R42, R81, R100, R355, R368, R386, R448) -/

/-- An access that clears bits: a write of a register with W1C bits, or a read of one with RC bits. -/
def clears (a : Acc) : Bool :=
  match regAt (a.addr / 4 * 4) with
  | some d => if a.write then d.w1c != 0 else d.rc != 0
  | none => false

/-- The group of an access among those of its FAB cycle, and its place in the group: reads of queues, and accesses that
clear bits, so that what sets them in the cycle wins (R22); frees; everything else, by district with the house district
last; posts to queues, by initiator; mark and rewind; the release of a blackout. -/
def accGroup (a : Acc) : Nat × Nat :=
  let x := a.addr / 4 * 4
  let o := x % 0x10000
  let d := slotOf (distOf a.init)
  let q := x / 0x100000 == 12
  let lms := x / 0x10000 == 0x71 && x % 0x100 == 0x30
  let mbx := x == Reg.hstMbxTx 15 || (x / 0x100000 == 13 && x % 0x1000 == 0x3C)
  if clears a then (0, a.init.toNat)
  else if !a.write then (if q || x == Reg.hstMbxPop || x / 0x100000 == 13 || x / 0x10000 == 0x71 then (0, a.init.toNat) else (2, d))
  else if x == Reg.lotFree then (1, d)
  else if (q && 0x1000 ≤ o && o < 0x1200) || lms || mbx then (3, a.init.toNat)
  else if q && o == 0x260 then (4, a.init.toNat)
  else if x == Reg.lmsBlackRel then (5, d)
  else (2, d)

/-- Accesses in the order in which they are evaluated; those of one place keep theirs. -/
def cycleOrder (l : List Acc) : List Acc :=
  (List.range 6).flatMap (fun g => (List.range 256).flatMap (fun r => l.filter (fun a => accGroup a == (g, r))))

/-- One of several accesses: what it sends is added, and the answer to a read is sent as a completion. -/
def State.accessAlso (s : State) (cyc : Option Bool) (a : Acc) : State :=
  let t := s.begin.accessOne cyc a
  let done := match t.resp with
    | some r => if a.write then [] else [Out.completion a.init a.addr r]
    | none => []
  { t with out := s.out ++ t.out ++ done, resp := t.resp <|> s.resp }

/-- The input arbiter: one access per FAB cycle, of the first presenting input after the last granted (R386). -/
def State.grantAll : Nat → List Acc → State → State
  | 0, _, s => s
  | fuel + 1, l, s =>
    match ((List.range 22).map (fun k => (s.xng.last + 1 + k) % 22)).findSome?
        (fun i => l.find? (fun a => initInput a.init == some i)) with
    | none => s
    | some a => State.grantAll fuel (l.erase a) ((s.accessAlso none a).elapse 8)

/-- The accesses of one FAB cycle, each against the state that the earlier ones leave, and what the end of the cycle
brings. Accesses to the Crossing are granted by round robin, one per FAB cycle (R386). -/
def State.accesses (s : State) (l : List Acc) : State :=
  match l with
  | [] => s
  | [a] => s.accessOne none a
  | _ =>
    let cnt := s.fld Reg.lmsBlackcnt 0 24
    let t := (cycleOrder (l.filter (fun a => !crossAddr a.addr))).foldl
      (fun t a => t.accessAlso (some (t.fld Reg.lmsBlackcnt 0 24 != cnt)) a) s
    let t := (t.endLots s.lot.waiting).endModes s.mode.pend.isSome
    State.grantAll l.length (l.filter (fun a => crossAddr a.addr)) t

/-- REG64_LO_READ: a dword read of a register (R20, R23, R24, R374), of configuration space or of BAR4 (R372, R373). -/
def execReg64LoRead (init : InitId) (req : ReadReq) (s : State) : Host.Outcome State Fault Refusal :=
  let s := s.begin
  .next (if req.addr ≥ 0x80000000 then (if isHost init then s.configRead (distOf init) req.addr else s)
    else if !s.arrives init then s
    else if isHost init && req.form == .atomic then s.reply .unsupported
    else if isHost init && req.form == .part then s.reply .completerAbort
    else s.accessOne none { init := init, addr := req.addr, write := false })

/-- REGISTER_WRITE: a write to registers (R20, R21, R23, R24), of 1 to 16 dwords in ascending order by a host (R374), with
the other accesses decoded in its FAB cycle; or a write to configuration space or BAR4. -/
def execRegisterWrite (init : InitId) (addr : Nat) (req : WriteReq) (s : State) : Host.Outcome State Fault Refusal :=
  let s := s.begin
  let words := req.value :: req.more
  let mine := words.zipIdx.map (fun (v, i) => ({ init := init, addr := addr + 4 * i, write := true, value := v } : Acc))
  let n := words.length
  let bad := req.form == .part || addr % 4 != 0 || n > 16 || addr / 64 != (addr + 4 * n - 1) / 64
  .next (if addr ≥ 0x80000000 then
      (if isHost init && s.mode.mode != .reset then
        (if req.form == .atomic then s.reply .unsupported else s.configWrite (distOf init) addr req.value)
      else s)
    else if isHost init && s.arrives init && req.form == .atomic then (s.reply .unsupported).accesses req.also
    else if isHost init && s.arrives init && bad then (s.aerAbort (distOf init)).accesses req.also
    else s.accesses (mine ++ req.also))

/-! ### Repeats of a host port (R375, R387) -/

/-- A host port performs the accesses that stood behind a write, until one is answered with retry. -/
def State.drain (d : Nat) : List Acc → State → State
  | [], s => s.setHp d { s.hp d with queue := [] }
  | a :: rest, s =>
    let t := (s.setHp d { s.hp d with queue := [] }).accessAlso none a
    if (t.hp d).queue.isEmpty then State.drain d rest t else t.setHp d { t.hp d with queue := a :: rest }

/-- A host port presents its next Crossing reads, until one is answered with retry. -/
def State.presentNext (d : Nat) : List Nat → State → State
  | [], s => s.setHp d { s.hp d with reads := [] }
  | a :: rest, s =>
    let t := { s with resp := none }.crossPresent (16 + d) a
    let back := fun (t : State) => { t with resp := s.resp }
    match t.resp with
    | some .retry => back (t.setHp d { t.hp d with reads := a :: rest })
    | some r => State.presentNext d rest (back (t.emit (.completion (hostInit d) a r)))
    | none => State.presentNext d rest (back t)

/-- CROSSING_REPEAT: a retried access is repeated: a read finds its data, an error or retry, and a host port goes on with
what stands behind it (R375, R387, R388). -/
def execCrossingRepeat (input : Fin 22) (addr : Nat) (s : State) : Host.Outcome State Fault Refusal :=
  let s := s.begin
  let d := input.val - 16
  let h := s.hp d
  .next (if !crossAddr addr then s
    else if input.val < 16 || 20 ≤ input.val then s.crossPresent input.val addr
    else match h.queue.head?, h.reads with
    | some a, _ => if a.addr == addr then State.drain d h.queue s else s.crossPresent input.val addr
    | none, r :: rest =>
      let t := s.crossPresent input.val addr
      if r != addr || t.resp == some .retry then t else State.presentNext d rest t
    | none, [] => s.crossPresent input.val addr)

end Sys2Proof.Machine
end

