-- ==== Sys2Proof/Machine/HostReset.lean ====
section
/-! DEFINITION. The reset of a host district (R384). -/

namespace Sys2Proof.Machine

/-- The copies of registers, latched and staged words that an initiator holds return to their reset values. -/
def State.resetInit (s : State) (init : InitId) : State :=
  let mine := fun k => k / 0x4000000 == 0x10 + init.toNat
  { s with hiLatch := s.hiLatch.drop mine, hiStage := s.hiStage.drop mine, regs := s.regs.drop mine }

/-- HOST_DISTRICT_RESET: a function-level reset, a hot reset or a link down of a host port resets its district; accesses of
its host decoded in the same FAB cycle are evaluated first (R384). -/
def execHostDistrictReset (host : Fin 4) (by_ : DistReset) (s : State) : Host.Outcome State Fault Refusal :=
  let s := s.begin
  let d := host.val
  let init := hostInit d
  .next (if s.mode.mode == .reset || !(s.hp d).link then s
    else
      let s := s.accesses (by_.also.filter (·.init == init))
      let s := ((s.resetTpl d).resetLots d).resetIngress d
      let s := ((s.resetLamps d).resetPortRings d by_.rx).resetFxe d
      let s := ((s.resetItems d).resetQueues d).resetObserve d
      let s := ((s.xngReset init).metReset d).calDistReset d
      let s := (s.resetHost d by_.linkDown).resetInit init
      s.mirrorTo d (.distReset host))

end Sys2Proof.Machine
end

