-- ==== Sys2Proof/Machine/Dispatch.lean ====
section
/-! DEFINITION. The dispatch of a command to its meaning, one arm per constructor. -/

namespace Sys2Proof.Machine

/-- The effect of a command on everything but the queue. -/
def exec (i : Instr) (s : State) : Host.Outcome State Fault Refusal :=
  match i with
  | .powerOn => Sys2Proof.Machine.execPowerOn s
  | .brownOut rail mv ns => Sys2Proof.Machine.execBrownOut rail mv ns s
  | .resetNAsserted lowNs => Sys2Proof.Machine.execResetNAsserted lowNs s
  | .resetRelease maint failsafe sdr decl8D big => Sys2Proof.Machine.execResetRelease maint failsafe sdr decl8D big s
  | .bootDone => Sys2Proof.Machine.execBootDone s
  | .bootDoneTimeout => Sys2Proof.Machine.execBootDoneTimeout s
  | .resetCommand init value => Sys2Proof.Machine.execResetCommand init value s
  | .watchdogKick init value => Sys2Proof.Machine.execWatchdogKick init value s
  | .watchdogConfigWrite init value => Sys2Proof.Machine.execWatchdogConfigWrite init value s
  | .watchdogExpiry => Sys2Proof.Machine.execWatchdogExpiry s
  | .deviceFatalEvent code init addr => Sys2Proof.Machine.execDeviceFatalEvent code init addr s
  | .fatalResetExpiry => Sys2Proof.Machine.execFatalResetExpiry s
  | .modeReqStandby init key => Sys2Proof.Machine.execModeReqStandby init key s
  | .modeReqActive init key => Sys2Proof.Machine.execModeReqActive init key s
  | .modeReqMaintenance init key => Sys2Proof.Machine.execModeReqMaintenance init key s
  | .modeTransitionTakesEffect => Sys2Proof.Machine.execModeTransitionTakesEffect s
  | .frameTick => Sys2Proof.Machine.execFrameTick s
  | .tplOpen init key => Sys2Proof.Machine.execTplOpen init key s
  | .tplValidate init key => Sys2Proof.Machine.execTplValidate init key s
  | .validationDone => Sys2Proof.Machine.execValidationDone s
  | .tplApply init key => Sys2Proof.Machine.execTplApply init key s
  | .tplAbort init key => Sys2Proof.Machine.execTplAbort init key s
  | .stagingZeroFillDone => Sys2Proof.Machine.execStagingZeroFillDone s
  | .fullApplyTakesEffect => Sys2Proof.Machine.execFullApplyTakesEffect s
  | .liveApplyTakesEffect => Sys2Proof.Machine.execLiveApplyTakesEffect s
  | .lotReq init value => Sys2Proof.Machine.execLotReq init value s
  | .lotFree init value => Sys2Proof.Machine.execLotFree init value s
  | .lotRstatAck init slot value => Sys2Proof.Machine.execLotRstatAck init slot value s
  | .zeroFillDone => Sys2Proof.Machine.execZeroFillDone s
  | .migrationEvaluation => Sys2Proof.Machine.execMigrationEvaluation s
  | .migrationCopyDone => Sys2Proof.Machine.execMigrationCopyDone s
  | .migrationSwitch => Sys2Proof.Machine.execMigrationSwitch s
  | .patrolScrub => Sys2Proof.Machine.execPatrolScrub s
  | .memoryErrorDetected init frame block uncorrectable => Sys2Proof.Machine.execMemoryErrorDetected init frame block uncorrectable s
  | .dramRefresh chan owed => Sys2Proof.Machine.execDramRefresh chan owed s
  | .dramPowerDown chan idle owed => Sys2Proof.Machine.execDramPowerDown chan idle owed s
  | .lotEccCountRead init ue => Sys2Proof.Machine.execLotEccCountRead init ue s
  | .bar2Read host off len => Sys2Proof.Machine.execBar2Read host off len s
  | .bar2Write host off data => Sys2Proof.Machine.execBar2Write host off data s
  | .ingressPacket port bytes room => Sys2Proof.Machine.execIngressPacket port bytes room s
  | .igmpQuery port group => Sys2Proof.Machine.execIgmpQuery port group s
  | .ingRelearn init input value => Sys2Proof.Machine.execIngRelearn init input value s
  | .ingHdPost init input value => Sys2Proof.Machine.execIngHdPost init input value s
  | .ingHdComplete input => Sys2Proof.Machine.execIngHdComplete input s
  | .inputLost input => Sys2Proof.Machine.execInputLost input s
  | .plzCommitLayer init plaza mask => Sys2Proof.Machine.execPlzCommitLayer init plaza mask s
  | .plzCommitBg init plaza => Sys2Proof.Machine.execPlzCommitBg init plaza s
  | .plzLatch plaza => Sys2Proof.Machine.execPlzLatch plaza s
  | .canvasRowCompose plaza row late wbFull => Sys2Proof.Machine.execCanvasRowCompose plaza row late wbFull s
  | .canvasComplete plaza => Sys2Proof.Machine.execCanvasComplete plaza s
  | .plzUnderrunRead init plaza => Sys2Proof.Machine.execPlzUnderrunRead init plaza s
  | .blvTcommit init tile value => Sys2Proof.Machine.execBlvTcommit init tile value s
  | .blvGmasterWrite init canvas value => Sys2Proof.Machine.execBlvGmasterWrite init canvas value s
  | .blvRunDone boulevard tile run => Sys2Proof.Machine.execBlvRunDone boulevard tile run s
  | .aveSliceFetchDone port => Sys2Proof.Machine.execAveSliceFetchDone port s
  | .ctSliceStart port => Sys2Proof.Machine.execCtSliceStart port s
  | .frameDeadline port plaza => Sys2Proof.Machine.execFrameDeadline port plaza s
  | .aveUnderrunRead init port => Sys2Proof.Machine.execAveUnderrunRead init port s
  | .portTxFrameDone port => Sys2Proof.Machine.execPortTxFrameDone port s
  | .lmsCqPost init port value => Sys2Proof.Machine.execLmsCqPost init port value s
  | .ctrlResp port bytes => Sys2Proof.Machine.execCtrlResp port bytes s
  | .resyncAck port bytes => Sys2Proof.Machine.execResyncAck port bytes s
  | .sessionTimerExpiry tile => Sys2Proof.Machine.execSessionTimerExpiry tile s
  | .downResync tile => Sys2Proof.Machine.execDownResync tile s
  | .lmsCplPop init port => Sys2Proof.Machine.execLmsCplPop init port s
  | .blackoutDoorbell host value => Sys2Proof.Machine.execBlackoutDoorbell host value s
  | .houseDoorbell init value => Sys2Proof.Machine.execHouseDoorbell init value s
  | .blackoutRelease init value => Sys2Proof.Machine.execBlackoutRelease init value s
  | .linkUp port => Sys2Proof.Machine.execLinkUp port s
  | .linkDown port fault => Sys2Proof.Machine.execLinkDown port fault s
  | .prtSerdesWrite init port value => Sys2Proof.Machine.execPrtSerdesWrite init port value s
  | .preemptVerifyDone port ok => Sys2Proof.Machine.execPreemptVerifyDone port ok s
  | .portRxFrame port bytes rx => Sys2Proof.Machine.execPortRxFrame port bytes rx s
  | .ringEnable init ring value => Sys2Proof.Machine.execRingEnable init ring value s
  | .ringDisable init ring value => Sys2Proof.Machine.execRingDisable init ring value s
  | .ringTailWrite init ring value => Sys2Proof.Machine.execRingTailWrite init ring value s
  | .ringTxDescriptor port ring => Sys2Proof.Machine.execRingTxDescriptor port ring s
  | .ringEventTimer ring => Sys2Proof.Machine.execRingEventTimer ring s
  | .cltIncrWrite init value => Sys2Proof.Machine.execCltIncrWrite init value s
  | .slewStart init value => Sys2Proof.Machine.execSlewStart init value s
  | .slewDone => Sys2Proof.Machine.execSlewDone s
  | .cltStepAdd init key => Sys2Proof.Machine.execCltStepAdd init key s
  | .cltStepSet init key => Sys2Proof.Machine.execCltStepSet init key s
  | .cltLatchingRead init which => Sys2Proof.Machine.execCltLatchingRead init which s
  | .ptpMessage port bytes => Sys2Proof.Machine.execPtpMessage port bytes s
  | .ptpSyncInterval port => Sys2Proof.Machine.execPtpSyncInterval port s
  | .ptpAnnounceInterval port => Sys2Proof.Machine.execPtpAnnounceInterval port s
  | .announceReceiptTimeout => Sys2Proof.Machine.execAnnounceReceiptTimeout s
  | .syncReceiptTimeout => Sys2Proof.Machine.execSyncReceiptTimeout s
  | .ltcWordStart => Sys2Proof.Machine.execLtcWordStart s
  | .ltcInputWord word period => Sys2Proof.Machine.execLtcInputWord word period s
  | .ltcInputTimeout => Sys2Proof.Machine.execLtcInputTimeout s
  | .refmonWindowEnd count gap => Sys2Proof.Machine.execRefmonWindowEnd count gap s
  | .refclkFail gap count => Sys2Proof.Machine.execRefclkFail gap count s
  | .clockSwitchDone => Sys2Proof.Machine.execClockSwitchDone s
  | .fxeDcommit init slot value => Sys2Proof.Machine.execFxeDcommit init slot value s
  | .fxeMergeDone uni => Sys2Proof.Machine.execFxeMergeDone uni s
  | .dmxPacketEnd dmx => Sys2Proof.Machine.execDmxPacketEnd dmx s
  | .rdmBroadcast init dmx => Sys2Proof.Machine.execRdmBroadcast init dmx s
  | .rdmRequest init dmx => Sys2Proof.Machine.execRdmRequest init dmx s
  | .rdmDiscovery init dmx => Sys2Proof.Machine.execRdmDiscovery init dmx s
  | .rdmResponse dmx bytes => Sys2Proof.Machine.execRdmResponse dmx bytes s
  | .rdmExchangeTimeout dmx => Sys2Proof.Machine.execRdmExchangeTimeout dmx s
  | .submissionPost init slot lane dword words => Sys2Proof.Machine.execSubmissionPost init slot lane dword words s
  | .itemAdmission => Sys2Proof.Machine.execItemAdmission s
  | .agingPoint => Sys2Proof.Machine.execAgingPoint s
  | .itemDispatch core => Sys2Proof.Machine.execItemDispatch core s
  | .itemComplete core => Sys2Proof.Machine.execItemComplete core s
  | .runLimitStop core uids => Sys2Proof.Machine.execRunLimitStop core uids s
  | .deferredCompletionWrite slot => Sys2Proof.Machine.execDeferredCompletionWrite slot s
  | .handlerEcho core => Sys2Proof.Machine.execHandlerEcho core s
  | .handlerCopy core => Sys2Proof.Machine.execHandlerCopy core s
  | .handlerFill core => Sys2Proof.Machine.execHandlerFill core s
  | .handlerLutgen core => Sys2Proof.Machine.execHandlerLutgen core s
  | .handlerCrc core => Sys2Proof.Machine.execHandlerCrc core s
  | .handlerRdmdisc core uids => Sys2Proof.Machine.execHandlerRdmdisc core uids s
  | .handlerUnivsnap core => Sys2Proof.Machine.execHandlerUnivsnap core s
  | .traceEnable init slot value => Sys2Proof.Machine.execTraceEnable init slot value s
  | .queCqPop init slot => Sys2Proof.Machine.execQueCqPop init slot s
  | .cqMark init slot => Sys2Proof.Machine.execCqMark init slot s
  | .cqRewind init slot => Sys2Proof.Machine.execCqRewind init slot s
  | .h2fPost init header => Sys2Proof.Machine.execH2fPost init header s
  | .f2hPost init host header => Sys2Proof.Machine.execF2hPost init host header s
  | .f2hPop init => Sys2Proof.Machine.execF2hPop init s
  | .h2fPop init host => Sys2Proof.Machine.execH2fPop init host s
  | .mbxEcho host => Sys2Proof.Machine.execMbxEcho host s
  | .mbxVersion host => Sys2Proof.Machine.execMbxVersion host s
  | .fwHeartbeat host => Sys2Proof.Machine.execFwHeartbeat host s
  | .hostDistrictReset host by_ => Sys2Proof.Machine.execHostDistrictReset host by_ s
  | .hostLinkUp link => Sys2Proof.Machine.execHostLinkUp link s
  | .powerStateChange host d3 => Sys2Proof.Machine.execPowerStateChange host d3 s
  | .busMasterEnable host => Sys2Proof.Machine.execBusMasterEnable host s
  | .msixVectorUnmask host vector => Sys2Proof.Machine.execMsixVectorUnmask host vector s
  | .dmaDescriptorStart host engine => Sys2Proof.Machine.execDmaDescriptorStart host engine s
  | .dmaHostCompletion host engine bytes ep ok => Sys2Proof.Machine.execDmaHostCompletion host engine bytes ep ok s
  | .dmaCompletionTimeout host engine => Sys2Proof.Machine.execDmaCompletionTimeout host engine s
  | .dmaDescriptorDone host engine => Sys2Proof.Machine.execDmaDescriptorDone host engine s
  | .crossingRead input addr => Sys2Proof.Machine.execCrossingRead input addr s
  | .crossingRepeat input addr => Sys2Proof.Machine.execCrossingRepeat input addr s
  | .crossingWrite input addr value => Sys2Proof.Machine.execCrossingWrite input addr value s
  | .farSideResponse kerb answer => Sys2Proof.Machine.execFarSideResponse kerb answer s
  | .farSideTimeout kerb => Sys2Proof.Machine.execFarSideTimeout kerb s
  | .prefetchHoldExpiry input => Sys2Proof.Machine.execPrefetchHoldExpiry input s
  | .xngSemRead init sem => Sys2Proof.Machine.execXngSemRead init sem s
  | .xngSemWrite init sem value => Sys2Proof.Machine.execXngSemWrite init sem value s
  | .xngSemlogRead init => Sys2Proof.Machine.execXngSemlogRead init s
  | .xngLogPop init slot lost => Sys2Proof.Machine.execXngLogPop init slot lost s
  | .dimmingPeriodStart meas => Sys2Proof.Machine.execDimmingPeriodStart meas s
  | .channelLevelWrite init ch value => Sys2Proof.Machine.execChannelLevelWrite init ch value s
  | .channelFaultClear init ch value => Sys2Proof.Machine.execChannelFaultClear init ch value s
  | .groupStepCommand init group value => Sys2Proof.Machine.execGroupStepCommand init group value s
  | .groupFaultClear init group value => Sys2Proof.Machine.execGroupFaultClear init group value s
  | .ntcMeasurement ntc reading => Sys2Proof.Machine.execNtcMeasurement ntc reading s
  | .kerbLinkLoss => Sys2Proof.Machine.execKerbLinkLoss s
  | .ckoConfigWrite init out value => Sys2Proof.Machine.execCkoConfigWrite init out value s
  | .ckoRelockDone out => Sys2Proof.Machine.execCkoRelockDone out s
  | .meterSample codes sense => Sys2Proof.Machine.execMeterSample codes sense s
  | .meterBlockBoundary phase => Sys2Proof.Machine.execMeterBlockBoundary phase s
  | .meterTempMeasure temp => Sys2Proof.Machine.execMeterTempMeasure temp s
  | .meterSave ok => Sys2Proof.Machine.execMeterSave ok s
  | .meterClear init value => Sys2Proof.Machine.execMeterClear init value s
  | .meterSnapshot init slot => Sys2Proof.Machine.execMeterSnapshot init slot s
  | .pulseWidthExpiry => Sys2Proof.Machine.execPulseWidthExpiry s
  | .pulseGapExpiry => Sys2Proof.Machine.execPulseGapExpiry s
  | .calStart init value => Sys2Proof.Machine.execCalStart init value s
  | .calAbort init value => Sys2Proof.Machine.execCalAbort init value s
  | .calStoreDone ok => Sys2Proof.Machine.execCalStoreDone ok s
  | .unitGate init unit => Sys2Proof.Machine.execUnitGate init unit s
  | .unitUngate init unit => Sys2Proof.Machine.execUnitUngate init unit s
  | .unitGated => Sys2Proof.Machine.execUnitGated s
  | .gateBusyTimeout => Sys2Proof.Machine.execGateBusyTimeout s
  | .unitWake unit => Sys2Proof.Machine.execUnitWake unit s
  | .unitWakeDone unit => Sys2Proof.Machine.execUnitWakeDone unit s
  | .causewayLinkChange up => Sys2Proof.Machine.execCausewayLinkChange up s
  | .cwLeaseFrame frame => Sys2Proof.Machine.execCwLeaseFrame frame s
  | .cwStatusFrame frame => Sys2Proof.Machine.execCwStatusFrame frame s
  | .leaseRenewalPoint => Sys2Proof.Machine.execLeaseRenewalPoint s
  | .cswRenew init value => Sys2Proof.Machine.execCswRenew init value s
  | .leaseExpiry => Sys2Proof.Machine.execLeaseExpiry s
  | .leaseInChange level => Sys2Proof.Machine.execLeaseInChange level s
  | .leaseWatchExpiry => Sys2Proof.Machine.execLeaseWatchExpiry s
  | .claimWaitExpiry => Sys2Proof.Machine.execClaimWaitExpiry s
  | .claimGuardExpiry => Sys2Proof.Machine.execClaimGuardExpiry s
  | .leasePinFault => Sys2Proof.Machine.execLeasePinFault s
  | .cswHandover init key => Sys2Proof.Machine.execCswHandover init key s
  | .cswResync init key => Sys2Proof.Machine.execCswResync init key s
  | .handoverFrame boundary epoch => Sys2Proof.Machine.execHandoverFrame boundary epoch s
  | .acceptFrame boundary => Sys2Proof.Machine.execAcceptFrame boundary s
  | .handoverAcceptTimeout => Sys2Proof.Machine.execHandoverAcceptTimeout s
  | .handoverAssertDeadline => Sys2Proof.Machine.execHandoverAssertDeadline s
  | .mirrorRecord item => Sys2Proof.Machine.execMirrorRecord item s
  | .frameRecord item => Sys2Proof.Machine.execFrameRecord item s
  | .frameRecordLate => Sys2Proof.Machine.execFrameRecordLate s
  | .blackRecord black bgen dist => Sys2Proof.Machine.execBlackRecord black bgen dist s
  | .syncStepDone => Sys2Proof.Machine.execSyncStepDone s
  | .updOpen req => Sys2Proof.Machine.execUpdOpen req s
  | .updStatus req => Sys2Proof.Machine.execUpdStatus req s
  | .updBegin req => Sys2Proof.Machine.execUpdBegin req s
  | .updBlock req => Sys2Proof.Machine.execUpdBlock req s
  | .updBlockProgrammed io => Sys2Proof.Machine.execUpdBlockProgrammed io s
  | .updBitmap req => Sys2Proof.Machine.execUpdBitmap req s
  | .updVerify req => Sys2Proof.Machine.execUpdVerify req s
  | .updVerifyDone => Sys2Proof.Machine.execUpdVerifyDone s
  | .updActivate req => Sys2Proof.Machine.execUpdActivate req s
  | .updConfirm req => Sys2Proof.Machine.execUpdConfirm req s
  | .updRevert req => Sys2Proof.Machine.execUpdRevert req s
  | .updAbort req => Sys2Proof.Machine.execUpdAbort req s
  | .updReset req => Sys2Proof.Machine.execUpdReset req s
  | .updLcs req => Sys2Proof.Machine.execUpdLcs req s
  | .updClose req => Sys2Proof.Machine.execUpdClose req s
  | .updSessionTimeout => Sys2Proof.Machine.execUpdSessionTimeout s
  | .pmcPinWrite init slot pin value => Sys2Proof.Machine.execPmcPinWrite init slot pin value s
  | .bwWindowEnd => Sys2Proof.Machine.execBwWindowEnd s
  | .errorCollect => Sys2Proof.Machine.execErrorCollect s
  | .errPop init slot => Sys2Proof.Machine.execErrPop init slot s
  | .errInject init value => Sys2Proof.Machine.execErrInject init value s
  | .thermalAlert sensor temp => Sys2Proof.Machine.execThermalAlert sensor temp s
  | .thermalTrip sensor temp => Sys2Proof.Machine.execThermalTrip sensor temp s
  | .reg64LoRead init req => Sys2Proof.Machine.execReg64LoRead init req s
  | .registerWrite init addr req => Sys2Proof.Machine.execRegisterWrite init addr req s
  | .peerStatusTimeout => Sys2Proof.Machine.execPeerStatusTimeout s
  | .statusFrameInterval => Sys2Proof.Machine.execStatusFrameInterval s
  | .ptpDelayReqInterval port => Sys2Proof.Machine.execPtpDelayReqInterval port s
  | .pathDeliveryTimeout input pathB => Sys2Proof.Machine.execPathDeliveryTimeout input pathB s
  | .kerbLinkReturn => Sys2Proof.Machine.execKerbLinkReturn s

end Sys2Proof.Machine
end

