-- ==== Sys2Proof/Machine/Pins.lean ====
section
/-! DEFINITION. The pins (R34, R411, R415, R437, R539, R547): what each group of pins does while the device is unpowered, in
Reset and, where no protocol moves it, in the other modes. -/

namespace Sys2Proof.Machine

/-- The rows of R539, one entry for each group of pins that behaves alike. -/
inductive PinGroup where
  | serdesTx
  | serdesRx
  | pciExpress
  /-- XSPI_RST_N and XSPI_CLK -/
  | xspiClk
  /-- XSPI_CS_N and ESB_CS_N -/
  | chipSelects
  /-- XSPI_DQ, XSPI_DS, ESB_D and TDO -/
  | busData
  | esbClk
  | leaseOut
  | thermAlert
  | thermTrip
  | kgDrv
  | signFault
  | metPulse
  | ltcOut
  | dmxDe
  | dmxTx
  | clockOut
  | ntcRef
  /-- TRST_N, MAINT, SIGN_FAILSAFE and XSPI_SDR -/
  | pulledInputs
deriving DecidableEq, Repr

/-- What a pin does. -/
inductive PinState where
  | highImpedance
  /-- below 30 mV differential -/
  | electricallyIdle
  | unterminated
  | terminated
  | low
  | high
  /-- an open-drain pin that nothing pulls low -/
  | released
  | off
  /-- an input with no pull, or pulled down by 50 kΩ -/
  | noPull
  | pulledDown
  /-- the pin follows its protocol -/
  | byOwner
deriving DecidableEq, Repr

/-- The first column of R539: the group-1 rails are below their valid thresholds. -/
def unpoweredPin : PinGroup → PinState
  | .serdesRx => .unterminated
  | .thermAlert | .thermTrip => .released
  | .ntcRef => .off
  | .pulledInputs => .noPull
  | .serdesTx | .pciExpress | .xspiClk | .chipSelects | .busData | .esbClk | .leaseOut | .kgDrv | .signFault | .metPulse
  | .ltcOut | .dmxDe | .dmxTx | .clockOut => .highImpedance

/-- An open-drain thermal pin (R547). -/
def openDrain (pulled : Bool) : PinState := if pulled then .low else .released

/-- The second column of R539; the thermal pins follow the temperature (R547). -/
def State.resetPin (s : State) : PinGroup → PinState
  | .serdesTx | .pciExpress => .electricallyIdle
  | .serdesRx => .terminated
  | .xspiClk | .esbClk | .leaseOut | .dmxDe | .clockOut => .low
  | .chipSelects | .dmxTx => .high
  | .busData | .kgDrv | .signFault | .metPulse | .ltcOut => .highImpedance
  | .thermAlert => openDrain s.therm.alert
  | .thermTrip => openDrain s.therm.trip
  | .ntcRef => .off
  | .pulledInputs => .pulledDown

/-- A pin of a group as the mode and the block that owns it set it: R539 in Reset, R34 and the owning chapters after it. -/
def State.pin (s : State) (g : PinGroup) : PinState :=
  let up := s.mode.mode.linesUp
  if s.mode.mode == .reset then s.resetPin g
  else match g with
    | .thermAlert => openDrain s.therm.alert
    | .thermTrip => openDrain s.therm.trip
    | .serdesTx => if up then .byOwner else .electricallyIdle
    | .serdesRx => .terminated
    | .leaseOut => if s.bitOf Reg.cswStatus 8 then .high else .low
    | .kgDrv => if s.mode.mode == .active && s.krb.driving then .byOwner else .highImpedance
    | .signFault => if s.mode.mode == .active && s.krb.driving then openDrain (s.bitOf Reg.krbStatus 3) else .highImpedance
    | .metPulse =>
      if !up then .highImpedance else match s.met.pulse with | .low _ => .low | .gap _ | .idle => .high
    | .dmxDe => if up then .high else .low
    | .dmxTx => if s.mode.mode == .active then .byOwner else .high
    | .pciExpress => if s.mode.mode == .safe then .electricallyIdle else .byOwner
    | .pulledInputs => .pulledDown
    | .xspiClk | .chipSelects | .busData | .esbClk | .ltcOut | .clockOut | .ntcRef => .byOwner

end Sys2Proof.Machine
end

