-- ==== Sys2Proof/WellFormed.lean ====
section
/-! DEFINITION. Well-formed commands: the ranges of those operands whose Lean type is wider than what the specification
lets the command carry. No meaning refuses an ill-formed command; statements that need the ranges name `Instr.wf`. -/

namespace Sys2Proof

/-- A rail of the table of R542: eleven rows. -/
def railOk (rail : Nat) : Bool := rail < 11
/-- An access within BAR2 of 64 GiB (R372): at least one byte, none beyond its end. -/
def bar2Ok (off len : Nat) : Bool := 1 ≤ len && off + len ≤ 2 ^ 36
/-- An Ethernet frame holds two MAC addresses and an EtherType (R228, R265). -/
def frameOk (bytes : List Byte) : Bool := 14 ≤ bytes.length
/-- A universe number of E1.31: 1 to 63,999 (R310). -/
def universeOk (uni : Nat) : Bool := 1 ≤ uni && uni ≤ 63999
/-- A write into a submission window of 64 bytes (R355). -/
def postOk (dword : Nat) (words : List Word32) : Bool := words != [] && dword + words.length ≤ 16
/-- An address of a block behind the Crossing (R385): block numbers 14 to 17. -/
def crossingOk (addr : Nat) : Bool := 0xE00000 ≤ addr && addr < 0x1200000
/-- A far side answers a read with the dwords of one line (R392). -/
def answerOk : FarAnswer → Bool
  | .data words => words != [] && words.length ≤ 16
  | .ack => true
  | .refusedAccess => true
  | .linkError => true
/-- An ADC code of a metering input: signed, 24 bits (R421). -/
def codeOk (c : Int) : Bool := -8388608 ≤ c && c ≤ 8388607
/-- No value stands twice in a list. -/
def distinct {α : Type} [BEq α] : List α → Bool
  | [] => true
  | x :: t => !t.contains x && distinct t
/-- A district number: 0 to 3, or 7 for the house district (R16). -/
def districtOk (d : Nat) : Bool := d < 4 || d == 7
/-- A register's byte address inside BAR0 of 64 MiB (R372). -/
def registerOk (addr : Nat) : Bool := addr < 0x4000000
/-- Where a host port's MSI-X table and Pending Bit Array (0x8000_0000 upward, as BAR4 lays them out) and the words of its
configuration space (0x9000_0000 upward) are read and written in this model. -/
def configOk (addr : Nat) : Bool :=
  (0x80000000 ≤ addr && addr < 0x80001000) || (0x80002000 ≤ addr && addr < 0x80002020) ||
  (0x90000000 ≤ addr && addr ≤ 0x90000028 && addr % 4 == 0)
/-- The accesses that share a FAB cycle are accesses to registers. -/
def alsoOk (l : List Acc) : Bool := l.all (fun a => registerOk a.addr)
/-- A link of a host port has 1, 2, 4 or 8 lanes and one of five generations. -/
def linkOk (width gen : Nat) : Bool := [1, 2, 4, 8].contains width && 1 ≤ gen && gen ≤ 5
/-- The numbers of a mirror record lie in their ranges (R484). -/
def mirrorOk : MirrorRec → Bool
  | .fullPlan _ => true
  | .livePlan _ _ => true
  | .lotWrite set _ _ => set < 65536
  | .submission dist lane words => districtOk dist && lane < 8 && words.length == 16
  | .hdPost input set _ _ _ => input < 16 && set < 65536
  | .distReset _ => true
  | .overflow => true
/-- The numbers of a FRAME record lie in their ranges (R484). -/
def frameRecOk (r : FrameRec) : Bool :=
  r.layers.all (fun e => e.1 < 4 && e.2.1 ≤ 16) && r.tiles.all (fun e => e.1 < 4096) &&
  r.gmasters.all (fun e => e.1 < 4) && r.fxe.all (fun e => e.1 < 5) && r.levels.all (fun e => e.1 < 48) &&
  r.steps.all (fun e => e.1 < 16) && r.inputs.all (fun e => e.1 < 16) && r.mgens.all (fun e => e.1 < 4) &&
  r.seqs.all (fun e => universeOk e.1) && r.syncSeqs.all (fun e => universeOk e.1)

/-- The operands of a command lie in the ranges the specification gives them. -/
def Instr.wf : Instr → Bool
  | .powerOn => true
  | .brownOut rail _ _ => railOk rail
  | .resetNAsserted _ => true
  | .resetRelease _ _ _ _ _ => true
  | .bootDone => true
  | .bootDoneTimeout => true
  | .resetCommand _ _ => true
  | .watchdogKick _ _ => true
  | .watchdogConfigWrite _ _ => true
  | .watchdogExpiry => true
  | .deviceFatalEvent code _ _ => code == 0x01#8 || code == 0x02#8
  | .fatalResetExpiry => true
  | .modeReqStandby _ _ => true
  | .modeReqActive _ _ => true
  | .modeReqMaintenance _ _ => true
  | .modeTransitionTakesEffect => true
  | .frameTick => true
  | .tplOpen _ _ => true
  | .tplValidate _ _ => true
  | .validationDone => true
  | .tplApply _ _ => true
  | .tplAbort _ _ => true
  | .stagingZeroFillDone => true
  | .fullApplyTakesEffect => true
  | .liveApplyTakesEffect => true
  | .lotReq _ _ => true
  | .lotFree _ _ => true
  | .lotRstatAck _ _ _ => true
  | .zeroFillDone => true
  | .migrationEvaluation => true
  | .migrationCopyDone => true
  | .migrationSwitch => true
  | .patrolScrub => true
  | .memoryErrorDetected _ frame block _ => frame < 8288 && block < 32768
  | .dramRefresh _ _ => true
  | .dramPowerDown _ _ _ => true
  | .lotEccCountRead _ _ => true
  | .bar2Read _ off len => bar2Ok off len
  | .bar2Write _ off data => bar2Ok off data.bytes.length
  | .ingressPacket _ bytes _ => frameOk bytes
  | .igmpQuery _ _ => true
  | .ingRelearn _ _ _ => true
  | .ingHdPost _ _ _ => true
  | .ingHdComplete _ => true
  | .inputLost _ => true
  | .plzCommitLayer _ _ _ => true
  | .plzCommitBg _ _ => true
  | .plzLatch _ => true
  | .canvasRowCompose _ row _ _ => row < 16384
  | .canvasComplete _ => true
  | .plzUnderrunRead _ _ => true
  | .blvTcommit _ _ _ => true
  | .blvGmasterWrite _ _ _ => true
  | .blvRunDone _ _ run => run < 16
  | .aveSliceFetchDone _ => true
  | .ctSliceStart _ => true
  | .frameDeadline _ _ => true
  | .aveUnderrunRead _ _ => true
  | .portTxFrameDone _ => true
  | .lmsCqPost _ _ _ => true
  | .ctrlResp _ bytes => frameOk bytes
  | .resyncAck _ bytes => frameOk bytes
  | .sessionTimerExpiry _ => true
  | .downResync _ => true
  | .lmsCplPop _ _ => true
  | .blackoutDoorbell _ _ => true
  | .houseDoorbell _ _ => true
  | .blackoutRelease _ _ => true
  | .linkUp _ => true
  | .linkDown _ _ => true
  | .prtSerdesWrite _ _ _ => true
  | .preemptVerifyDone _ _ => true
  | .portRxFrame _ bytes _ => frameOk bytes
  | .ringEnable _ _ _ => true
  | .ringDisable _ _ _ => true
  | .ringTailWrite _ _ _ => true
  | .ringTxDescriptor _ _ => true
  | .ringEventTimer _ => true
  | .cltIncrWrite _ _ => true
  | .slewStart _ _ => true
  | .slewDone => true
  | .cltStepAdd _ _ => true
  | .cltStepSet _ _ => true
  | .cltLatchingRead _ _ => true
  | .ptpMessage _ bytes => frameOk bytes
  | .ptpSyncInterval _ => true
  | .ptpAnnounceInterval _ => true
  | .announceReceiptTimeout => true
  | .syncReceiptTimeout => true
  | .ltcWordStart => true
  | .ltcInputWord _ period => 0 < period
  | .ltcInputTimeout => true
  | .refmonWindowEnd count _ => count < 65536
  | .refclkFail _ _ => true
  | .clockSwitchDone => true
  | .fxeDcommit _ _ _ => true
  | .fxeMergeDone uni => universeOk uni
  | .dmxPacketEnd _ => true
  | .rdmBroadcast _ _ => true
  | .rdmRequest _ _ => true
  | .rdmDiscovery _ _ => true
  | .rdmResponse _ bytes => bytes.length ≤ 257
  | .rdmExchangeTimeout _ => true
  | .submissionPost _ _ _ dword words => postOk dword.val words
  | .itemAdmission => true
  | .agingPoint => true
  | .itemDispatch _ => true
  | .itemComplete _ => true
  | .runLimitStop _ uids => distinct uids
  | .deferredCompletionWrite _ => true
  | .handlerEcho _ => true
  | .handlerCopy _ => true
  | .handlerFill _ => true
  | .handlerLutgen _ => true
  | .handlerCrc _ => true
  | .handlerRdmdisc _ uids => distinct uids
  | .handlerUnivsnap _ => true
  | .traceEnable _ _ _ => true
  | .queCqPop _ _ => true
  | .cqMark _ _ => true
  | .cqRewind _ _ => true
  | .h2fPost _ _ => true
  | .f2hPost _ _ _ => true
  | .f2hPop _ => true
  | .h2fPop _ _ => true
  | .mbxEcho _ => true
  | .mbxVersion _ => true
  | .fwHeartbeat _ => true
  | .hostDistrictReset _ by_ => alsoOk by_.also && by_.rx.all (· < 64)
  | .hostLinkUp link => linkOk link.width link.gen
  | .powerStateChange _ _ => true
  | .busMasterEnable _ => true
  | .msixVectorUnmask _ _ => true
  | .dmaDescriptorStart _ _ => true
  | .dmaHostCompletion _ _ bytes _ _ => bytes != []
  | .dmaCompletionTimeout _ _ => true
  | .dmaDescriptorDone _ _ => true
  | .crossingRead _ addr => crossingOk addr
  | .crossingRepeat _ addr => crossingOk addr
  | .crossingWrite _ addr _ => crossingOk addr
  | .farSideResponse _ answer => answerOk answer
  | .farSideTimeout _ => true
  | .prefetchHoldExpiry _ => true
  | .xngSemRead _ _ => true
  | .xngSemWrite _ _ _ => true
  | .xngSemlogRead _ => true
  | .xngLogPop _ _ _ => true
  | .dimmingPeriodStart meas => distinct (meas.map (·.ch))
  | .channelLevelWrite _ _ _ => true
  | .channelFaultClear _ _ _ => true
  | .groupStepCommand _ _ _ => true
  | .groupFaultClear _ _ _ => true
  | .ntcMeasurement _ _ => true
  | .kerbLinkLoss => true
  | .ckoConfigWrite _ _ _ => true
  | .ckoRelockDone _ => true
  | .meterSample codes sense => codes.length == 12 && codes.all codeOk && codeOk sense
  | .meterBlockBoundary _ => true
  | .meterTempMeasure _ => true
  | .meterSave _ => true
  | .meterClear _ _ => true
  | .meterSnapshot _ _ => true
  | .pulseWidthExpiry => true
  | .pulseGapExpiry => true
  | .calStart _ _ => true
  | .calAbort _ _ => true
  | .calStoreDone _ => true
  | .unitGate _ _ => true
  | .unitUngate _ _ => true
  | .unitGated => true
  | .gateBusyTimeout => true
  | .unitWake unit => unit < 40
  | .unitWakeDone unit => unit < 40
  | .causewayLinkChange _ => true
  | .cwLeaseFrame frame => frame.remaining < 65536
  | .cwStatusFrame frame => frame.down < 2 ^ 64
  | .leaseRenewalPoint => true
  | .cswRenew _ _ => true
  | .leaseExpiry => true
  | .leaseInChange _ => true
  | .leaseWatchExpiry => true
  | .claimWaitExpiry => true
  | .claimGuardExpiry => true
  | .leasePinFault => true
  | .cswHandover _ _ => true
  | .cswResync _ _ => true
  | .handoverFrame _ _ => true
  | .acceptFrame _ => true
  | .handoverAcceptTimeout => true
  | .handoverAssertDeadline => true
  | .mirrorRecord item => mirrorOk item
  | .frameRecord item => frameRecOk item
  | .frameRecordLate => true
  | .blackRecord _ _ dist => districtOk dist
  | .syncStepDone => true
  | .updOpen req => req.payload.length ≤ 1024
  | .updStatus req => req.payload.length ≤ 1024
  | .updBegin req => req.payload.length ≤ 1024
  | .updBlock req => req.payload.length ≤ 1024
  | .updBlockProgrammed _ => true
  | .updBitmap req => req.payload.length ≤ 1024
  | .updVerify req => req.payload.length ≤ 1024
  | .updVerifyDone => true
  | .updActivate req => req.payload.length ≤ 1024
  | .updConfirm req => req.payload.length ≤ 1024
  | .updRevert req => req.payload.length ≤ 1024
  | .updAbort req => req.payload.length ≤ 1024
  | .updReset req => req.payload.length ≤ 1024
  | .updLcs req => req.payload.length ≤ 1024
  | .updClose req => req.payload.length ≤ 1024
  | .updSessionTimeout => true
  | .pmcPinWrite _ _ _ _ => true
  | .bwWindowEnd => true
  | .errorCollect => true
  | .errPop _ _ => true
  | .errInject _ _ => true
  | .thermalAlert _ _ => true
  | .thermalTrip _ _ => true
  | .reg64LoRead _ req => registerOk req.addr || configOk req.addr
  | .registerWrite _ addr req => (registerOk addr || configOk addr) && alsoOk req.also
  | .peerStatusTimeout => true
  | .statusFrameInterval => true
  | .ptpDelayReqInterval _ => true
  | .pathDeliveryTimeout _ _ => true
  | .kerbLinkReturn => true

end Sys2Proof
end

