-- ==== Sys2Proof/Safety.lean ====
section
/-! DEFINITION. The terms in which statements speak: what a command completes with, when an access is admitted, what counts
as a safe run, and the invariant of the device's data. -/

namespace Sys2Proof

open Machine

/-- The command is carried out at a state, and the next state has property `P`. -/
def Completes (c : Instr) (s : State) (P : State → Prop) : Prop := ∃ t, exec c s = .next t ∧ P t

/-- The device carries out the command in every state. -/
def NeverStops (c : Instr) : Prop := ∀ s, ∃ t, exec c s = .next t

/-- An access of an initiator to block `n` is admitted: it arrives, its district is granted the block, and mirroring does
not keep it out (R17, R33, R34, R488). -/
abbrev Admits (s : State) (init : InitId) (n : Nat) (write : Bool := true) : Prop :=
  s.arrives init = true ∧ s.granted (distOf init) n write = true ∧
    (write && isHost init && (n == 4 || n == 5 || n == 10 || n == 15) && s.mirrorLocked (distOf init)) = false

/-- A control core of the house district while the device is not in Reset (R17, R34). -/
abbrev ByHouse (s : State) (init : InitId) : Prop := isCore init = true ∧ s.mode.mode ≠ .reset

/-- An event comes about only out of Reset, where all logic is held (R34). -/
abbrev Runs (s : State) : Prop := s.mode.mode ≠ .reset

/-- The invariant of the device's data: memory is in its canonical form. -/
def Inv (s : State) : Prop := Memory.wf s.mem = true

/-- The device carries out `k` steps from a state without a fault or a refusal, and the invariant holds at the end. -/
def SafeRun (k : Nat) (s : State) : Prop := ∃ t, core.run k s = .next t ∧ Inv t

/-- The memory bytes of two states read alike. -/
def SameMemory (s t : State) : Prop := ∀ a, Mem.read t.mem a = Mem.read s.mem a

/-- The memory reads alike but for the bytes whose address meets `p`. -/
def SameMemoryBut (p : Nat → Prop) (s t : State) : Prop := ∀ a, ¬ p a → Mem.read t.mem a = Mem.read s.mem a

/-- No copy of lots is under way, of a migration, a retirement or an apply: a write to a set goes to its own lots alone
(R82, R114, R124). -/
abbrev Uncopied (s : State) : Prop :=
  s.lot.copy = none ∧ s.tpl.pend.all (fun p => p.wants.all (fun w => !w.move)) = true

/-- Every register word but those whose key meets `p` reads alike. -/
def SameRegsBut (p : Nat → Prop) (s t : State) : Prop := ∀ k, ¬ p k → t.rd k = s.rd k

/-- The transitions between modes that the table of R35 has, with those that one command of the table performs as a
whole: RESET_RELEASE goes through Boot to Safe when both slots have failed (R465, R467). -/
def modeMove : Mode → Mode → Bool
  | _, .reset => true
  | .reset, .boot => true
  | .reset, .safe => true
  | .boot, .standby => true
  | .boot, .maintenance => true
  | .standby, .active => true
  | .active, .standby => true
  | .standby, .maintenance => true
  | .active, .maintenance => true
  | .maintenance, .standby => true
  | a, b => a == b

end Sys2Proof
end

