-- ==== Sys2Proof/Certificates/Slice0/Obligations.lean ====
section
/-! DEFINITION. The statements for the provers, family by family. `Completes c s P` says that the command is carried out
and the next state has property `P`. -/

open Sys2Proof Sys2Proof.Machine

/-! ### The machine as a whole -/

/-- A step is `exec` of the front command with the rest of the queue; on an empty queue one FAB cycle passes, which is the
model's choice (log entry 1). -/
def Obligations.StepRunsTheFrontCommand : Prop :=
  (∀ (c : Instr) (s : State) (rest : List Instr),
    step { s with pending := c :: rest } = exec c { s with pending := rest }) ∧
  (∀ s : State, s.pending = [] → ∃ t, step s = .next t ∧ t.now = s.now + 8 ∧ t.pending = [] ∧ t.out = [] ∧
    t.resp = none ∧ t.mem = s.mem ∧ t.mode = s.mode ∧ t.plan = s.plan)

/-- Every command leaves the queue of waiting commands as it is. -/
def Obligations.EveryCommandLeavesTheQueue : Prop :=
  ∀ (c : Instr) (s t : State), exec c s = .next t → t.pending = s.pending

/-- No command ends a run. -/
def Obligations.NoCommandStopsTheDevice : Prop := ∀ c : Instr, NeverStops c

/-- Whatever a step does to memory, it keeps the canonical form. -/
def Obligations.EveryStepKeepsMemoryCanonical : Prop :=
  ∀ s t : State, Inv s → step s = .next t → Inv t

/-- Reset memory meets the invariant. -/
def Obligations.ResetMemoryIsCanonical : Prop := Inv State.reset ∧ ∀ a, Mem.read State.reset.mem a = 0

/-- No command makes a transition that the table of R35 does not have. -/
def Obligations.ModesChangeOnlyByTheTable : Prop :=
  ∀ (c : Instr) (s t : State), exec c s = .next t → modeMove s.mode.mode t.mode.mode = true

/-- In Reset every register access is without effect and unanswered. -/
def Obligations.ResetHearsNoAccess : Prop :=
  ∀ (init : InitId) (s : State), s.mode.mode = .reset →
    (∀ v, exec (.resetCommand init v) s = .next s.begin) ∧ (∀ v, exec (.watchdogKick init v) s = .next s.begin) ∧
    (∀ v, exec (.watchdogConfigWrite init v) s = .next s.begin) ∧
    (∀ k, exec (.modeReqStandby init k) s = .next s.begin) ∧ (∀ k, exec (.modeReqActive init k) s = .next s.begin) ∧
    (∀ k, exec (.modeReqMaintenance init k) s = .next s.begin) ∧
    (∀ k, exec (.tplOpen init k) s = .next s.begin) ∧ (∀ k, exec (.tplValidate init k) s = .next s.begin) ∧
    (∀ k, exec (.tplApply init k) s = .next s.begin) ∧ (∀ k, exec (.tplAbort init k) s = .next s.begin) ∧
    (∀ v, exec (.lotReq init v) s = .next s.begin) ∧ (∀ v, exec (.lotFree init v) s = .next s.begin) ∧
    (∀ k v, exec (.lotRstatAck init k v) s = .next s.begin) ∧ (∀ u, exec (.lotEccCountRead init u) s = .next s.begin) ∧
    (∀ i v, exec (.ingRelearn init i v) s = .next s.begin) ∧ (∀ i v, exec (.ingHdPost init i v) s = .next s.begin) ∧
    (∀ p m, exec (.plzCommitLayer init p m) s = .next s.begin) ∧ (∀ p, exec (.plzCommitBg init p) s = .next s.begin) ∧
    (∀ p, exec (.plzUnderrunRead init p) s = .next s.begin) ∧ (∀ t v, exec (.blvTcommit init t v) s = .next s.begin) ∧
    (∀ c v, exec (.blvGmasterWrite init c v) s = .next s.begin) ∧ (∀ p, exec (.aveUnderrunRead init p) s = .next s.begin) ∧
    (∀ p v, exec (.lmsCqPost init p v) s = .next s.begin) ∧ (∀ p, exec (.lmsCplPop init p) s = .next s.begin) ∧
    (∀ v, exec (.houseDoorbell init v) s = .next s.begin) ∧ (∀ v, exec (.blackoutRelease init v) s = .next s.begin) ∧
    (∀ p v, exec (.prtSerdesWrite init p v) s = .next s.begin) ∧ (∀ r v, exec (.ringEnable init r v) s = .next s.begin) ∧
    (∀ r v, exec (.ringDisable init r v) s = .next s.begin) ∧ (∀ r v, exec (.ringTailWrite init r v) s = .next s.begin) ∧
    (∀ v, exec (.cltIncrWrite init v) s = .next s.begin) ∧ (∀ v, exec (.slewStart init v) s = .next s.begin) ∧
    (∀ k, exec (.cltStepAdd init k) s = .next s.begin) ∧ (∀ k, exec (.cltStepSet init k) s = .next s.begin) ∧
    (∀ w, exec (.cltLatchingRead init w) s = .next s.begin) ∧ (∀ j v, exec (.fxeDcommit init j v) s = .next s.begin) ∧
    (∀ k, exec (.rdmBroadcast init k) s = .next s.begin) ∧ (∀ k, exec (.rdmRequest init k) s = .next s.begin) ∧
    (∀ k, exec (.rdmDiscovery init k) s = .next s.begin) ∧
    (∀ j l k ws, exec (.submissionPost init j l k ws) s = .next s.begin) ∧
    (∀ j v, exec (.traceEnable init j v) s = .next s.begin) ∧ (∀ j, exec (.queCqPop init j) s = .next s.begin) ∧
    (∀ j, exec (.cqMark init j) s = .next s.begin) ∧ (∀ j, exec (.cqRewind init j) s = .next s.begin) ∧
    (∀ h, exec (.h2fPost init h) s = .next s.begin) ∧ (∀ d h, exec (.f2hPost init d h) s = .next s.begin) ∧
    exec (.f2hPop init) s = .next s.begin ∧ (∀ d, exec (.h2fPop init d) s = .next s.begin) ∧
    (∀ m, exec (.xngSemRead init m) s = .next s.begin) ∧ (∀ m v, exec (.xngSemWrite init m v) s = .next s.begin) ∧
    exec (.xngSemlogRead init) s = .next s.begin ∧ (∀ j l, exec (.xngLogPop init j l) s = .next s.begin) ∧
    (∀ c v, exec (.channelLevelWrite init c v) s = .next s.begin) ∧
    (∀ c v, exec (.channelFaultClear init c v) s = .next s.begin) ∧
    (∀ g v, exec (.groupStepCommand init g v) s = .next s.begin) ∧
    (∀ g v, exec (.groupFaultClear init g v) s = .next s.begin) ∧
    (∀ k v, exec (.ckoConfigWrite init k v) s = .next s.begin) ∧ (∀ v, exec (.meterClear init v) s = .next s.begin) ∧
    (∀ j, exec (.meterSnapshot init j) s = .next s.begin) ∧ (∀ v, exec (.calStart init v) s = .next s.begin) ∧
    (∀ v, exec (.calAbort init v) s = .next s.begin) ∧ (∀ u, exec (.unitGate init u) s = .next s.begin) ∧
    (∀ u, exec (.unitUngate init u) s = .next s.begin) ∧ (∀ v, exec (.cswRenew init v) s = .next s.begin) ∧
    (∀ k, exec (.cswHandover init k) s = .next s.begin) ∧ (∀ k, exec (.cswResync init k) s = .next s.begin) ∧
    (∀ j p v, exec (.pmcPinWrite init j p v) s = .next s.begin) ∧ (∀ j, exec (.errPop init j) s = .next s.begin) ∧
    (∀ v, exec (.errInject init v) s = .next s.begin) ∧ (∀ a f, a < 0x80000000 → exec (.reg64LoRead init ⟨a, f⟩) s = .next s.begin) ∧
    (∀ a v f, a < 0x80000000 → exec (.registerWrite init a ⟨v, [], f, []⟩) s = .next s.begin)

/-! ### Reset, the start and the watchdog -/

/-- Each trigger of Reset has its cause, and what Reset keeps and forgets. -/
def Obligations.EveryResetHasItsCause : Prop :=
  let resets := fun (c : Instr) (s : State) (cause : Nat) (cold : Bool) =>
    Completes c s (fun t => t.mode.mode = .reset ∧ t.mode.prev = s.mode.mode ∧ t.mode.cause = cause ∧ t.mode.pend = none ∧
      t.rd Reg.ckgRststat = pack [(24, cause), (8, bit cold)] ∧ t.ckg.cold = cold ∧ t.plan = none ∧ t.mem = [] ∧
      t.csw.held = false ∧ t.err.bufs = [] ∧ t.ckg.wd = none ∧
      (∀ g, t.pin g = t.resetPin g) ∧ t.therm = s.therm ∧ t.pin .leaseOut = .low ∧ t.pin .kgDrv = .highImpedance ∧
      ∀ k, k ≠ Reg.ckgRststat → t.nv.find? k = s.nv.find? k)
  (∀ s, resets .powerOn s 0x01 true) ∧
  (∀ s rail mv ns v tol, rails[rail]? = some (v, tol) → 1000 ≤ ns → 100 * mv < v * (98 - tol) →
    resets (.brownOut rail mv ns) s 0x01 true) ∧
  (∀ s low, 1000 ≤ low → ¬ (s.mode.mode = .reset ∧ s.mode.cause = 0x01) → resets (.resetNAsserted low) s 0x02 true) ∧
  (∀ s since, s.ckg.wd = some since → resets .watchdogExpiry s 0x03 false) ∧
  (∀ s init v, s.mode.mode ≠ .reset → (isCore init = true ∨ init = 0x50#8) → field v 16 16 = 0x8E57 →
    resets (.resetCommand init v) s 0x04 false) ∧
  (∀ s t, s.err.fatalAt = some t → resets .fatalResetExpiry s 0x05 false) ∧
  (∀ s, s.mode.mode = .boot → s.lcs.state ≠ 5 → resets .bootDoneTimeout s 0x11 false)

/-- Resets that do not come about. -/
def Obligations.WhatDoesNotReset : Prop :=
  (∀ s low, low < 100 → exec (.resetNAsserted low) s = .next s.begin) ∧
  (∀ s rail mv ns, ns < 1000 → exec (.brownOut rail mv ns) s = .next s.begin) ∧
  (∀ s rail mv ns v tol, rails[rail]? = some (v, tol) → v * (98 - tol) ≤ 100 * mv →
    exec (.brownOut rail mv ns) s = .next s.begin) ∧
  (∀ s init v, ByHouse s init → field v 16 16 ≠ 0x8E57 →
    exec (.resetCommand init v) s = .next (s.begin.setErr Reg.ckgStatus 0x16)) ∧
  (∀ s init v, isHost init = true → Admits s init 18 →
    exec (.resetCommand init v) s = .next (s.begin.setErr Reg.ckgStatus 0x16))

/-- The three ends of a start. -/
def Obligations.BootDoneEndsTheStart : Prop :=
  ∀ s : State, s.mode.mode = .boot → s.lcs.running ≤ 1 →
    Completes .bootDone s (fun t => t.mode.prev = .boot ∧ t.lcs.fails s.lcs.running = 0 ∧ t.ckg.wd = some s.now ∧
      t.mem = s.mem ∧
      (s.versionsAgree = false → t.mode.mode = .maintenance ∧ t.mode.cause = 0x12) ∧
      (s.versionsAgree = true → s.bitOf Reg.ckgStrap 0 = true → t.mode.mode = .maintenance ∧ t.mode.cause = 0x13) ∧
      (s.versionsAgree = true → s.bitOf Reg.ckgStrap 0 = false → t.mode.mode = .standby ∧ t.mode.cause = 0x10))

/-- What the release of reset does. -/
def Obligations.ResetReleaseStartsTheDevice : Prop :=
  (∀ s m f x d b, s.mode.mode = .reset → s.ckg.ok = true →
    Completes (.resetRelease m f x d b) s (fun t =>
      ((t.mode.mode = .boot ∧ t.mode.prev = .reset ∧ t.mode.cause = 0x06) ∨
        (t.mode.mode = .safe ∧ t.mode.prev = .boot ∧ t.mode.cause = 0x14)) ∧
      t.lcs.state = s.lcs.fused ∧ (s.lcs.fused = 5 → t.mode.mode = .boot))) ∧
  (∀ s m f x d b k l, s.mode.mode = .reset → s.ckg.ok = true → s.lcs.fused ≠ 5 →
    LcsState.select (LcsState.trialStart { s.lcs with state := s.lcs.fused, big := b }) = (some k, l) →
    (l.trialEnds k).slotGood k = true →
    Completes (.resetRelease m f x d b) s (fun t => t.mode.mode = .boot ∧ t.mode.cause = 0x06 ∧ t.mode.prev = .reset ∧
      t.rd Reg.ckgBootstep = 16 ∧ t.lcs.running = k ∧ t.lcs.state = s.lcs.fused)) ∧
  (∀ s m f x d b, s.mode.mode ≠ .reset ∨ s.ckg.ok = false → exec (.resetRelease m f x d b) s = .next s.begin)

/-- Kicks and timeouts of the device watchdog. -/
def Obligations.WatchdogKickAndTimeout : Prop :=
  (∀ s init v since, ByHouse s init → field v 16 16 = 0x3D06 → s.ckg.wd = some since →
    exec (.watchdogKick init v) s = .next { s.begin with ckg := { s.ckg with wd := some s.now } }) ∧
  (∀ s init v, ByHouse s init → field v 16 16 ≠ 0x3D06 ∨ s.ckg.wd = none →
    exec (.watchdogKick init v) s = .next s.begin) ∧
  (∀ s init v, ByHouse s init → 10 ≤ field v 0 16 → field v 0 16 ≤ 60000 →
    Completes (.watchdogConfigWrite init v) s (fun t => t.rd Reg.ckgWdcfg = w32 (field v 0 16) ∧
      t.ckg = { s.ckg with wd := s.ckg.wd.map (fun _ => s.now) } ∧ SameRegsBut (· = Reg.ckgWdcfg) s t ∧ t.mem = s.mem)) ∧
  (∀ s init v, ByHouse s init → field v 0 16 < 10 ∨ 60000 < field v 0 16 →
    exec (.watchdogConfigWrite init v) s = .next (s.begin.setErr Reg.ckgStatus 0x18)) ∧
  (∀ s init v, isHost init = true → Admits s init 18 →
    exec (.watchdogKick init v) s = .next (s.begin.setErr Reg.ckgStatus 0x17) ∧
    exec (.watchdogConfigWrite init v) s = .next (s.begin.setErr Reg.ckgStatus 0x17))

/-! ### Operating modes -/

/-- The four refusals of a mode request, in their order, and that nothing but REQ_RESULT changes. -/
def Obligations.ModeRequestsAreCheckedInOrder : Prop :=
  let asks := fun (c : Instr) (init : InitId) (key : BitVec 16) (target : Mode) (s : State) =>
    let d := distOf init
    (key ≠ 0x5A17#16 → exec c s = .next (s.begin.reqResult d 4)) ∧
    (key = 0x5A17#16 → s.auth false (·.modeAuth) d = false → exec c s = .next (s.begin.reqResult d 2)) ∧
    (key = 0x5A17#16 → s.auth false (·.modeAuth) d = true → s.mode.pend.isSome = true →
      exec c s = .next (s.begin.reqResult d 5)) ∧
    (key = 0x5A17#16 → s.auth false (·.modeAuth) d = true → s.mode.pend = none → s.requestable target = false →
      exec c s = .next (s.begin.reqResult d 3))
  ∀ (s : State) (init : InitId) (key : BitVec 16), Admits s init 0 →
    asks (.modeReqStandby init key) init key .standby s ∧ asks (.modeReqActive init key) init key .active s ∧
    asks (.modeReqMaintenance init key) init key .maintenance s

/-- What an accepted mode request does. -/
def Obligations.AcceptedModeRequests : Prop :=
  ∀ (s : State) (init : InitId), Admits s init 0 → s.auth false (·.modeAuth) (distOf init) = true → s.mode.pend = none →
    (s.mode.mode = .standby → s.pl.cw = none →
      Completes (.modeReqActive init 0x5A17#16) s (fun t => t = { s.begin.reqResult (distOf init) 1 with mode := { s.mode with
        pend := some { target := .active, cause := 0x20, bounds := 1, afterApply := s.tpl.pend.any (fun a => !a.chk.live) } } })) ∧
    (s.mode.mode = .standby → s.pl.cw.isSome = true →
      Completes (.modeReqActive init 0x5A17#16) s (fun t => t = (s.begin.reqResult (distOf init) 1).setArmed true)) ∧
    (s.mode.mode = .active → s.pl.cw = none →
      Completes (.modeReqStandby init 0x5A17#16) s (fun t => t.mode = { s.mode with
        pend := some { target := .standby, cause := 0x20, bounds := 1 } } ∧ t.mem = s.mem) ∧
      Completes (.modeReqMaintenance init 0x5A17#16) s (fun t => t.mode = { s.mode with
        pend := some { target := .maintenance, cause := 0x20, bounds := 1 } } ∧ t.mem = s.mem)) ∧
    (s.mode.mode = .standby →
      Completes (.modeReqMaintenance init 0x5A17#16) s (fun t =>
        t.mode.mode = .maintenance ∧ t.mode.prev = .standby ∧ t.mode.cause = 0x20 ∧ t.mode.pend = none)) ∧
    (s.mode.mode = .maintenance → s.versionsAgree = true →
      Completes (.modeReqStandby init 0x5A17#16) s (fun t =>
        t.mode.mode = .standby ∧ t.mode.prev = .maintenance ∧ t.mode.cause = 0x20 ∧ t.mode.pend = none))

/-- Transitions into and out of Active at their boundary. -/
def Obligations.TransitionsTakeEffectAtTheirBoundary : Prop :=
  (∀ s p, s.mode.pend = some p → p.bounds = 0 → p.afterApply = false →
    (s.mode.mode = .standby ∧ p.target = .active) ∨ (s.mode.mode = .active ∧ (p.target = .standby ∨ p.target = .maintenance)) →
    Completes .modeTransitionTakesEffect s (fun t => t.mode.mode = p.target ∧ t.mode.prev = s.mode.mode ∧
      t.mode.cause = p.cause ∧ t.mode.pend = none ∧
      (p.target ≠ .active → t.rd Reg.modeFrame = s.frame) ∧
      (p.target = .active → t.ave.first = if s.csw.byHandover then s.frame - 1 else s.frame))) ∧
  (∀ s p, s.mode.pend = some p → p.bounds ≠ 0 ∨ p.afterApply = true → exec .modeTransitionTakesEffect s = .next s.begin) ∧
  (∀ s, s.mode.pend = none → exec .modeTransitionTakesEffect s = .next s.begin)

/-- What every frame boundary does. -/
def Obligations.FrameTickTakesTheGridPoint : Prop :=
  (∀ s : State, Runs s →
    Completes .frameTick s (fun t => t.clt.lastK = some (s.begin.toTick.clt.armed.getD 0) ∧ t.clt.armed = none ∧
      t.clt.elapsed = 0 ∧ t.plan = s.plan ∧ t.mode.mode = s.mode.mode ∧ t.lot.sets = s.lot.sets ∧
      ∀ p, s.mode.pend = some p → p.afterApply = false → t.mode.pend = some { p with bounds := p.bounds - 1 })) ∧
  (∀ s : State, s.mode.mode = .reset → exec .frameTick s = .next s.begin)

/-! ### The Town Plan -/

/-- The refusals of a Town Plan command, in their order, and that nothing but CMD_RESULT (and ERR under mirroring) changes. -/
def Obligations.TownPlanCommandsAreCheckedInOrder : Prop :=
  ∀ (s : State) (init : InitId) (key : BitVec 16), Admits s init 1 →
    let d := distOf init
    let asks := fun (i : Instr) (c : TplCmd) =>
      let foreign := s.tpl.owner.any (· != d) && !(c == .abort && d == houseDist)
      let locked := c == .open_ && (s.role == 2 || s.role == 3)
      let busy := s.tpl.zeroFill || s.tpl.houseHold || foreign
      let ok := s.auth true (·.planAuth) d
      (key ≠ 0x7A4E#16 → exec i s = .next (s.begin.tplResult d 4)) ∧
      (key = 0x7A4E#16 → ok = false → exec i s = .next (s.begin.tplResult d 2)) ∧
      (key = 0x7A4E#16 → ok = true → locked = true → exec i s = .next ((s.begin.tplResult d 6).tplErr 0x21)) ∧
      (key = 0x7A4E#16 → ok = true → locked = false → busy = true → exec i s = .next (s.begin.tplResult d 5)) ∧
      (key = 0x7A4E#16 → ok = true → locked = false → busy = false → s.tplAccepts c = false →
        exec i s = .next (s.begin.tplResult d 3))
    asks (.tplOpen init key) .open_ ∧ asks (.tplValidate init key) .validate ∧ asks (.tplApply init key) .apply ∧
    asks (.tplAbort init key) .abort

/-- The effect of accepted Town Plan commands. -/
def Obligations.AcceptedTownPlanCommands : Prop :=
  ∀ (s : State) (init : InitId), Admits s init 1 → s.auth true (·.planAuth) (distOf init) = true →
    s.tpl.zeroFill = false → s.tpl.houseHold = false →
    let d := distOf init
    let accepted := s.begin.tplResult d 1
    (s.tpl.owner = none → s.role ≠ 2 → s.role ≠ 3 → s.tpl.st = .idle →
      exec (.tplOpen init 0x7A4E#16) s = .next { accepted with tpl := { s.tpl with st := .opened, owner := some d } }) ∧
    (s.tpl.owner = some d → s.tpl.st = .opened ∨ s.tpl.st = .invalid ∨ s.tpl.st = .valid →
      exec (.tplValidate init 0x7A4E#16) s = .next { accepted with tpl := { s.tpl with st := .validating, checked := none } }) ∧
    (∀ k, s.tpl.owner = some d → s.tpl.st = .valid → s.tpl.checked = some k →
      let fails := fun (code : Nat) => exec (.tplApply init 0x7A4E#16) s = .next
        (({ accepted with tpl := { s.tpl with st := .valid, pend := none } }.setErr Reg.tplStatus code).raise d 4 1)
      (k.live = false → s.mode.mode ≠ .standby → fails 0x21) ∧
      (k.live = false → s.mode.mode = .standby → (s.lotsThere (wantParts (s.planWants k)) && s.fullQuotaOk k.plan (s.planWants k)) = false → fails 0x22) ∧
      (k.live = true → s.mode.mode ≠ .active → s.mode.mode ≠ .standby → fails 0x21) ∧
      (k.live = false → s.mode.mode = .standby → (s.lotsThere (wantParts (s.planWants k)) && s.fullQuotaOk k.plan (s.planWants k)) = true →
        Completes (.tplApply init 0x7A4E#16) s (fun t => t.tpl.st = .applying ∧ t.tpl.owner = s.tpl.owner ∧
          t.plan = s.plan ∧ t.mem = s.mem ∧ t.mode = s.mode ∧
          ∃ p, t.tpl.pend = some p ∧ p.chk = k ∧ p.dist = d ∧ p.allocated = true ∧ p.bounds = 1)) ∧
      (k.live = true → s.planWants k = [] → s.mode.mode = .active ∨ s.mode.mode = .standby →
        Completes (.tplApply init 0x7A4E#16) s (fun t => t.tpl.st = .applying ∧ t.tpl.owner = s.tpl.owner ∧
          t.plan = s.plan ∧ t.mem = s.mem ∧ t.mode = s.mode ∧ t.lot.sets = s.lot.sets ∧
          ∃ p, t.tpl.pend = some p ∧ p.chk = k ∧ p.dist = d ∧ p.allocated = true ∧ p.bounds = 1))) ∧
    (s.tpl.owner = some d → s.tpl.pend = none →
      s.tpl.st = .opened ∨ s.tpl.st = .validating ∨ s.tpl.st = .valid ∨ s.tpl.st = .invalid →
      exec (.tplAbort init 0x7A4E#16) s = .next { accepted with tpl := { s.tpl with
        st := .idle, owner := none, checked := none, zeroFill := true } })

/-- The end of a validation. -/
def Obligations.ValidationEndsInItsVerdict : Prop :=
  (∀ s : State, s.tpl.st = .validating →
    let v := validate s.planKeys s.plan s.stagedImage (s.rd Reg.tplLen).toNat
    Completes .validationDone s (fun t => t.plan = s.plan ∧ t.mode = s.mode ∧ t.mem = s.mem ∧ t.lot = s.lot ∧
      (match v.res with
       | .ok c => t.tpl = { s.tpl with st := .valid, checked := some c } ∧ t.fld Reg.tplStatus 24 8 = 0
       | .error f => t.tpl = { s.tpl with st := .invalid, checked := none } ∧ t.fld Reg.tplStatus 24 8 = f.code % 256 ∧
          t.rd Reg.tplErrloc = w32 f.off ∧ t.rd Reg.tplErrrec = pack [(24, f.ty), (0, f.idx)]))) ∧
  (∀ s : State, s.tpl.st ≠ .validating → exec .validationDone s = .next s.begin) ∧
  (∀ ks cur f len, len < 64 → ∃ e, (validate ks cur f len).res = .error e)

/-- The staging set's zero-fill. -/
def Obligations.StagingZeroFillClearsTheStagingSet : Prop :=
  (∀ s : State, s.tpl.zeroFill = true →
    Completes .stagingZeroFillDone s (fun t =>
      t = { s.begin with mem := t.mem, lot := { s.lot with poison := t.lot.poison }, tpl := { s.tpl with zeroFill := false } } ∧
      (∀ b, b ∈ t.lot.poison ↔ (b ∈ s.lot.poison ∧ (b / 32768) ∉ [0x1FFC, 0x1FFD, 0x1FFE, 0x1FFF].map s.frameOf)) ∧
      ∀ a, Mem.read t.mem a = if (a / 2097152) ∈ [0x1FFC, 0x1FFD, 0x1FFE, 0x1FFF].map s.frameOf then 0 else Mem.read s.mem a)) ∧
  (∀ s : State, s.tpl.zeroFill = false → exec .stagingZeroFillDone s = .next s.begin)

/-- Applies at their frame boundary. -/
def Obligations.AppliesTakeEffectAtTheirBoundary : Prop :=
  let after := fun (s : State) (p : PendApply) (t : State) =>
    t.plan = some p.chk.plan ∧ t.tpl.pend = none ∧
    (s.tpl.st = .applying → t.tpl.st = .idle ∧ t.tpl.owner = none ∧ t.tpl.zeroFill = true) ∧
    t.mode.mode = s.mode.mode ∧ t.mem = s.mem ∧ t.lcs = s.lcs ∧ t.met = s.met ∧ t.cal = s.cal ∧ t.xng = s.xng ∧ t.now = s.now
  (∀ s p, s.tpl.pend = some p → p.chk.live = false → p.allocated = true → p.moves = [] → p.bounds = 0 →
    s.mode.mode = .standby → Completes .fullApplyTakesEffect s (fun t => after s p t ∧ t.hist = [])) ∧
  (∀ s p, s.tpl.pend = some p → p.chk.live = true → p.allocated = true → p.moves = [] → p.bounds = 0 →
    s.mode.mode = .standby ∨ s.mode.mode = .active → Completes .liveApplyTakesEffect s (fun t => after s p t ∧
      ∃ h, t.hist.head? = some h ∧ h.frame = s.frame ∧ h.plan = s.pl ∧ h.sets = s.lot.sets)) ∧
  (∀ s p, s.tpl.pend = some p → p.chk.live = true ∨ p.allocated = false ∨ p.moves ≠ [] ∨ p.bounds ≠ 0 ∨ s.mode.mode ≠ .standby →
    exec .fullApplyTakesEffect s = .next s.begin) ∧
  (∀ s p, s.tpl.pend = some p → p.chk.live = false ∨ p.allocated = false ∨ p.moves ≠ [] ∨ p.bounds ≠ 0 ∨
    (s.mode.mode ≠ .standby ∧ s.mode.mode ≠ .active) → exec .liveApplyTakesEffect s = .next s.begin) ∧
  (∀ s, s.tpl.pend = none → exec .fullApplyTakesEffect s = .next s.begin ∧ exec .liveApplyTakesEffect s = .next s.begin)

/-! ### The Lot Manager -/

/-- The refusals of R129 in their order, and their frame: nothing but the district's two registers changes. -/
def Obligations.LotRequestsAreCheckedInOrder : Prop :=
  ∀ (s : State) (init : InitId) (v : Word32), Admits s init 2 →
    let d := distOf init
    let lots := field v 0 14
    let sq := v.getLsbD 14
    let base := field v 16 16
    let tooMany := if sq then 64 < lots else 8188 < lots
    let runs := (s.lot.sets.filter (·.id ≥ 0x1000)).length + (s.lot.waiting.filter (·.slot.isSome)).length
    let held := s.held d sq - (if sq then s.promotedLots d else 0)
    let past := held + lots > s.guar d sq + s.borrow d sq
    let badBase := lots ≠ 0 ∧ (base < 16384 ∨ base + lots > 32768 ∨ s.windowTaken d base lots = true)
    let refused := fun (code : Nat) => exec (.lotReq init v) s =
      .next ((s.begin.wr (distKey (slotOf d) Reg.lotErr) (w32 code)).setF (distKey (slotOf d) Reg.lotReqLast) 2 1 1)
    (tooMany → refused 0x0E) ∧
    (¬ tooMany → s.freeSlot d = none → refused 0x03) ∧
    (¬ tooMany → s.freeSlot d ≠ none → 4096 ≤ runs → refused 0x04) ∧
    (¬ tooMany → s.freeSlot d ≠ none → runs < 4096 → past → refused 0x01) ∧
    (¬ tooMany → s.freeSlot d ≠ none → runs < 4096 → ¬ past → badBase → refused 0x02)

/-- Grants without need, empty sets, and the wait for zero-fill. -/
def Obligations.LotRequestsWithoutNeedAreGranted : Prop :=
  ∀ (s : State) (init : InitId) (v : Word32) (k : Nat), Admits s init 2 →
    let d := distOf init
    let lots := field v 0 14
    let sq := v.getLsbD 14
    let base := field v 16 16
    let runs := (s.lot.sets.filter (·.id ≥ 0x1000)).length + (s.lot.waiting.filter (·.slot.isSome)).length
    let granted := fun (b : Nat) => Completes (.lotReq init v) s (fun t =>
      ∃ x, t.set? x.id = some x ∧ 0x1000 ≤ x.id ∧ (∀ j, 0x1000 ≤ j → j < x.id → (s.set? j).isSome = true) ∧
        x.dist = d ∧ x.inSq = sq ∧ x.handles.length = lots ∧ x.base = b ∧
        t.rd (rstatKey d k) = pack [(16, x.id), (3, 1), (0, 2)] ∧ t.rd (distKey (slotOf d) Reg.lotErr) = 0 ∧
        t.mem = s.mem ∧ t.plan = s.plan ∧ t.mode = s.mode ∧ t.lot.waiting = s.lot.waiting)
    s.freeSlot d = some k → runs < 4096 → s.promotedLots d = 0 →
    s.held d sq + lots ≤ s.guar d sq + s.borrow d sq → s.needOf [(d, sq, lots)] = 0 →
    (lots = 0 → granted 0xFFFF) ∧
    (0 < lots → lots ≤ (if sq then 64 else 8188) → 16384 ≤ base → base + lots ≤ 32768 →
      s.windowTaken d base lots = false → s.quotaOk [(d, sq, lots)] = true →
      (s.lotsThere [(d, sq, lots)] = true → lots ≤ s.freeLots sq → granted base) ∧
      (s.lotsThere [(d, sq, lots)] = false → s.lot.waiting = [] → v.getLsbD 15 = false →
        Completes (.lotReq init v) s (fun t => t.rd (rstatKey d k) = pack [(16, 0xFFFF), (0, 1)] ∧
          t.lot.sets = s.lot.sets ∧ t.mem = s.mem ∧
          t.lot.waiting = [{ dist := d, slot := some k, lots := lots, sq := sq, base := base, why := .zeroFill }])))

/-- LOT_FREE, LOT_RSTAT and the error counts. -/
def Obligations.FreesAcknowledgesAndCountReads : Prop :=
  (∀ (s : State) (init : InitId) (v : Word32), Admits s init 2 →
    let d := distOf init
    let told := fun (code : Nat) => exec (.lotFree init v) s = .next (s.begin.lotErr d code)
    (field v 16 16 ≠ 0xF4EE → told 0x0C) ∧
    (field v 16 16 = 0xF4EE → s.set? (field v 0 16) = none → told 0x05) ∧
    (∀ x, field v 16 16 = 0xF4EE → s.set? (field v 0 16) = some x →
      (x.dist ≠ d → told 0x05) ∧ (x.dist = d → x.id < 0x1000 → told 0x06) ∧
      (x.dist = d → 0x1000 ≤ x.id → s.lot.copy = none → s.lot.waiting = [] →
        exec (.lotFree init v) s = .next { s.begin.lotErr d 0 with lot := { s.lot with
          sets := s.lot.sets.filter (·.id != x.id), scrub := s.lot.scrub ++ x.handles } }))) ∧
  (∀ (s : State) (init : InitId) (slot : Fin 4) (v : Word32), Admits s init 2 →
    let k := rstatKey (s.lotDist init) slot.val
    (isDistrict (s.lotDist init) = true → v.getLsbD 3 = true → s.bitOf k 3 = true → exec (.lotRstatAck init slot v) s = .next (s.begin.wr k (pack [(16, 0xFFFF)]))) ∧
    (isDistrict (s.lotDist init) = false ∨ v.getLsbD 3 = false ∨ s.bitOf k 3 = false → exec (.lotRstatAck init slot v) s = .next s.begin) ∧
    (isHost init = true → s.lotDist init = distOf init)) ∧
  (∀ (s : State) (init : InitId) (ue : Bool), Admits s init 2 false →
    let k := if ue then Reg.lotEccUe else Reg.lotEccCe
    exec (.lotEccCountRead init ue) s = .next ((s.begin.reply (.word (s.rd k))).wr k 0))

/-- The zero-fill of freed lots. -/
def Obligations.ZeroFillClearsTheFreedLots : Prop :=
  (∀ s : State, s.lot.scrub ≠ [] →
    let frames := s.lot.scrub.map s.frameOf
    Completes .zeroFillDone s (fun t =>
      (∀ a, Mem.read t.mem a = if (a / 2097152) ∈ frames then 0 else Mem.read s.mem a) ∧
      t.mode = s.mode ∧ t.plan = s.plan ∧
      (s.lot.waiting = [] → t.lot.scrub = [] ∧ t.lot.sets = s.lot.sets ∧
        t.lot.freeD = (s.lot.scrub.filter (· < 0x8000)).foldl addRange s.lot.freeD ∧
        t.lot.freeQ = (s.lot.scrub.filter (· ≥ 0x8000)).foldl addRange s.lot.freeQ ∧
        ∀ b, b ∈ t.lot.poison ↔ (b ∈ s.lot.poison ∧ (b / 32768) ∉ frames)))) ∧
  (∀ s : State, s.lot.scrub = [] → exec .zeroFillDone s = .next s.begin)

/-- Migration evaluation, copy and switch. -/
def Obligations.MigrationEvaluatesCopiesAndSwitches : Prop :=
  (∀ s : State, let n := s.fld Reg.lotCtl 0 16
    (n = 0 ∨ s.lot.sinceEval < n → exec .migrationEvaluation s = .next s.begin) ∧
    (n ≠ 0 → n ≤ s.lot.sinceEval → (s.lot.copy ≠ none ∨ s.lot.retireQ ≠ [] →
      exec .migrationEvaluation s = .next { s.begin with lot := { s.lot with sinceEval := 0 } }) ∧
      (s.lot.copy = none → s.lot.retireQ = [] → (∃ d ∈ [0, 1, 2, 3, 7], s.candidates d ≠ []) →
        Completes .migrationEvaluation s (fun t => t.lot.sinceEval = 0 ∧ t.lot.sets = s.lot.sets ∧ t.mem = s.mem ∧
          ∃ c x, t.lot.copy = some c ∧ c.kind = .promote ∧ c.done = false ∧ x ∈ s.lot.sets ∧ c.setId = x.id ∧
            x.cls = 1 ∧ x.inSq = false ∧ c.newHandles.length = x.handles.length)))) ∧
  (∀ s c, s.lot.copy = some c → c.done = false →
    Completes .migrationCopyDone s (fun t => t.lot.copy = some { c with done := true } ∧ t.lot.sets = s.lot.sets ∧
      t.regs = s.regs ∧
      ∀ h sp, c.kind = .retire h sp → sp ≠ s.frameOf h → Memory.wf s.mem = true →
        (∀ off, off < 2097152 → Mem.read t.mem (sp * 2097152 + off) = Mem.read s.mem (s.cellAddr h off)) ∧
        SameMemoryBut (fun a => a / 2097152 = sp) s t)) ∧
  (∀ s c, s.lot.copy = some c → c.done = true → c.ready = true → s.lot.retireQ = [] → s.lot.waiting = [] →
    (∀ x, c.kind = .promote ∨ c.kind = .demote → s.set? c.setId = some x →
      Completes .migrationSwitch s (fun t => t.mem = s.mem ∧ t.regs = s.regs ∧ t.lot.copy = none ∧
        t.lot.scrub = s.lot.scrub ++ x.handles ∧
        t.set? x.id = some { x with handles := c.newHandles, inSq := decide (c.kind = .promote),
                                    promoted := decide (c.kind = .promote) })) ∧
    (∀ h sp, h < 0x8000 → c.kind = .retire h sp →
      Completes .migrationSwitch s (fun t => t.frameOf h = sp ∧ t.lot.copy = none ∧ t.mem = s.mem ∧
        t.lot.sets = s.lot.sets ∧ t.lot.spares = sp - 8192 + 1))) ∧
  (∀ s, (∀ c, s.lot.copy = some c → c.done = false ∨ c.ready = false) → exec .migrationSwitch s = .next s.begin)

/-- Error counts, poison, patrol scrub, refresh and power-down. -/
def Obligations.MemoryErrorsRefreshAndPowerDown : Prop :=
  (∀ (s : State) (init : InitId) (frame block : Nat), Runs s → frame < 8288 → block < 32768 →
    let up := fun (w : Word32) => if w = 0xFFFFFFFF#32 then w else w + 1
    Completes (.memoryErrorDetected init frame block true) s (fun t => t.rd Reg.lotEccUe = up (s.rd Reg.lotEccUe) ∧
      (frame * 32768 + block) ∈ t.lot.poison ∧ t.mem = s.mem ∧ t.mode = s.mode ∧ t.plan = s.plan) ∧
    Completes (.memoryErrorDetected init frame block false) s (fun t => t.rd Reg.lotEccCe = up (s.rd Reg.lotEccCe) ∧
      block ∈ t.lot.corrected.get [] frame ∧ t.lot.poison = s.lot.poison ∧ t.mem = s.mem ∧ t.mode = s.mode)) ∧
  (∀ s : State, exec .patrolScrub s = .next { s.begin with lot := { s.lot with corrected := [] } }) ∧
  (∀ (s : State) (chan : Fin 32) (owed : Nat),
    (1 ≤ owed → s.ltAtLeast (s.fld Reg.lotLtcfg 16 16) = true ∨ 8 ≤ owed →
      exec (.dramRefresh chan owed) s = .next { s.begin with lot := { s.lot with
        owed := s.lot.owed.set chan.val (owed - 1), powerDown := s.lot.powerDown.set chan.val false,
        refreshEnd := s.lot.refreshEnd.set chan.val (s.now + 3360) } }) ∧
    (owed = 0 ∨ (s.ltAtLeast (s.fld Reg.lotLtcfg 16 16) = false ∧ owed < 8) →
      exec (.dramRefresh chan owed) s = .next { s.begin with lot := { s.lot with owed := s.lot.owed.set chan.val owed } })) ∧
  (∀ (s : State) (chan : Fin 32) (idle owed : Nat),
    (64 ≤ idle → owed = 0 → s.ltAtLeast (s.fld Reg.lotLtcfg 0 16) = true →
      exec (.dramPowerDown chan idle owed) s = .next { s.begin with lot := { s.lot with
        owed := s.lot.owed.set chan.val 0, powerDown := s.lot.powerDown.set chan.val true } }) ∧
    (idle < 64 ∨ owed ≠ 0 ∨ s.ltAtLeast (s.fld Reg.lotLtcfg 0 16) = false →
      exec (.dramPowerDown chan idle owed) s = .next { s.begin with lot := { s.lot with owed := s.lot.owed.set chan.val owed } }))

/-- BAR2 accesses: answers, stores and their frame. -/
def Obligations.Bar2ReachesTheSetsOfItsDistrict : Prop :=
  ∀ (s : State) (host : Fin 4) (off : Nat), s.arrives (BitVec.ofNat 8 (0x10 + host.val)) = true →
    let d := host.val
    (8388608 ≤ off → ∀ x, s.windowSet d (off / 2097152) = some x →
      let o := off - x.base * 2097152
      (∀ len, o + len ≤ x.bytes → Completes (.bar2Read host off len) s (fun t =>
        t.resp = some (.data (s.readSet x o len) (s.poisoned x o len)) ∧ t.rd (distKey d Reg.lotErr) = 0 ∧
        (∀ c < 32, t.pmc.bw.get 0 (Reg.pmcBwChan c 1) = s.pmc.bw.get 0 (Reg.pmcBwChan c 1) +
          ((List.range len).filter (fun i => dramChannel (s.addrIn x.handles (o + i)) == some c)).length) ∧
        t.mem = s.mem ∧ t.lot = s.lot ∧ SameRegsBut (· = distKey d Reg.lotErr) s t)) ∧
      (∀ bytes, o + bytes.length ≤ x.bytes →
        (s.mirrorLocked x.dist = false ∨ s.pl.set? x.id = none) →
        Completes (.bar2Write host off ⟨bytes, false⟩) s (fun t => t.resp = some .ack ∧ t.rd (distKey d Reg.lotErr) = 0 ∧
          t.lot.sets = s.lot.sets ∧ SameRegsBut (· = distKey d Reg.lotErr) s t ∧
          SameMemoryBut (fun a => ∃ f ∈ s.places x, ∃ i < bytes.length, a = f (o + i)) s t ∧
          (Memory.wf s.mem = true → s.places x = [s.addrIn x.handles] →
            (∀ i j, i < bytes.length → j < bytes.length → s.addrIn x.handles (o + i) = s.addrIn x.handles (o + j) → i = j) →
            ∀ i < bytes.length, Mem.read t.mem (s.addrIn x.handles (o + i)) = bytes.getD i 0))) ∧
      (∀ len, x.bytes < o + len → s.windowRun d (len / 2097152 + 2) off len = none →
        exec (.bar2Read host off len) s = .next ((s.begin.lotErr d 0x07).reply .unsupported)) ∧
      (∀ len l, x.bytes < o + len → s.windowRun d (len / 2097152 + 2) off len = some l →
        Completes (.bar2Read host off len) s (fun t =>
          t.resp = some (.data (l.flatMap (fun e => s.readSet e.1 e.2.1 e.2.2)) (l.any (fun e => s.poisoned e.1 e.2.1 e.2.2))) ∧
          t.mem = s.mem ∧ t.lot = s.lot)) ∧
      (∀ bytes, x.bytes < o + bytes.length → s.windowRun d (bytes.length / 2097152 + 2) off bytes.length = none →
        exec (.bar2Write host off ⟨bytes, false⟩) s = .next ((s.begin.lotErr d 0x07).reply .unsupported))) ∧
    (8388608 ≤ off → s.windowSet d (off / 2097152) = none →
      (∀ len, exec (.bar2Read host off len) s = .next ((s.begin.lotErr d 0x07).reply .unsupported)) ∧
      (∀ bytes, exec (.bar2Write host off ⟨bytes, false⟩) s = .next ((s.begin.lotErr d 0x07).reply .unsupported))) ∧
    (∀ len, off + len ≤ 8388608 → off < 8388608 → s.stagingOpen d false = true → Completes (.bar2Read host off len) s (fun t =>
      t.resp = some (.data ((List.range len).map (fun i => Mem.read s.mem (s.addrIn stagingHandles (off + i))))
        (s.poisonedCells (s.addrIn stagingHandles) off len)) ∧
      t.mem = s.mem ∧ t.lot = s.lot)) ∧
    (∀ bytes, off + bytes.length ≤ 8388608 → off < 8388608 → s.stagingOpen d true = true →
      Completes (.bar2Write host off ⟨bytes, false⟩) s (fun t => t.resp = some .ack ∧ t.tpl = s.tpl ∧ t.lot.sets = s.lot.sets ∧
        SameMemoryBut (fun a => ∃ i < bytes.length, a = s.addrIn stagingHandles (off + i)) s t)) ∧
    (off < 8388608 → s.stagingOpen d false = false → ∀ len, exec (.bar2Read host off len) s = .next (s.begin.reply .unsupported)) ∧
    (off < 8388608 → s.stagingOpen d true = false → ∀ bytes, exec (.bar2Write host off ⟨bytes, false⟩) s = .next (s.begin.reply .unsupported))

/-! ### Video ingress -/

/-- What becomes of a packet for a network input. -/
def Obligations.IngressPacketsAreCheckedCountedOrTaken : Prop :=
  (∀ (s : State) (port : Fin 64) (bytes : List Byte) (room : Room), s.inputOf port.val bytes = none →
    exec (.ingressPacket port bytes room) s = .next s.begin) ∧
  (∀ (s : State) (port : Fin 64) (bytes : List Byte) (room : Room) (r : InRec) (pr : PortRec),
    s.inputOf port.val bytes = some r → s.pl.port? port.val = some pr → (s.inp r.id).fresh = false →
    let ip := etherBody bytes
    let u := ipPayload ip
    let rtp := (u.take (beAt u 4 2)).drop 8
    let ext := if (byteAt rtp 0).testBit 4 then 4 + 4 * beAt rtp 14 2 else 0
    let body := rtp.drop (12 + ext)
    let good := ipv4Ok ip 17 = true ∧ udpSumOk ip u = true ∧ 12 + ext + 2 ≤ rtp.length ∧ byteAt rtp 0 / 64 = 2 ∧
      byteAt rtp 0 % 16 = 0 ∧ (payloadSegs r (body.drop 2)).isSome = true
    let foreign := s.bitOf (Reg.ingStatus r.id) 7 = true ∧ (s.rd (Reg.ingSsrc r.id)).toNat ≠ beAt rtp 8 4
    let seq := beAt body 0 2 * 65536 + beAt rtp 2 2
    let on := s.ingressOn = true ∧ vlanOk pr bytes = true
    let full := room = .full ∨ (room = .wide ∧ r.receiver = 0)
    let run := exec (.ingressPacket port bytes room) s
    (¬ on → run = .next s.begin) ∧
    (on → ¬ good → run = .next (s.begin.ingCount r.id 8)) ∧
    (on → good → foreign → run = .next (s.begin.ingCount r.id 9)) ∧
    (on → good → ¬ foreign → full → Completes (.ingressPacket port bytes room) s (fun t =>
      t.rd (Reg.ingCnt r.id 7) = s.rd (Reg.ingCnt r.id 7) + 1 ∧ t.mem = s.mem ∧ t.lot = s.lot ∧
      ((s.inp r.id).ts = some (beAt rtp 4 4) → (t.inp r.id).gap = true) ∧
      (r.kind ≠ 1 → (s.inp r.id).next = none ∨ (s.inp r.id).next = some seq → (t.inp r.id).next = some ((seq + 1) % 2 ^ 32)) ∧
      (r.kind ≠ 1 → ∀ e, (s.inp r.id).next = some e → seq ≠ e → tsLater seq e = false → (t.inp r.id).next = some e) ∧
      (r.kind ≠ 1 → ∀ e, (s.inp r.id).next = some e → tsLater seq e = true → seq ≠ e →
        t.rd (Reg.ingCnt r.id 4) = s.rd (Reg.ingCnt r.id 4) + w32 (seqDiff seq e)))) ∧
    (on → good → ¬ foreign → r.kind ≠ 1 → ¬ full → (s.inp r.id).next = some seq → (s.inp r.id).ts = some (beAt rtp 4 4) →
      (byteAt rtp 1).testBit 7 = false → Uncopied s →
      Completes (.ingressPacket port bytes room) s (fun t => t.rd (Reg.ingSsrc r.id) = w32 (beAt rtp 8 4) ∧
        t.bitOf (Reg.ingStatus r.id) 7 = true ∧ t.bitOf (Reg.ingStatus r.id) 5 = true ∧
        (t.inp r.id).next = some ((seq + 1) % 2 ^ 32) ∧ (t.inp r.id).ts = (s.inp r.id).ts ∧ (t.inp r.id).gap = (s.inp r.id).gap ∧
        SameRegsBut (fun k => k = Reg.ingSsrc r.id ∨ k = Reg.ingStatus r.id) s t ∧ t.plan = s.plan ∧ t.mode = s.mode ∧
        SameMemoryBut (fun a => ∃ x off, s.set? r.setId = some x ∧ off < x.bytes ∧ a = s.addrIn x.handles off) s t)))

/-- Posting and completing host-written frames. -/
def Obligations.HostWrittenFramesArePostedAndCompleted : Prop :=
  (∀ (s : State) (init : InitId) (input : Fin 16) (v : Word32) (r : InRec), Admits s init 3 →
    (isHost init = true → s.mirrorLocked (distOf init) = false) → s.pl.input? input.val = some r →
    let i := input.val
    let setId := s.fld (initKey init (Reg.ingHdSet i)) 0 16
    let off := s.rd64 (initKey init (Reg.ingHdOffLo i))
    let pitch := (s.rd (initKey init (Reg.ingHdPitch i))).toNat
    let line := hdLineBytes r.format r.width
    let own := distOf init = r.dist
    let hostIn := r.kind = 2 ∧ r.enabled = true
    let room := (s.inp i).hd.length < 4
    let fits := (s.setRange r.dist setId off (pitch * (r.height - 1) + line)).isSome = true
    let pitchOk := pitch ≠ 0 ∧ pitch % 64 = 0 ∧ line ≤ pitch
    let rejected := fun (code : Nat) => exec (.ingHdPost init input v) s = .next (s.begin.hdCode i code)
    (¬ own → rejected 0x07) ∧ (own → ¬ hostIn → rejected 0x04) ∧ (own → hostIn → ¬ room → rejected 0x01) ∧
    (own → hostIn → room → ¬ fits → rejected 0x02) ∧ (own → hostIn → room → fits → ¬ pitchOk → rejected 0x03) ∧
    (own → hostIn → room → fits → pitchOk → s.mirroring = false → exec (.ingHdPost init input v) s =
      .next (((s.begin.setInp i { s.inp i with hd := (s.inp i).hd ++ [⟨setId, off, pitch, field v 0 16⟩] }).hdCode i 0).hdFree i))) ∧
  (∀ (s : State) (input : Fin 16) (r : InRec) (d : HdDesc) (rest : List HdDesc), s.pl.input? input.val = some r →
    (s.inp input.val).hd = d :: rest → s.ingressOn = true →
    let i := input.val
    let bad := (s.set? d.setId).any (fun x => s.poisoned x d.off (d.pitch * (r.height - 1) + hdLineBytes r.format r.width))
    Completes (.ingHdComplete input) s (fun t => (t.inp i).hd = rest ∧
      t.fld (Reg.ingHdStatus i) 16 16 = d.tag % 65536 ∧ t.plan = s.plan ∧ t.mode = s.mode ∧ t.lot.sets = s.lot.sets ∧
      (bad = false → t.fld (Reg.ingHdStatus i) 8 8 = 0 ∧ t.inState i = 2 ∧ (t.inp i).newest = some (s.inp i).writing ∧
        t.rd (Reg.ingCnt i 0) = s.rd (Reg.ingCnt i 0) + 1) ∧
      (bad = true → s.bitOf (Reg.ingCfg i) 3 = true → t.fld (Reg.ingHdStatus i) 8 8 = 5 ∧ t.inState i = s.inState i ∧
        (t.inp i).newest = (s.inp i).newest ∧ t.rd (Reg.ingCnt i 0) = s.rd (Reg.ingCnt i 0) ∧
        t.rd (Reg.ingCnt i 3) = s.rd (Reg.ingCnt i 3) + 1)))

/-- Ingress control. -/
def Obligations.IngressControl : Prop :=
  (∀ (s : State) (port : Fin 64) (group : Word32),
    let asked := fun (r : InRec) => r.enabled && r.kind != 2 && s.ingressOn && r.paths.contains port.val &&
      (group == 0 || group.toNat == r.group)
    Completes (.igmpQuery port group) s (fun t => t = { s.begin with ports := t.ports }) ∧
    ((∀ r ∈ s.pl.inputs, asked r = false) → exec (.igmpQuery port group) s = .next s.begin) ∧
    (∀ r pr, s.pl.inputs = [r] → asked r = true → s.pl.port? port.val = some pr →
      exec (.igmpQuery port group) s = .next (s.begin.txInternal port.val (igmpReport pr.mac pr.vlan r.group 2)))) ∧
  (∀ (s : State) (init : InitId) (input : Fin 16) (v : Word32), Admits s init 3 →
    let i := input.val
    let cfg := Reg.ingCfg i
    let mine := distOf init = houseDist ∨ (s.pl.input? i).any (·.dist == distOf init) = true
    (mine → Completes (.ingRelearn init input v) s (fun t => t.fld cfg 4 1 = field v 4 1 ∧ t.fld cfg 3 1 = field v 3 1 ∧
      t.fld cfg 0 2 = (if field v 0 2 < 2 then field v 0 2 else s.fld cfg 0 2) ∧
      (v.getLsbD 5 = true → t.bitOf (Reg.ingStatus i) 7 = false ∧ (t.inp i).next = none) ∧
      (v.getLsbD 5 = false → t.ing = s.ing ∧ t.rd (Reg.ingStatus i) = s.rd (Reg.ingStatus i)) ∧
      SameRegsBut (fun k => k = cfg ∨ k = Reg.ingStatus i) s t ∧ t.mem = s.mem)) ∧
    (¬ mine → exec (.ingRelearn init input v) s = .next (s.begin.setErr (Reg.ingStatus i) 0x07))) ∧
  (∀ (s : State) (input : Fin 16) (r : InRec), s.pl.input? input.val = some r →
    (s.ingressOn = true → s.inState input.val = 2 → Completes (.inputLost input) s (fun t => t.inState input.val = 3 ∧
      t.ing = s.ing ∧ t.mem = s.mem ∧ t.mode = s.mode)) ∧
    (s.ingressOn = false ∨ s.inState input.val ≠ 2 → exec (.inputLost input) s = .next s.begin) ∧
    (∀ pathB, let b := if pathB then 6 else 5
      (s.ingressOn = true → s.bitOf (Reg.ingStatus input.val) b = true →
        Completes (.pathDeliveryTimeout input pathB) s (fun t => t.bitOf (Reg.ingStatus input.val) b = false ∧
          t.inState input.val = s.inState input.val ∧ t.ing = s.ing ∧ t.mem = s.mem)) ∧
      (s.ingressOn = false ∨ s.bitOf (Reg.ingStatus input.val) b = false →
        exec (.pathDeliveryTimeout input pathB) s = .next s.begin)))

/-! ### Plazas and Boulevards -/

/-- Plaza commits and the underrun record. -/
def Obligations.PlazaCommitsAreCheckedAndPended : Prop :=
  (∀ (s : State) (init : InitId) (plaza : Fin 4), Admits s init 4 →
    let p := plaza.val
    let may := distOf init = houseDist ∨ (s.pl.canvas? p).any (·.dist == distOf init) = true
    (∀ l : Fin 16, may →
      let free := s.setPz p { s.pz p with resv := (s.pz p).resv.drop (· == l.val) }
      let c := free.commitCode p l.val
      Completes (.plzCommitLayer init plaza (1#16 <<< l.val)) s (fun t => t.fld (Reg.plzLstatus p l.val) 24 8 = c ∧
        (c ≠ 0 → (t.pz p).pend = (s.pz p).pend) ∧
        (c = 0 → (t.pz p).pend.find? l.val = some (s.layShadow p l.val) ∧ t.bitOf (Reg.plzLpending p) l.val = true ∧
          ∀ k, k ≠ l.val → (t.pz p).pend.find? k = (s.pz p).pend.find? k) ∧
        (∀ k : Fin 16, t.layActive p k.val = s.layActive p k.val) ∧ (∀ q, q ≠ p → t.pz q = s.pz q) ∧
        t.mem = s.mem ∧ t.lot = s.lot ∧ t.plan = s.plan ∧ t.mode = s.mode)) ∧
    (may → Completes (.plzCommitBg init plaza) s (fun t =>
      (t.pz p).pend.find? 16 = some [s.rd (Reg.plzBgLo p), s.rd (Reg.plzBgHi p)] ∧ t.bitOf (Reg.plzLpending p) 16 = true ∧
      SameRegsBut (· = Reg.plzLpending p) s t ∧ (∀ q, q ≠ p → t.pz q = s.pz q) ∧ t.mem = s.mem)) ∧
    (¬ may → (∀ mask, exec (.plzCommitLayer init plaza mask) s = .next (s.begin.setErr (Reg.plzStatus p) 0x07)) ∧
      exec (.plzCommitBg init plaza) s = .next (s.begin.setErr (Reg.plzStatus p) 0x07))) ∧
  (∀ (s : State) (init : InitId) (plaza : Fin 4), Admits s init 4 false →
    distOf init = houseDist ∨ (s.pl.canvas? plaza.val).any (·.dist == distOf init) = true →
    exec (.plzUnderrunRead init plaza) s = .next
      ((s.begin.wr (Reg.plzUnderrun plaza.val) 0).reply (.word (s.rd (Reg.plzUnderrun plaza.val))))) ∧
  (∀ (s : State) (p l : Nat), let y := Lay.ofWords (s.layShadow p l)
    (s.canvas? p = none → s.commitCode p l = 0x0C) ∧
    (∀ c, s.canvas? p = some c →
      let range := y.alpha > 0x1000 ∨ y.dstW > 16384 ∨ y.dstH > 16384
      (range → s.commitCode p l = 0x0D) ∧ (¬ range → y.on = false → s.commitCode p l = 0) ∧
      (¬ range → y.on = true → (∀ i, s.pl.input? y.inId = some i → i.enabled = false ∨ i.dist ≠ c.dist) →
        s.commitCode p l = 0x06) ∧
      (∀ i, ¬ range → y.on = true → s.pl.input? y.inId = some i → i.enabled = true → i.dist = c.dist →
        (y.cropX + y.cropW > i.width ∨ y.cropY + y.cropH > i.height → s.commitCode p l = 0x01) ∧
        (y.cropX + y.cropW ≤ i.width → y.cropY + y.cropH ≤ i.height → ratioOk y.cropW y.dstW = false ∨ ratioOk y.cropH y.dstH = false →
          s.commitCode p l = 0x02))))

/-- From the latch through the rows to the end of a frame, and the ends of the blend. -/
def Obligations.PlazasLatchComposeAndComplete : Prop :=
  (∀ (s : State) (plaza : Fin 4) (c : CanRec), s.canvas? plaza.val = some c → s.plazaOn = true →
    let p := plaza.val
    let later := (s.pz p).gap = true ∨ (s.pz p).composing = false ∨ (s.pz p).next > 0 ∨ (c.cut = false ∧ c.latchLine ≥ c.vblank)
    ∀ (l : Fin 16) (w : List Word32), (s.pz p).pend = [(l.val, w)] → w.length = 6 →
      (s.liveDue p = false → Completes (.plzLatch plaza) s (fun t =>
        t.layActive p l.val = w ∧ (t.pz p).pend = [] ∧ t.rd (Reg.plzLpending p) = 0 ∧
        (later → c.cut = false → t.rd (Reg.plzLapplied p l.val) = s.frame + 1) ∧
        (later → c.cut = true → l.val ∈ (t.pz p).due ∧ t.rd (Reg.plzLapplied p l.val) = s.rd (Reg.plzLapplied p l.val)) ∧
        (¬ later → t.rd (Reg.plzLapplied p l.val) = (s.pz p).frame) ∧ t.mem = s.mem ∧ t.plan = s.plan ∧
        (∀ k : Fin 16, k ≠ l → t.layActive p k.val = s.layActive p k.val))) ∧
      (s.liveDue p = true → Completes (.plzLatch plaza) s (fun t => (t.pz p).pend = (s.pz p).pend ∧
        t.rd (Reg.plzLapplied p l.val) = s.rd (Reg.plzLapplied p l.val) ∧ t.mem = s.mem ∧ t.plan = s.plan ∧
        (∀ k : Fin 16, t.layActive p k.val = s.layActive p k.val)))) ∧
  (∀ (s : State) (plaza : Fin 4), s.canvas? plaza.val = none ∨ s.plazaOn = false → exec (.plzLatch plaza) s = .next s.begin) ∧
  (∀ (s : State) (plaza : Fin 4) (c : CanRec) (row : Nat) (x : LotSet), s.canvas? plaza.val = some c → s.plazaOn = true →
    let p := plaza.val
    let base := (s.pz p).frame.toNat % 2 * (c.width * c.height * 8) + row * c.width * 8
    (s.pz p).composing = true → row = (s.pz p).next → row < c.height → c.cut = false → (s.pz p).wbOn = false →
    s.lot.poison = [] → Uncopied s → s.set? c.setId = some x → base + c.width * 8 ≤ x.bytes →
    Completes (.canvasRowCompose plaza row [] false) s (fun t => (t.pz p).next = row + 1 ∧
      SameMemoryBut (fun a => ∃ i < c.width * 8, a = s.addrIn x.handles (base + i)) s t ∧
      t.lot.sets = s.lot.sets ∧ t.plan = s.plan ∧ t.mode = s.mode ∧
      (Memory.wf s.mem = true → (∀ i j, i < c.width * 8 → j < c.width * 8 →
          s.addrIn x.handles (base + i) = s.addrIn x.handles (base + j) → i = j) →
        ∀ i < c.width * 8, Mem.read t.mem (s.addrIn x.handles (base + i)) = (s.canvasRow p c row).getD i 0))) ∧
  (∀ (s : State) (plaza : Fin 4) (row : Nat) (late : List (Fin 16 × Nat)) (full : Bool),
    s.canvas? plaza.val = none ∨ s.plazaOn = false ∨ (s.pz plaza.val).composing = false ∨ row ≠ (s.pz plaza.val).next →
    exec (.canvasRowCompose plaza row late full) s = .next s.begin) ∧
  (∀ (s : State) (plaza : Fin 4) (c : CanRec), s.canvas? plaza.val = some c → s.plazaOn = true → c.cut = false →
    let p := plaza.val
    ((s.pz p).composing = true → (s.pz p).next = c.height → Completes (.canvasComplete plaza) s (fun t =>
      (t.pz p).composing = false ∧ t.blv.frame.find? p = some (s.pz p).frame ∧ t.mem = s.mem ∧ t.mode = s.mode)) ∧
    ((s.pz p).composing = false ∨ (s.pz p).next ≠ c.height → exec (.canvasComplete plaza) s = .next s.begin)) ∧
  (∀ (l : Lay) (src : List Nat) (r g b a : Nat), r < 65536 → g < 65536 → b < 65536 → a < 65536 →
    (l.alpha = 0 → ∀ cov, blend l src cov [r, g, b, a] = [r, g, b, a]) ∧
    (l.alpha = 0x1000 → l.additive = false → l.pixA = false → src = [r, g, b, a] →
      ∀ d, blend l src (2 ^ 28) d = [r, g, b, 0x1000]))

/-- Boulevard settings, runs and the ends of quantisation. -/
def Obligations.BoulevardSettingsAndRuns : Prop :=
  (∀ (s : State) (init : InitId) (tile : Fin 4096) (v : Word32), Admits s init 5 →
    let d := distOf init
    (s.pl.tile? tile.val = none → exec (.blvTcommit init tile v) s = .next s.begin) ∧
    (∀ t, s.pl.tile? tile.val = some t →
      let z := TileSet.ofWords (s.tileShadow t.id)
      let k := Reg.blvTstatus t.id
      let on := (s.canvas? t.plaza).isSome = true
      let range := z.master > 0x1000 ∨ z.wgain > 0x1000 ∨ z.wsub > 0x1000
      let lctBad := z.lctBank = 1 ∧ s.lctTwo t = false
      let lutBad := z.lutBank = 1 ∧ s.lutTwo t = false
      let refused := fun (c : Nat) => exec (.blvTcommit init tile v) s = .next (s.begin.setErr k c)
      (s.blvMay d t.plaza = false → refused 0x05) ∧
      (s.blvMay d t.plaza = true →
        (v.getLsbD 0 = false → exec (.blvTcommit init tile v) s = .next s.begin) ∧
        (v.getLsbD 0 = true →
          (¬ on → refused 0x04) ∧ (on → range → refused 0x03) ∧ (on → ¬ range → lctBad → refused 0x01) ∧
          (on → ¬ range → ¬ lctBad → lutBad → refused 0x02) ∧
          (on → ¬ range → ¬ lctBad → ¬ lutBad → exec (.blvTcommit init tile v) s = .next
            (({ s.begin with blv := { s.blv with pend := s.blv.pend.set t.id (s.tileShadow t.id) } }.setF k 16 1 1).setErr k 0)))))) ∧
  (∀ (s : State) (init : InitId) (canvas : Fin 4) (v : Word32), Admits s init 5 → s.blvMay (distOf init) canvas.val = true →
    (field v 0 16 ≤ 0x1000 → exec (.blvGmasterWrite init canvas v) s = .next
      { s.begin.wr (Reg.blvGmaster canvas.val) (w32 (field v 0 16)) with
        blv := { s.blv with gpend := s.blv.gpend.set canvas.val true } }) ∧
    (0x1000 < field v 0 16 → exec (.blvGmasterWrite init canvas v) s = .next s.begin)) ∧
  (∀ (s : State) (boulevard : Fin 16) (tile : Fin 4096) (run : Nat),
    (∀ j, s.blv.cur.find? boulevard.val = some j → s.plazaOn = true → j.tile = tile.val → j.k = run →
      Completes (.blvRunDone boulevard tile run) s (fun t => j ∉ t.blv.todo ∧ t.mode = s.mode ∧ t.lot.sets = s.lot.sets ∧
        (Uncopied s → SameMemoryBut (fun a => ∃ r c x off, (s.asOf j.n).pl.tile? j.tile = some r ∧
          (s.asOf j.n).pl.canvas? r.plaza = some c ∧ s.set? c.outSet = some x ∧ off < x.bytes ∧
          a = s.addrIn x.handles off) s t))) ∧
    (s.blv.cur.find? boulevard.val = none → exec (.blvRunDone boulevard tile run) s = .next s.begin) ∧
    (∀ j, s.blv.cur.find? boulevard.val = some j → s.plazaOn = false ∨ j.tile ≠ tile.val ∨ j.k ≠ run →
      exec (.blvRunDone boulevard tile run) s = .next s.begin)) ∧
  (∀ b d, d < 65536 → quantise 0 b d = 0 ∧ quantise (2 ^ 20) b d = 2 ^ b - 1)

/-! ### Avenues -/

/-- The Avenue's own commands, and that no slice starts at or after its deadline. -/
def Obligations.AvenuesFetchStartAndGiveUpSlices : Prop :=
  (∀ (s : State) (port : Fin 64), let p := port.val
    (s.active = false → exec (.aveSliceFetchDone port) s = .next s.begin ∧ ∀ c, exec (.frameDeadline port c) s = .next s.begin) ∧
    (∀ j t, s.active = true → s.firstJob ((s.av p).jobs.filter (fun j => !j.cut && j.fetch < j.limit)) = some j →
      (s.asOf j.n).pl.tile? j.tile = some t →
      let v := s.asOf j.n
      let len := v.sliceBytes t j.fetch
      let set := ((v.pl.canvas? t.plaza).map (·.outSet)).getD 0xFFFF
      let off := v.sliceOffset t j.n j.fetch
      let bad := (v.set? set).any (fun z => s.poisoned z off len)
      (262144 < (s.av p).occupied + len → exec (.aveSliceFetchDone port) s = .next s.begin) ∧
      ((s.av p).occupied + len ≤ 262144 → bad = false → exec (.aveSliceFetchDone port) s = .next
        (s.begin.putJob p { j with
            fetch := j.fetch + 1
            held := j.held ++ [{ i := j.fetch, bytes := v.readSetId set off len, at_ := s.now }] } true)) ∧
      ((s.av p).occupied + len ≤ 262144 → bad = true → (s.av p).bad.contains (j.tile, j.n) = false → s.awaited p j.tile j.n = true →
        Completes (.aveSliceFetchDone port) s (fun t => t.rd (Reg.aveLate p) = s.rd (Reg.aveLate p) + 1 ∧
          t.fld (Reg.aveStatus p) 24 8 = 0x05 ∧ t.mem = s.mem ∧ t.lot = s.lot ∧ t.mode = s.mode)))) ∧
  (∀ (s : State) (port : Fin 64) (j : TileJob) (h : HeldSlice) (t : TileRec), let p := port.val
    s.active = true → s.black = false →
    ((s.av p).jobs.filter (·.cut)).flatMap (fun j => (j.held.filter (!·.go)).map (fun h => (j, h))) = [(j, h)] →
    (s.asOf j.n).pl.tile? j.tile = some t →
    let l := (s.asOf j.n).tileLayout t
    let per := l.channels * fmtBits l.format
    let len := h.bytes.length
    per ≠ 0 → (s.av p).hold = 0 →
    Completes (.ctSliceStart port) s (fun t => t.mem = s.mem ∧ t.mode = s.mode ∧
      (s.speed p = 1 → len * 1000 ≤ len * 64 * per + (t.av p).hold * (125 * per) ∧
        ∀ x, len * 1000 ≤ len * 64 * per + x * (125 * per) → (t.av p).hold ≤ x) ∧
      (s.speed p ≠ 1 → len * 200 ≤ len * 32 * per + (t.av p).hold * (25 * per) ∧
        ∀ x, len * 200 ≤ len * 32 * per + x * (25 * per) → (t.av p).hold ≤ x))) ∧
  (∀ (s : State) (port : Fin 64), s.active = false ∨ s.black = true → exec (.ctSliceStart port) s = .next s.begin) ∧
  (∀ (s : State) (port : Fin 64) (plaza : Fin 4) (f : AveFrame) (t : Nat) (r : TileRec) (d : Nat), let p := port.val
    s.active = true → s.black = false → (s.av p).frames = [f] → f.left = [t] →
    (s.asOf f.n).pl.tile? t = some r → r.plaza = plaza.val → s.dueOf p plaza.val f.n = some d → d ≤ s.ptpNow →
    (s.av p).jobs.find? (fun j => j.tile == t && j.n == f.n) = none → (s.av p).bad.contains (t, f.n) = false →
    Completes (.frameDeadline port plaza) s (fun t => (t.av p).frames = [] ∧ t.rd (Reg.aveLate p) = s.rd (Reg.aveLate p) + 1 ∧
      t.fld (Reg.aveStatus p) 24 8 = 0x01 ∧ t.rd (Reg.aveFrame p) = f.n ∧ t.rd (Reg.aveMargin p) = 0 ∧
      t.mem = s.mem ∧ t.now = s.now ∧ t.mode = s.mode)) ∧
  (∀ (s : State) (init : InitId) (port : Fin 64), Admits s init 6 false → exec (.aveUnderrunRead init port) s =
    .next ((s.begin.wr (Reg.aveUnderrun port.val) 0).reply (.word (s.rd (Reg.aveUnderrun port.val))))) ∧
  (∀ (s : State) (p : Nat) (j : TileJob), s.nextSlice p = some j →
    ∃ d, s.dueOf p ((((s.asOf j.n).pl.tile? j.tile).map (·.plaza)).getD 0) j.n = some d ∧ s.ptpNow < d)

/-! ### Lamp Stream -/

/-- Posting to a control queue and reading its completions. -/
def Obligations.ControlQueuesCheckPostAndComplete : Prop :=
  (∀ (s : State) (init : InitId) (port : Fin 64) (v : Word32), Admits s init 7 →
    let p := port.val
    let run := exec (.lmsCqPost init port v) s
    ((∀ r, s.pl.port? p = some r → r.dist ≠ distOf init) → run = .next (s.begin.setErr (Reg.lmsPstatus p) 0x0A)) ∧
    (∀ r, s.pl.port? p = some r → r.dist = distOf init →
      let d := s.cqStaged init p
      let w := fun (k : Nat) => d.getD k 0
      let seg := field (w 1) 16 16
      let len := field (w 3) 0 25
      let full := (s.cqWp p + 512 - s.cqRp p) % 512 = 256
      let clean := (field (w 0) 0 8 = 1 ∨ field (w 0) 0 8 = 2) ∧ field (w 0) 8 8 = 0 ∧ field (w 1) 12 4 = 0 ∧
        field (w 3) 25 7 = 0 ∧ field (w 4) 16 16 = 0 ∧ w 7 = 0
      let mine := (s.tileOn p (descTile d)).isSome = true
      let segOk := 64 ≤ seg ∧ seg ≤ r.maxFrame - 96
      let inSet := len = 0 ∨ (s.setRange r.dist (field (w 4) 0 16) ((w 6).toNat * 2 ^ 32 + (w 5).toNat) len).isSome = true
      let refused := fun (c : Nat) => run = .next (s.begin.setErr (Reg.lmsPstatus p) c)
      (v.getLsbD 0 = false → run = .next s.begin) ∧
      (v.getLsbD 0 = true → s.queMismatch (0x40 + p) = true →
        run = .next ((s.begin.queReset (0x40 + p) init).setErr (Reg.lmsPstatus p) 0x08)) ∧
      (v.getLsbD 0 = true → s.queMismatch (0x40 + p) = false →
        (full → refused 0x01) ∧ (¬ full → ¬ clean → refused 0x02) ∧ (¬ full → clean → ¬ mine → refused 0x04) ∧
        (¬ full → clean → mine → ¬ segOk → refused 0x03) ∧
        (¬ full → clean → mine → segOk → 16777216 < len → refused 0x0D) ∧
        (¬ full → clean → mine → segOk → len ≤ 16777216 → 65535 < ceilDiv len seg → refused 0x03) ∧
        (¬ full → clean → mine → segOk → len ≤ 16777216 → ceilDiv len seg ≤ 65535 → ¬ inSet → refused 0x09) ∧
        (¬ full → clean → mine → segOk → len ≤ 16777216 → ceilDiv len seg ≤ 65535 → inSet → s.active = false →
          (∀ t ∈ s.pl.tiles, t.port = p → ∀ o ∈ (s.ses t.id).out, o.qpos % 256 ≠ s.cqWp p % 256) →
          run = .next (((s.begin.setLp p { s.lp p with slots := (s.lp p).slots.set (s.cqWp p % 256) d }).cqSet p
            (s.cqWp p + 1) (s.cqRp p)).setErr (Reg.lmsPstatus p) 0))))) ∧
  (∀ (s : State) (p wp rp : Nat), p < 64 → let t := s.cqSet p wp rp
    t.cqWp p = wp % 512 ∧ t.cqRp p = rp % 512 ∧ SameRegsBut (· = Reg.lmsCqPtr p) s t ∧ t.lms.sess = s.lms.sess ∧
    (s.queMismatch (0x40 + p) = false → t.queMismatch (0x40 + p) = false)) ∧
  (∀ (s : State) (p : Nat) (init : InitId), p < 64 → (∀ t ∈ s.pl.tiles, t.id < 4096) →
    let u := s.queReset (0x40 + p) init
    u.cqWp p = 0 ∧ u.cqRp p = 0 ∧ u.queMismatch (0x40 + p) = false ∧ u.mem = s.mem ∧
    ∀ t ∈ s.pl.tiles, t.port = p → (s.ses t.id).out ≠ [] → (u.ses t.id).lost = true) ∧
  (∀ (s : State) (init : InitId) (port : Fin 64), Admits s init 7 false →
    let p := port.val
    let may := distOf init = houseDist ∨ (s.pl.port? p).any (·.dist == distOf init) = true
    (may → (s.lp p).cpl = [] → exec (.lmsCplPop init port) s = .next (s.begin.reply (.word 0))) ∧
    (∀ lo hi rest, may → (s.lp p).cpl = (lo, hi) :: rest → Completes (.lmsCplPop init port) s (fun t =>
      t.resp = some (.word lo) ∧ t.hiLatch.find? (initKey init (Reg.lmsCplLo p)) = some hi ∧ (t.lp p).cpl = rest ∧
      t.fld (Reg.lmsCplLevel p) 0 10 = rest.length % 1024 ∧ SameRegsBut (· = Reg.lmsCplLevel p) s t ∧ t.mem = s.mem)) ∧
    (¬ may → exec (.lmsCplPop init port) s = .next ((s.begin.setErr (Reg.lmsPstatus p) 0x0A).reply (.word 0))))

/-- The sessions of tiles. -/
def Obligations.TileSessionsAcknowledgeReplayAndResync : Prop :=
  (∀ (s : State) (port : Fin 64) (f : List Byte) (c : Instr), c = .ctrlResp port f ∨ c = .resyncAck port f →
    let p := port.val
    let h := etherBody f
    let ty := byteAt h 1
    let tile := beAt h 6 2
    let x := s.ses tile
    let matched := (ty = 0x11 ∧ ∃ o ∈ x.out, o.tsn = beAt h 24 2) ∨ (ty = 0x13 ∧ x.base = some (beAt h 24 2))
    let ok := ∃ r t, s.pl.port? p = some r ∧ natBit r.use 0 = true ∧ dstMac f = r.mac ∧ byteAt h 0 = 1 ∧ beAt h 2 2 = 64 ∧
      s.tileOn p tile = some t ∧ t.mac = srcMac f ∧ beAt h 8 4 = (s.rd Reg.lmsEpoch).toNat ∧ matched
    (s.linkUp p = false → exec c s = .next s.begin) ∧
    (s.linkUp p = true → ¬ ok → exec c s = .next ((s.begin.bump (Reg.lmsPrxdrop p)).count 7 p 1)) ∧
    (s.linkUp p = true → ok → ty = 0x13 → s.active = false ∨ (s.cqWp p = s.cqRp p ∧ s.queMismatch (0x40 + p) = false) → Completes c s (fun t =>
      (t.ses tile).st = .up ∧ (t.ses tile).base = none ∧ (t.ses tile).retries = 0 ∧ (t.ses tile).out = x.out ∧
      t.fld (Reg.lmsTstat tile) 0 3 = 1 ∧ t.rd (Reg.lmsPrx p) = s.rd (Reg.lmsPrx p) + 1 ∧ t.mem = s.mem ∧ t.lms.ports = s.lms.ports)) ∧
    (∀ o, s.linkUp p = true → ok → ty = 0x11 → x.out = [o] → o.mute = false →
      let status := byteAt h 26
      let op := field (o.desc.getD 0 0) 0 8
      (status = 0 → op = 1 → (s.lp p).cpl.length < 512 → (s.lp p).cur.any (·.tile == tile) = false → Completes c s (fun t =>
        (t.ses tile).out = [] ∧ (t.ses tile).st = .up ∧ (t.ses tile).retries = 0 ∧ (t.ses tile).timer = none ∧
        (t.lp p).cpl = (s.lp p).cpl ++ [(pack [(31, 1), (16, 0), (0, o.tag)], pack [(24, 0), (16, o.qpos % 256), (0, tile)])] ∧
        t.mem = s.mem ∧ t.plan = s.plan)) ∧
      (status = 0 → op = 2 → descSegs o.desc = 1 → Uncopied s → Completes c s (fun t =>
        SameMemoryBut (fun a => ∃ z off, s.set? (field (o.desc.getD 4 0) 0 16) = some z ∧ off < z.bytes ∧
          a = s.addrIn z.handles off) s t ∧ t.lot.sets = s.lot.sets ∧ t.mode = s.mode)) ∧
      (status = 1 → beAt h 28 2 = o.tsn → x.lost = false → x.retries < s.lmsRetry →
        (s.lp p).cur.any (·.tile == tile) = false → Completes c s (fun t =>
        (t.ses tile).st = .replay ∧ (t.ses tile).retries = x.retries + 1 ∧ (t.ses tile).again = [o.tsn] ∧
        (t.ses tile).out = [o] ∧ t.mem = s.mem ∧ t.lms.ports = s.lms.ports)))) ∧
  (∀ (s : State) (tile : Fin 4096) (t0 : Nat) (r : TileRec), (s.ses tile.val).timer = some t0 → s.pl.tile? tile.val = some r →
    s.active = true →
    let x := s.ses tile.val
    (x.st = .up ∨ x.st = .replay → x.out ≠ [] → x.lost = false → x.retries < s.lmsRetry → (s.lp r.port).cur.any (·.tile == tile.val) = false →
      Completes (.sessionTimerExpiry tile) s (fun t => (t.ses tile.val).st = .replay ∧ (t.ses tile.val).retries = x.retries + 1 ∧
        (t.ses tile.val).again = x.out.map (·.tsn) ∧ (t.ses tile.val).out = x.out ∧ t.mem = s.mem)) ∧
    (x.st = .resync → x.resends < s.lmsRetry → Completes (.sessionTimerExpiry tile) s (fun t =>
      (t.ses tile.val).st = .resync ∧ (t.ses tile.val).resends = x.resends + 1 ∧
      (t.lp r.port).resync = (s.lp r.port).resync.filter (· != tile.val) ++ [tile.val] ∧ t.mem = s.mem)) ∧
    (x.st = .resync → s.lmsRetry ≤ x.resends → r.port < 64 → Completes (.sessionTimerExpiry tile) s (fun t =>
      (t.ses tile.val).st = .down ∧ t.fld (Reg.lmsTstat tile.val) 24 8 = 0x06 ∧ t.mem = s.mem))) ∧
  (∀ (s : State) (tile : Fin 4096), (s.ses tile.val).timer = none ∨ s.pl.tile? tile.val = none ∨ s.active = false →
    exec (.sessionTimerExpiry tile) s = .next s.begin) ∧
  (∀ (s : State) (tile : Fin 4096) (r : TileRec), s.pl.tile? tile.val = some r →
    let x := s.ses tile.val
    (s.active = true → x.st = .down → 64 ≤ x.ticks → Completes (.downResync tile) s (fun t =>
      (t.ses tile.val).st = .down ∧ (t.ses tile.val).ticks = 0 ∧ (t.ses tile.val).base = some x.next ∧
      (t.lp r.port).resync = (s.lp r.port).resync.filter (· != tile.val) ++ [tile.val] ∧ t.mem = s.mem)) ∧
    (s.active = false ∨ x.st ≠ .down ∨ x.ticks < 64 → exec (.downResync tile) s = .next s.begin))

/-- The Fire Lane. -/
def Obligations.BlackoutIsRungAndReleased : Prop :=
  (∀ (s : State) (host : Fin 4) (v : Word32),
    let d := host.val
    let k := distKey d Reg.hstFireStat
    let key := field v 16 16 = 0xF1AE
    let allowed := s.auth false (·.fireAuth) d = true
    let refused := fun (c : Nat) => exec (.blackoutDoorbell host v) s = .next ((s.begin.setF k 0 16 (s.fld k 0 16 + 1)).setErr k c)
    s.arrives (BitVec.ofNat 8 (0x10 + d)) = true →
    (¬ key → refused 0x0C) ∧ (key → ¬ allowed → refused 0x0B) ∧
    (key → allowed → (∀ r ∈ s.pl.ports, r.port < 64) → Completes (.blackoutDoorbell host v) s (fun t =>
      t.black = true ∧ t.fld Reg.lmsBlackcnt 0 24 = (s.fld Reg.lmsBlackcnt 0 24 + 1) % 2 ^ 24 ∧
      t.fld k 24 8 = 0 ∧ t.mode = s.mode ∧ t.plan = s.plan ∧
      (s.black = false → t.bgen = (s.bgen + 1) % 256) ∧ (s.black = true → t.bgen = s.bgen) ∧ t.fld Reg.lmsBlackout 16 4 = d ∧
      (∀ r, s.pl.ports = [r] → natBit r.use 0 = true → s.active = true → s.linkUp r.port = true → (s.tx r.port).cur = none →
        Out.frame r.port true (t.blackoutMsg r.port d) ∈ t.out)))) ∧
  (∀ (s : State) (host : Fin 4) (v : Word32), s.arrives (BitVec.ofNat 8 (0x10 + host.val)) = false →
    exec (.blackoutDoorbell host v) s = .next s.begin) ∧
  (∀ (s : State) (init : InitId) (v : Word32), ByHouse s init →
    (field v 16 16 ≠ 0xF1AE → exec (.houseDoorbell init v) s = .next s.begin) ∧
    (field v 16 16 = 0xF1AE → (∀ r ∈ s.pl.ports, r.port < 64) → Completes (.houseDoorbell init v) s (fun t =>
      t.black = true ∧ (s.black = false → t.bgen = (s.bgen + 1) % 256) ∧ (s.black = true → t.bgen = s.bgen) ∧
      t.fld Reg.lmsBlackout 16 4 = 7 ∧ t.fld Reg.lmsBlackcnt 0 24 = (s.fld Reg.lmsBlackcnt 0 24 + 1) % 2 ^ 24 ∧
      t.mode = s.mode ∧ t.plan = s.plan))) ∧
  (∀ (s : State) (init : InitId) (v : Word32), Admits s init 7 →
    let allowed := s.auth false (·.fireAuth) (distOf init) = true ∧ field v 16 16 = 0xB1AC
    let refused := fun (c : Nat) => exec (.blackoutRelease init v) s = .next (s.begin.setF Reg.lmsBlackcnt 24 8 c)
    (¬ allowed → refused 0x0E) ∧
    (allowed → s.black = false → Completes (.blackoutRelease init v) s (fun t => t.fld Reg.lmsBlackcnt 24 8 = 0x0F ∧ t.black = false ∧
      t.ave = s.ave ∧ SameRegsBut (fun k => k = Reg.lmsBlackcnt) s t ∧ t.mem = s.mem ∧ t.mode = s.mode)) ∧
    (allowed → s.black = true → Completes (.blackoutRelease init v) s (fun t =>
      t.black = false ∧ t.bgen = (s.bgen + 1) % 256 ∧ t.fld Reg.lmsBlackcnt 24 8 = 0 ∧
      t.fld Reg.lmsBlackcnt 0 24 = s.fld Reg.lmsBlackcnt 0 24 ∧
      t.ave = { s.ave with first := s.frame + 1 } ∧
      SameRegsBut (fun k => k = Reg.lmsBlackout ∨ k = Reg.lmsBlackcnt) s t ∧ t.mem = s.mem ∧ t.mode = s.mode))) ∧
  (∀ (s : State) (i j : InitId) (v w : Word32),
    let ring := Instr.registerWrite i Reg.hstFire ⟨v, [], .whole, [{ init := j, addr := Reg.hstFire, write := true, value := w }]⟩
    let k := fun (x : InitId) => distKey (distOf x) Reg.hstFireStat
    isHost i = true → isHost j = true → distOf i < distOf j → distOf j < 4 → s.arrives i = true → s.arrives j = true →
    (s.hp (distOf i)).queue = [] → (s.hp (distOf j)).queue = [] →
    s.auth false (·.fireAuth) (distOf i) = true → s.auth false (·.fireAuth) (distOf j) = true →
    field v 16 16 = 0xF1AE → field w 16 16 = 0xF1AE → (∀ r ∈ s.pl.ports, r.port < 64) → s.lot.waiting = [] → s.mode.pend = none →
    Completes ring s (fun t => t.black = true ∧ (s.black = false → t.bgen = (s.bgen + 1) % 256) ∧ (s.black = true → t.bgen = s.bgen) ∧
      t.fld Reg.lmsBlackout 16 4 = distOf i ∧ t.fld Reg.lmsBlackcnt 0 24 = (s.fld Reg.lmsBlackcnt 0 24 + 2) % 2 ^ 24 ∧
      t.fld (k i) 24 8 = 0 ∧ t.fld (k j) 24 8 = 0 ∧ t.mode.mode = s.mode.mode)) ∧
  (∀ (s : State) (i j : InitId) (v w : Word32),
    let both := Instr.registerWrite i Reg.lmsBlackRel ⟨v, [], .whole, [{ init := j, addr := Reg.hstFire, write := true, value := w }]⟩
    isHost j = true → distOf j < 4 → isHost i = true → Admits s i 7 → s.arrives j = true →
    (s.hp (distOf i)).queue = [] → (s.hp (distOf j)).queue = [] →
    s.auth false (·.fireAuth) (distOf j) = true → field w 16 16 = 0xF1AE → (∀ r ∈ s.pl.ports, r.port < 64) →
    s.lot.waiting = [] → s.mode.pend = none → distOf i ≠ distOf j →
    Completes both s (fun t => t.black = true ∧ t.fld Reg.lmsBlackcnt 24 8 = 0x0E ∧ (s.black = false → t.bgen = (s.bgen + 1) % 256) ∧
      (s.black = true → t.bgen = s.bgen)))

/-! ### Network ports -/

/-- Links and the transmitter. -/
def Obligations.LinksAndTransmitters : Prop :=
  (∀ (s : State) (port : Fin 65) (r : PortRec), let p := port.val
    p < 64 → s.pl.port? p = some r → s.linkUp p = false → s.mode.mode ≠ .reset → s.cltSt ≠ 4 →
    ∃ u : State, exec (.linkUp port) s = .next (u.txStart p) ∧ u.linkUp p = true ∧ u.bitOf (Reg.prtStatus p) 16 = true ∧
      (natBit r.use 0 = true → u.preempts p = true) ∧ (natBit r.use 0 = false → u.preempts p = false) ∧
      u.ports = s.ports ∧ u.mem = s.mem ∧ u.plan = s.plan ∧ u.mode = s.mode) ∧
  (∀ (s : State) (port : Fin 65), (port.val < 64 ∧ (s.pl.port? port.val = none ∨ s.linkUp port.val = true ∨ s.mode.mode = .reset ∨ s.cltSt = 4) →
      exec (.linkUp port) s = .next s.begin) ∧
    (port.val = 64 → s.mode.mode = .reset ∨ s.ckg.osc = true → exec (.linkUp port) s = .next s.begin) ∧
    (port.val = 64 → s.mode.mode ≠ .reset → s.ckg.osc = false → exec (.linkUp port) s = .next { s.begin with lcs := { s.lcs with link := true } }) ∧
    (port.val = 64 → ∀ f, exec (.linkDown port f) s = .next { s.begin with lcs := { s.lcs with link := false } })) ∧
  (∀ (s : State) (port : Fin 65) (f : LinkFault), let p := port.val
    p < 64 → (s.pl.port? p = none ∨ s.mode.mode = .reset → exec (.linkDown port f) s = .next s.begin) ∧
    ((s.pl.port? p).isSome = true → s.mode.mode ≠ .reset → s.linkUp p = false →
      exec (.linkDown port f) s = .next (s.begin.linkFault p f)) ∧
    (s.ptpOn = true → (s.begin.linkFault p .localFault).out = [.noFrames p true] ∧
      (s.bitOf (Reg.prtStatus p) 3 = false → (s.begin.linkFault p .remoteFault).out = [.noFrames p false])) ∧
    ((s.pl.port? p).isSome = true → s.mode.mode ≠ .reset → s.linkUp p = true → Completes (.linkDown port f) s (fun t =>
      t.linkUp p = false ∧ t.preempts p = false ∧
      t.bitOf (Reg.prtStatus p) 16 = true ∧ (f = .blockLock → t.fld (Reg.prtStatus p) 1 2 = 0) ∧
      (f = .alignment → t.bitOf (Reg.prtStatus p) 2 = false) ∧ (f = .localFault → t.bitOf (Reg.prtStatus p) 3 = true) ∧
      (f = .remoteFault → t.bitOf (Reg.prtStatus p) 4 = true) ∧ (t.tx p).expQ = [] ∧ (t.tx p).fxe = [] ∧ (t.tx p).zeros = [] ∧
      (t.tx p).cur = (s.tx p).cur ∧ (∀ q, q ≠ p → t.tx q = s.tx q) ∧
      t.rd64 (Reg.prtCntLo p 22) = (s.rd64 (Reg.prtCntLo p 22) + 1) % 2 ^ 64 ∧ t.mem = s.mem ∧ t.plan = s.plan ∧ t.mode = s.mode))) ∧
  (∀ (s : State) (init : InitId) (port : Fin 64) (v : Word32), Admits s init 8 → let p := port.val
    let own := (s.pl.port? p).any (·.dist == distOf init) = true
    (isHouse init = true → Completes (.prtSerdesWrite init port v) s (fun t => t.rd (Reg.prtSerdes p) = v &&& 0xC01F3F1F ∧
      t.linkUp p = false ∧ t.fld (Reg.prtStatus p) 1 2 = 0 ∧ (t.tx p).cur = (s.tx p).cur ∧ t.mem = s.mem ∧ t.mode = s.mode)) ∧
    (isHouse init = false → own → exec (.prtSerdesWrite init port v) s = .next s.begin) ∧
    (isHouse init = false → ¬ own → exec (.prtSerdesWrite init port v) s = .next (s.begin.setErr (Reg.prtStatus p) 0x20))) ∧
  (∀ (s : State) (port : Fin 64) (ok : Bool), let k := Reg.prtStatus port.val
    (s.fld k 6 2 ≠ 1 → exec (.preemptVerifyDone port ok) s = .next s.begin) ∧
    (s.fld k 6 2 = 1 → exec (.preemptVerifyDone port ok) s =
      .next (if ok then (s.begin.setF k 6 2 2).setF k 5 1 1 else s.begin.setF k 6 2 3))) ∧
  (∀ (s : State) (port : Fin 64) (f : TxFrame), let p := port.val
    (s.tx p).cur = some f → (f.tag = .internal ∨ ∃ u, f.tag = .sacn u) → (s.tx p).expQ = [] →
    ∃ u : State, exec (.portTxFrameDone port) s = .next (u.txStart p) ∧ (u.tx p).cur = none ∧ (u.tx p).rr = (s.tx p).rr ∧
      u.rd64 (Reg.prtCntLo p 14) = (s.rd64 (Reg.prtCntLo p 14) + 1) % 2 ^ 64 ∧
      u.rd64 (Reg.prtCntLo p 15) = (s.rd64 (Reg.prtCntLo p 15) + max 60 f.bytes.length + 4) % 2 ^ 64 ∧ u.mem = s.mem ∧ u.mode = s.mode) ∧
  (∀ (s : State) (port : Fin 64), (s.tx port.val).cur = none → (s.tx port.val).expQ = [] →
    Completes (.portTxFrameDone port) s (fun t => t = (s.begin.setTx port.val (s.tx port.val)).txStart port.val)) ∧
  (∀ (u : State) (p : Nat), (u.linkUp p = false ∨ u.ptpOn = false ∨ (u.tx p).cur.isSome = true ∨
      (u.queMismatch (0x40 + p) = false ∧ u.txNext p = none) → u.txStart p = u) ∧
    (∀ f v, u.linkUp p = true → u.ptpOn = true → (u.tx p).cur = none → u.queMismatch (0x40 + p) = false → u.txNext p = some (f, v) →
      u.txStart p = (v.setTx p { v.tx p with cur := some f, gone := 0, since := max v.now (v.tx p).expEnd }).emit (.frame p false f.bytes)) ∧
    (∀ z, u.zeroNext p = some z → u.txNext p = some z) ∧
    (∀ a o, u.zeroNext p = none → u.avenueNext p = some a → u.othersNext p = some o → ∃ r, u.txNext p = some r ∧
      ((u.tx p).aveRun < 32 → r.1 = a.1) ∧ (32 ≤ (u.tx p).aveRun → r.1 = o.1 ∧ (r.2.tx p).aveRun = 0)))

/-- What a port does with a received frame. -/
def Obligations.ReceivedFramesAreCountedAndDelivered : Prop :=
  (∀ (s : State) (port : Fin 64) (b : List Byte) (rx : RxMeta), s.pl.port? port.val = none ∨ s.linkUp port.val = false →
    exec (.portRxFrame port.castSucc b rx) s = .next s.begin) ∧
  (∀ (s : State) (b : List Byte) (rx : RxMeta), let run := exec (.portRxFrame (Fin.last 64) b rx) s
    let s1 := s.begin.bump (Reg.updSpcnt 0)
    let on := s.lcs.link = true ∧ s.mode.mode ≠ .reset ∧ rx.kind = .frame
    let sound := 64 ≤ b.length ∧ rx.pcsOk = true ∧ (b.length ≤ 1518 → rx.fcsOk = true)
    let ty := etherType (b.take 1518)
    (¬ on → run = .next s.begin) ∧ (on → ¬ sound ∨ ty = 0x8808 → run = .next (s1.bump (Reg.updSpcnt 2))) ∧
    (on → sound → ty ≠ 0x8808 → beAt (b.take 1518) 12 2 ≠ 0x88B6 → run = .next s1)) ∧
  (∀ (s : State) (port : Fin 64) (r : PortRec) (b : List Byte) (rx : RxMeta), s.pl.port? port.val = some r → s.linkUp port.val = true →
    let s0 := s.begin.rxFec r rx
    (rx.kind = .respond → exec (.portRxFrame port.castSucc b rx) s = .next s0) ∧
    (rx.kind = .verify → natBit r.use 0 = true ∨ s.bitOf (Reg.prtPreempt port.val) 0 = true →
      exec (.portRxFrame port.castSucc b rx) s = .next (s0.emit (.verify port.val true))) ∧
    (rx.kind = .verify → natBit r.use 0 = false → s.bitOf (Reg.prtPreempt port.val) 0 = false →
      exec (.portRxFrame port.castSucc b rx) s = .next s0) ∧
    (r.port = port.val → s0.rd64 (Reg.prtCntLo port.val 20) =
      (s.rd64 (Reg.prtCntLo port.val 20) + if r.fec = 0 then 0 else rx.corrected) % 2 ^ 64)) ∧
  (∀ (s : State) (port : Fin 64) (b : List Byte) (rx : RxMeta) (r : PortRec), s.pl.port? port.val = some r →
    s.linkUp port.val = true → rx.kind = .frame →
    let p := port.val
    let run := exec (.portRxFrame port.castSucc b rx) s
    let s0 := s.begin.rxFec r rx
    let long := r.maxFrame < b.length
    let data := b.take r.maxFrame
    let s1 := if long then s0.prtCount p 4 else s0
    let good := 63 < b.length ∧ rx.smdOk = true ∧ rx.pcsOk = true ∧ (long ∨ rx.fcsOk = true)
    let control := etherType data = 0x8808
    let op := beAt (etherBody data) 0 2
    let ours := dstMac data = r.mac ∨ isMulticast (dstMac data) = true ∨ s.bitOf (Reg.prtRxcfg p) 0 = true
    let s2 := ((s1.prtCount p 0).prtCount p 1 b.length).bw (Reg.pmcBwPort p 0) b.length
    let s3 := if rx.express then s2.prtCount p 13 else s2
    (b.length ≤ 63 → run = .next (s0.prtCount p 2)) ∧
    (63 < b.length → rx.smdOk = false → run = .next (s0.prtCount p 12)) ∧
    (63 < b.length → rx.smdOk = true → rx.pcsOk = false ∨ (¬ long ∧ rx.fcsOk = false) → run = .next (s0.prtCount p 3)) ∧
    (good → control → op = 0x0001 ∨ op = 0x0101 → run = .next (s1.prtCount p 5)) ∧
    (good → control → ¬ (op = 0x0001 ∨ op = 0x0101) → run = .next (s1.prtCount p 6)) ∧
    (good → ¬ control → ¬ ours → run = .next (s1.prtCount p 7)) ∧
    (good → ¬ control → ours → vlanOk r data = false → run = .next (s1.prtCount p 8)) ∧
    (good → ¬ control → ours → vlanOk r data = true → ¬ long → natBit r.use 0 = false →
      etherType (data.take (data.length - 4)) = s.lmsType →
        run = .next ((s3.bump (Reg.lmsPrxdrop p)).count 7 p 1)) ∧
    (good → ¬ control → ours → vlanOk r data = true → (long ∨ etherType (data.take (data.length - 4)) ≠ s.lmsType) → natBit r.use 0 = false → natBit r.use 1 = false → natBit r.use 3 = false →
      (s.rxRing port data = none → run = .next (s3.prtCount p 9)) ∧
      (∀ q, s.rxRing port data = some q → rx.room = .full → run = .next (s3.prtCount p 11)) ∧
      (∀ q, s.rxRing port data = some q → rx.room ≠ .full → ¬ long → s.ringAvail (.rx port q) = 1 →
        s.rxDescOk r.dist (s.ringDesc (.rx port q)) = true → b.length ≤ leAt (s.ringDesc (.rx port q)) 2 2 → Uncopied s →
        Completes (.portRxFrame port.castSucc b rx) s (fun t =>
          t.ringHead (.rx port q) = (s.ringHead (.rx port q) + 1) % max (2 * s.ringEntries (.rx port q)) 1 % 65536 ∧
          t.rd64 (Reg.prtCntLo p 0) = (s.rd64 (Reg.prtCntLo p 0) + 1) % 2 ^ 64 ∧
          SameMemoryBut (fun a => ∃ z off, (s.set? (leAt (s.ringDesc (.rx port q)) 0 2) = some z ∨
            s.set? (s.ringSet (.rx port q)) = some z) ∧ off < z.bytes ∧ a = s.addrIn z.handles off) s t ∧
          t.lot.sets = s.lot.sets ∧ t.plan = s.plan ∧ t.mode = s.mode))))

/-- The rings of ports and DMA engines. -/
def Obligations.RingsAreEnabledFedAndStopped : Prop :=
  (∀ (s : State) (init : InitId) (ring : RingId) (v : Word32),
    (match ring with
      | .dma d _ => Admits s init 0 ∧ isHost init = true ∧ distOf init = d.val
      | _ => Admits s init 8 ∧ (distOf init = houseDist ∨ s.ringDist ring = some (distOf init))) →
    let b := ringBase ring
    let a := s.begin.setF b 0 16 (field v 0 16)
    let n := s.ringEntries ring
    let aligned := ∃ d, s.ringDist ring = some d ∧ s.ringOff ring % 64 = 0 ∧
      (s.setRange d (s.ringSet ring) (s.ringOff ring) (32 * n)).isSome = true
    let sized := ∃ k, 4 ≤ k ∧ k ≤ 15 ∧ n = 2 ^ k
    let t := field v 0 16
    let handed := (t + 2 * n - s.ringHead ring % (2 * n)) % (2 * n)
    (s.ringOn ring = true → exec (.ringEnable init ring v) s = .next a) ∧
    (s.ringOn ring = false →
      (s.ringDist ring = none → exec (.ringEnable init ring v) s = .next (a.ringErr ring 0x25)) ∧
      (s.ringDist ring ≠ none → ¬ aligned → exec (.ringEnable init ring v) s = .next (a.ringErr ring 0x21)) ∧
      (aligned → ¬ sized → exec (.ringEnable init ring v) s = .next (a.ringErr ring 0x22)) ∧
      (aligned → sized → exec (.ringEnable init ring v) s = .next
        (({ (a.wr (b + 0x14) 0).wr (b + 0x18) 0 with rings := s.rings.set (ringNo ring) {} }.setF b 31 1 1).setF (b + 0x20) 0 1 1))) ∧
    Completes (.ringDisable init ring v) s (fun u => u.ringOn ring = false ∧ u.ringHead ring = s.ringHead ring ∧
      u.ringTail ring = s.ringTail ring ∧ u.ringItr ring = t ∧ u.rings = s.rings ∧
      SameRegsBut (fun k => k = b ∨ k = b + 0x20) s u ∧ u.mem = s.mem ∧ u.mode = s.mode) ∧
    (n = 0 ∨ n < handed → exec (.ringTailWrite init ring v) s = .next (s.begin.ringErr ring 0x24)) ∧
    (n ≠ 0 → handed ≤ n → exec (.ringTailWrite init ring v) s = .next (s.begin.wr (b + 0x14) (w32 (t % (2 * n)))))) ∧
  (∀ (s : State) (port : Fin 64) (ring : Fin 4),
    let id : RingId := .tx port ring
    let x := s.tx port.val
    let d := s.ringDesc id
    let on := (s.mode.mode = .standby ∨ s.mode.mode = .active) ∧ s.linkUp port.val = true
    let ready := s.ringOn id = true ∧ s.ringAvail id ≠ 0 ∧ (x.rings.get {} ring.val).busy = false
    (¬ on ∨ ¬ ready → exec (.ringTxDescriptor port ring) s = .next s.begin) ∧
    (∀ pr, s.pl.port? port.val = some pr → on → ready →
      let data := s.readSetId (leAt d 0 2) (leAt d 8 8) (leAt d 4 4)
      (leAt d 4 4 = 0 → s.txrCheck pr d = 0x03) ∧
      (leAt d 4 4 ≠ 0 → (s.setRange pr.dist (leAt d 0 2) (leAt d 8 8) (leAt d 4 4)).isNone = true → s.txrCheck pr d = 0x02) ∧
      (s.txrCheck pr d ≠ 0 → Completes (.ringTxDescriptor port ring) s (fun t => ((t.tx port.val).rings.get {} ring.val).busy = false ∧
        t.ringHead id = (s.ringHead id + 1) % max (2 * s.ringEntries id) 1 % 65536 ∧ t.mode = s.mode)) ∧
      (s.txrCheck pr d = 0 → natBit (byteAt d 0x14) 0 = false → s.txrClean d 1 = 1 → exec (.ringTxDescriptor port ring) s = .next
        (s.begin.setTx port.val { x with
            rings := x.rings.set ring.val
              { busy := true, desc := d, frames := [⟨.ring ring.val true, data ++ List.replicate (60 - data.length) 0⟩], endCode := 0 } })))) ∧
  (∀ (s : State) (ring : RingId), ((s.ringSt ring).evtDue = false → exec (.ringEventTimer ring) s = .next s.begin) ∧
    ((s.ringSt ring).evtDue = true → Completes (.ringEventTimer ring) s (fun t => (t.ringSt ring).evtDue = false ∧
      t.now = max s.now ((s.ringSt ring).lastEvt.getD 0 + usRoot (s.ringItr ring)) ∧ (t.ringSt ring).lastEvt = some t.now ∧
      t.mem = s.mem ∧ t.mode = s.mode)))

/-! ### The Clocktower -/

/-- The counter, its grid and timecode. -/
def Obligations.ClocktowerCountsStepsAndLatches : Prop :=
  (∀ (s : State) (init : InitId), ByHouse s init →
    (∀ v : Word32, let hi := s.hiStage.get 0 (initKey init Reg.cltIncrLo)
      let n := field hi 0 8 * 2 ^ 32 + v.toNat
      (n < incrMin ∨ incrMax < n → exec (.cltIncrWrite init v) s = .next (s.begin.setErr Reg.cltStatus 0x01)) ∧
      (incrMin ≤ n → n ≤ incrMax → exec (.cltIncrWrite init v) s = .next
        (((s.begin.wr Reg.cltIncrLo v).wr Reg.cltIncrHi (hi &&& 0xFF)).setErr Reg.cltStatus 0))) ∧
    (∀ v : Word32, let a := signed 32 v.toNat
      (s.clt.stepAt = some (s.now / 24) → exec (.slewStart init v) s = .next (s.begin.setErr Reg.cltStatus 0x04)) ∧
      (s.clt.stepAt ≠ some (s.now / 24) → 1000000 < a.natAbs → exec (.slewStart init v) s = .next (s.begin.setErr Reg.cltStatus 0x02)) ∧
      (s.clt.stepAt ≠ some (s.now / 24) → a.natAbs ≤ 1000000 → Completes (.slewStart init v) s (fun t =>
        t.clt = { s.clt with slew := a * 2 ^ 32, adjAt := some (s.now / 24) } ∧
        t.fld Reg.cltStatus 24 8 = 0 ∧ t.bitOf Reg.cltStatus 6 = (a != 0) ∧ SameRegsBut (· = Reg.cltStatus) s t ∧ t.mem = s.mem))) ∧
    (∀ key : BitVec 16, let err := if s.clt.adjAt = some (s.now / 24) then 4 else 0
      let ns := (s.rd (initKey init Reg.cltStepNs)).toNat
      let sec := s.fld (initKey init Reg.cltStepSecHi) 0 16 * 2 ^ 32 + (s.rd (initKey init Reg.cltStepSecLo)).toNat
      (key ≠ 0x57E9 → exec (.cltStepAdd init key) s = .next (s.begin.setErr Reg.cltStatus 0x03) ∧
        exec (.cltStepSet init key) s = .next (s.begin.setErr Reg.cltStatus 0x03)) ∧
      (key = 0x57E9 → 999999999 < ns → exec (.cltStepSet init key) s = .next (s.begin.setErr Reg.cltStatus 0x05)) ∧
      (key = 0x57E9 → Completes (.cltStepAdd init key) s (fun t => t.clt.slew = 0 ∧
        (t.clt.units : Int) = ((s.clt.units : Int) + signed 32 ns * 2 ^ 32) % (2 ^ 48 * secUnits : Nat) ∧
        t.clt.stepAt = some (s.now / 24) ∧ t.fld Reg.cltStatus 24 8 = err ∧ SameRegsBut (· = Reg.cltStatus) s t ∧ t.mem = s.mem ∧ t.now = s.now)) ∧
      (key = 0x57E9 → ns ≤ 999999999 → Completes (.cltStepSet init key) s (fun t => t.clt.slew = 0 ∧
        t.clt.sec = sec ∧ t.clt.ns = ns ∧ t.clt.frac = 0 ∧ (t.clt.armed.isSome = s.clt.armed.isSome) ∧
        t.clt.stepAt = some (s.now / 24) ∧ t.fld Reg.cltStatus 24 8 = err ∧ SameRegsBut (· = Reg.cltStatus) s t ∧ t.mem = s.mem ∧ t.now = s.now)))) ∧
  (∀ (s : State) (init : InitId), Admits s init 9 → isHouse init = false →
    (∀ v, exec (.cltIncrWrite init v) s = .next s.begin ∧ exec (.slewStart init v) s = .next s.begin) ∧
    (∀ key, exec (.cltStepAdd init key) s = .next s.begin ∧ exec (.cltStepSet init key) s = .next s.begin)) ∧
  (∀ s : State, (s.clt.slew = 0 → exec .slewDone s = .next s.begin) ∧
    (s.clt.slew ≠ 0 → Runs s → Completes .slewDone s (fun t => t.clt.slew = 0 ∧ t.bitOf Reg.cltStatus 6 = false ∧
      t.now = s.now - s.now % 24 + 24 * ceilDiv s.clt.slew.natAbs slewStep ∧ SameRegsBut (· = Reg.cltStatus) s t ∧
      t.mem = s.mem ∧ t.mode = s.mode))) ∧
  (∀ (s : State) (u : Nat), let n := s.frameRate.1
    0 < n → 0 < s.frameRate.2 → ((u * n : Nat) : Int) ≤ s.gridTimesN (s.gridFrom u) ∧
      ∀ k, ((u * n : Nat) : Int) ≤ s.gridTimesN k → s.gridFrom u ≤ k) ∧
  (∀ (s : State) (init : InitId) (which : Fin 3), Admits s init 9 false →
    Completes (.cltLatchingRead init which) s (fun t => t.resp = some (.word (s.cltLatch which).2.1) ∧
      (∀ e ∈ (s.cltLatch which).2.2, t.hiLatch.find? (initKey init e.1) = some e.2) ∧
      t = { s.begin with hiLatch := t.hiLatch, resp := t.resp })) ∧
  (∀ (s : State) (code m num den : Nat), ltcRate s.frameRate.1 s.frameRate.2 = some (code, m, num, den) → s.ltcOn = true →
    let k := s.ltcNextK m
    let l := s.ltcLabel code num den k
    Completes .ltcWordStart s (fun t => t.clt.ltcK = some k ∧ t.out = [.ltc (bitsToBytes (ltcBits code l))] ∧
      t.rd Reg.cltLtcOut = pack [(24, bcd l.1), (16, bcd l.2.1), (8, bcd l.2.2.1), (0, bcd l.2.2.2)] ∧ s.now ≤ t.now ∧
      SameRegsBut (fun q => q = Reg.cltLtcOut ∨ q = Reg.cltStatus) s t ∧ t.mem = s.mem)) ∧
  (∀ s : State, ltcRate s.frameRate.1 s.frameRate.2 = none ∨ s.ltcOn = false → exec .ltcWordStart s = .next s.begin) ∧
  (∀ code l, (ltcBits code l).length = 80) ∧
  (∀ f, (dropLabel f).2.1 % 10 ≠ 0 → (dropLabel f).2.2.1 = 0 → 2 ≤ (dropLabel f).2.2.2) ∧
  (∀ (s : State) (w : BitVec 80) (r : Nat), Runs s → Completes (.ltcInputWord w r) s (fun t =>
    t.fld Reg.cltLtcin 0 4 = w.toNat % 16 ∧ t.fld Reg.cltLtcin 28 4 = w.toNat / 2 ^ 56 % 4 ∧
    t.fld Reg.cltLtcinUb 0 4 = w.toNat / 16 % 16 ∧ t.bitOf Reg.cltLtcinStat 31 = true ∧ t.fld Reg.cltLtcinStat 0 3 = ltcInRate r ∧
    t.rd Reg.cltLtcinTns = w32 s.clt.ns ∧ t.rd Reg.cltLtcinTsec = w32 s.clt.sec ∧ t.clt = { s.clt with ltcIn := s.now } ∧
    SameRegsBut (fun q => q ∈ [Reg.cltLtcin, Reg.cltLtcinUb, Reg.cltLtcinStat, Reg.cltLtcinTns, Reg.cltLtcinTsec]) s t ∧ t.mem = s.mem)) ∧
  (∀ s : State, (s.bitOf Reg.cltLtcinStat 31 = false → exec .ltcInputTimeout s = .next s.begin) ∧
    (s.bitOf Reg.cltLtcinStat 31 = true → Completes .ltcInputTimeout s (fun t => t.bitOf Reg.cltLtcinStat 31 = false ∧
      t.now = max s.now (s.clt.ltcIn + msRoot 200) ∧ t.rd Reg.cltLtcin = s.rd Reg.cltLtcin ∧ t.mem = s.mem)))

/-- The PTP engine. -/
def Obligations.PtpHearsAnswersAndDisciplines : Prop :=
  (∀ (s : State) (port : Fin 64) (f : List Byte), let p := port.val
    let run := exec (.ptpMessage port f) s
    let t := s.rxTime p
    let on := s.ptpOn = true ∧ p ∈ s.ptpPorts ∧ s.linkUp p = true
    (¬ on ∨ s.ptpOf p f = none → run = .next s.begin) ∧
    (∀ m, on → s.ptpOf p f = some m →
      let ty := byteAt m 0 % 16
      let ok := byteAt m 0 / 16 = 0 ∧ byteAt m 1 % 16 = 2 ∧ 44 ≤ m.length ∧ byteAt m 4 = s.pl.sys.ptpDomain ∧
        natBit (byteAt m 6) 0 = false ∧ natBit (byteAt m 6) 2 = false
      (¬ ok → run = .next s.begin) ∧
      (ok → ty = 0xB → natBit (byteAt m 7) 3 = true → 64 ≤ m.length → beAt m 20 8 = Config.clockIdentity.toNat →
        run = .next s.begin) ∧
      (ok → ty = 0xB → natBit (byteAt m 7) 3 = true → 64 ≤ m.length → beAt m 20 8 ≠ Config.clockIdentity.toNat →
        Completes (.ptpMessage port f) s (fun u => u.clt.heard = true ∧ u.mem = s.mem ∧ u.mode = s.mode ∧ u.ports = s.ports ∧
          ∃ g ∈ (u.pp p).foreign, g.src = beAt m 20 10 ∧ g.prio1 = byteAt m 47 ∧ g.gm = beAt m 53 8 ∧ g.at_ = s.now ∧
            g.prev = ((s.pp p).foreign.find? (·.src == g.src)).map (·.at_) ∧
            ∀ h ∈ (u.pp p).foreign, h.src = g.src → h = g)) ∧
      (ok → ty = 1 → s.pstate p ≠ 6 → run = .next s.begin) ∧
      (ok → ty = 1 → s.pstate p = 6 → Completes (.ptpMessage port f) s (fun u => u = { s.begin with ports := u.ports } ∧
        (u.tx p).internal.length = (s.tx p).internal.length + 1 ∧ ∀ q, q ≠ p → u.tx q = s.tx q)) ∧
      (∀ g, ok → s.clt.master = some (p, g) → beAt m 20 10 = g.src →
        (ty = 0 → natBit (byteAt m 6) 1 = false → -7 ≤ signed 8 (byteAt m 33) → signed 8 (byteAt m 33) ≤ 1 →
          Completes (.ptpMessage port f) s (fun u => u.clt.slave.t1 = (tsOf m 34 * 65536 : Nat) + signed 64 (beAt m 8 8) ∧
            u.clt.slave.t2 = t ∧ u.clt.slave.fresh = true ∧ u = { s.begin with clt := u.clt })) ∧
        (∀ t3, ty = 9 → s.clt.slave.req = some (beAt m 30 2, t3) → beAt m 44 10 = portIdentity p → s.clt.slave.fresh = true →
          let x := s.clt.slave
          let t4 : Int := (tsOf m 34 * 65536 : Nat) - signed 64 (beAt m 8 8)
          let mpd := ((x.t2 - x.t1) + (t4 - t3)) / 2
          run = .next (s.begin.acceptPair (x.t2 - x.t1 - mpd) mpd))))) ∧
  (∀ (s : State) (off mpd : Int), let o := off / 65536
    let t := s.acceptPair off mpd
    (s.cltSt ≠ 1 → s.cltSt ≠ 2 → t = s) ∧
    (s.cltSt = 1 ∨ s.cltSt = 2 → t.rd Reg.cltOffset = w32 (twos 32 o) ∧ t.clt.slave.fresh = false ∧ t.clt.slave.lastPair = s.now ∧
      t.clt.slave.cal = true ∧ t.mem = s.mem ∧ t.mode = s.mode) ∧
    (s.cltSt = 1 → 1000000 < o.natAbs → t.cltSt = 1 ∧ t.clt.slew = 0 ∧
      (t.clt.units : Int) = ((s.clt.units : Int) + clampI (-2147483648) 2147483647 (-o) * 2 ^ 32) % (2 ^ 48 * secUnits : Nat)) ∧
    (s.cltSt = 2 ∨ s.cltSt = 1 ∧ o.natAbs ≤ 1000000 → s.clt.stepAt ≠ some (s.now / 24) → t.clt.slew = clampI (-1000000) 1000000 (-o) * 2 ^ 32 ∧ t.clt.units = s.clt.units) ∧
    (s.cltSt = 1 → o.natAbs ≤ 200 → 15 ≤ s.clt.slave.good → t.cltSt = 2) ∧
    (s.cltSt = 1 → 200 < o.natAbs → t.cltSt = 1) ∧
    (s.cltSt = 2 → 1000 < o.natAbs → 3 ≤ s.clt.slave.bad → t.cltSt = 1) ∧ (s.cltSt = 2 → o.natAbs ≤ 1000 → t.cltSt = 2)) ∧
  (∀ (s : State) (port : Fin 64), let p := port.val
    ∀ c st it, (c, st, it) ∈ [(Instr.ptpSyncInterval port, [6], ExpItem.sync),
        (Instr.ptpDelayReqInterval port, [9, 8], ExpItem.delayReq)] →
      let on := s.ptpOn = true ∧ p ∈ s.ptpPorts ∧ s.pstate p ∈ st
      (¬ on → exec c s = .next s.begin) ∧
      (on → s.linkUp p = false → exec c s = .next (s.begin.prtCount p 19)) ∧
      (on → s.linkUp p = true → (s.tx p).cur = none → Completes c s (fun u =>
        u.out = [.frame p true (s.begin.expBytes p ((s.tx p).expEnd - s.now) it).1] ∧ u.mem = s.mem ∧ u.mode = s.mode))) ∧
  (∀ (s : State) (port : Fin 64), let p := port.val
    (s.ptpOn = false ∨ p ∉ s.ptpPorts → exec (.ptpAnnounceInterval port) s = .next s.begin) ∧
    (s.ptpOn = true → p ∈ s.ptpPorts → s.pstate p = 6 → Completes (.ptpAnnounceInterval port) s (fun u =>
      (u.tx p).internal.length = (s.tx p).internal.length + 1 ∧ (u.pp p).seqAnn = ((s.pp p).seqAnn + 1) % 65536 ∧
      (u.pp p).ipv4 = s.bitOf (Reg.cltPport p) 6 ∧ u.regs = s.regs ∧ u.mem = s.mem)) ∧
    (s.ptpOn = true → p ∈ s.ptpPorts → s.pstate p = 5 → 1 < (s.pp p).qual → Completes (.ptpAnnounceInterval port) s (fun u =>
      u.ports = s.ports ∧ (u.pp p).qual = (s.pp p).qual - 1 ∧ u.pstate p = 5 ∧ u.mem = s.mem))) ∧
  (∀ (s : State) (c : Instr), c = .announceReceiptTimeout ∨ c = .syncReceiptTimeout →
    (s.clt.master = none → exec c s = .next s.begin) ∧
    (∀ p f, s.clt.master = some (p, f) → s.cltSt = 1 ∨ s.cltSt = 2 → (∀ q, ∀ g ∈ (s.pp q).foreign, q = p ∧ g.src = f.src) →
      Completes c s (fun u => u.clt.master = none ∧ (u.pp p).foreign = [] ∧ u.cltSt = (if s.haveTime then 3 else 0) ∧
        s.now ≤ u.now ∧ u.mem = s.mem ∧ u.mode = s.mode)))

/-! ### Clocks -/

/-- REFCLK, gating and clock outputs. -/
def Obligations.ClocksAreWatchedSwitchedAndGated : Prop :=
  (∀ (s : State) (count : Nat) (gap : Bool),
    let bad := gap = true ∨ s.nearExpect count = false
    let w := s.begin.setF Reg.ckgRefmon 0 16 count
    let window := exec (.refmonWindowEnd count gap) s
    let told := exec (.refclkFail gap count) s
    (s.ckg.ok = true → ¬ bad → told = .next s.begin) ∧
    (s.ckg.ok = true → ¬ bad → s.ckg.wins + 1 < 64 → window = .next (w.ck (fun c => { c with wins := c.wins + 1 }))) ∧
    (s.ckg.ok = true → bad → Runs s → (∀ r ∈ s.pl.ports, r.port < 64) → ∀ c, c = .refmonWindowEnd count gap ∨ c = .refclkFail gap count →
      Completes c s (fun t => t.ckg.ok = false ∧ t.ckg.osc = true ∧ t.bitOf Reg.ckgStatus 1 = false ∧ t.bitOf Reg.ckgStatus 2 = true ∧
        t.bitOf Reg.ckgStatus 3 = true ∧ t.bitOf Reg.ckgStatus 6 = false ∧ t.fld Reg.ckgStatus 24 8 = 0x01 ∧
        t.rd Reg.ckgReffails = s.rd Reg.ckgReffails + 1 ∧ t.bitOf Reg.errNmisrc 0 = true ∧ Out.nmi ∈ t.out ∧ t.cltSt = 4 ∧ (∀ r ∈ s.pl.ports, t.linkUp r.port = false) ∧
        t.lcs.link = false ∧ t.bitOf Reg.cswStatus 7 = false ∧
        t.csw.fatal = true ∧ (s.ckg.switch = none → t.ckg.switch = some true) ∧
        (s.ckg.switch ≠ none → t.ckg.switch = s.ckg.switch ∧ t.ckg.again = some true) ∧ t.mem = s.mem ∧ t.mode = s.mode)) ∧
    (s.ckg.ok = false → told = .next (s.begin.ck (fun c => { c with good := 0, counts := [] }))) ∧
    (s.ckg.ok = false → s.ckg.osc = true → bad → window = .next (w.ck (fun c => { c with good := 0 }))) ∧
    (s.ckg.ok = false → s.ckg.osc = true → ¬ bad → s.ckg.good + 1 < 16 → window = .next (w.ck (fun c => { c with good := c.good + 1 }))) ∧
    (s.ckg.ok = false → s.ckg.osc = true → ¬ bad → 15 ≤ s.ckg.good → Runs s → Completes (.refmonWindowEnd count gap) s (fun t =>
      t.ckg.ok = true ∧ t.ckg.osc = false ∧ t.bitOf Reg.ckgStatus 1 = true ∧ t.bitOf Reg.ckgStatus 2 = false ∧
      t.fld Reg.ckgStatus 24 8 = 0x02 ∧ (s.cltSt = 4 → t.cltSt = (if s.haveTime then 3 else 0) ∧ t.clt.master = none) ∧ (s.cltSt ≠ 4 → t.cltSt = s.cltSt) ∧
      t.mem = s.mem)) ∧
    (s.ckg.ok = false → s.ckg.osc = false → gap = true → window = .next (w.ck (fun c => { c with counts := [] })))) ∧
  (∀ l : List Nat, qualifies l = true → ∀ c ∈ l, 24704 ≤ c ∧ c ≤ 26496 ∧ l.length = 16) ∧
  (∀ s : State, (s.ckg.switch = none → exec .clockSwitchDone s = .next s.begin) ∧
    (∀ osc, s.ckg.switch = some osc → Completes .clockSwitchDone s (fun t => t.ckg = { s.ckg with switch := s.ckg.again, again := none } ∧
      (osc = false → s.ckg.osc = false → t.bitOf Reg.ckgStatus 6 = true) ∧ SameRegsBut (· = Reg.ckgStatus) s t ∧ t.mem = s.mem))) ∧
  (∀ (s : State) (init : InitId) (unit : BitVec 6), Admits s init 18 →
    let u := unit.toNat
    let gate := exec (.unitGate init unit) s
    let free := exec (.unitUngate init unit) s
    (isHouse init = false → gate = .next (s.begin.setErr Reg.ckgStatus 0x17) ∧ free = .next (s.begin.setErr Reg.ckgStatus 0x17)) ∧
    (isHouse init = true →
      (39 < u → gate = .next (s.begin.gateResult u 0x12 0) ∧ free = .next (s.begin.gateResult u 0x12 0)) ∧
      (u ≤ 39 → s.ckg.gate.isSome = true → gate = .next (s.begin.gateResult u 0x13 0)) ∧
      (u ≤ 39 → s.ckg.gate = none → s.gated u = true → gate = .next (s.begin.gateResult u 0 0)) ∧
      (u ≤ 39 → s.ckg.gate = none → s.gated u = false → s.unitUsed u = true → gate = .next (s.begin.gateResult u 0x11 0)) ∧
      (u ≤ 39 → s.ckg.gate = none → s.gated u = false → s.unitUsed u = false → gate = .next
        ((s.begin.ck (fun c => { c with gate := some (u, s.now) })).gateResult u 0 0)) ∧
      (∀ since, u ≤ 39 → s.ckg.gate = some (u, since) → free = .next
        ((s.begin.ck (fun c => { c with gate := none })).gateResult u 0x14 (s.gateWaited since))) ∧
      (u ≤ 39 → (∀ since, s.ckg.gate ≠ some (u, since)) → Completes (.unitUngate init unit) s (fun t => t.gated u = false ∧
        (∀ v, v ≠ u → t.gated v = s.gated v) ∧ t.ckg = s.ckg ∧ t.fld Reg.ckgGatestat 24 8 = 0 ∧ t.mem = s.mem)))) ∧
  (∀ s : State, (s.ckg.gate = none → exec .unitGated s = .next s.begin ∧ exec .gateBusyTimeout s = .next s.begin) ∧
    (∀ u since, s.ckg.gate = some (u, since) → u ≤ 39 →
      Completes .unitGated s (fun t => t.gated u = true ∧ (∀ v, v ≠ u → t.gated v = s.gated v) ∧ t.ckg.gate = none ∧
        t.fld Reg.ckgGatestat 24 8 = 0 ∧ t.fld Reg.ckgGatestat 16 6 = u ∧ t.fld Reg.ckgGatestat 0 13 = s.gateWaited since ∧ t.mem = s.mem) ∧
      Completes .gateBusyTimeout s (fun t => (∀ v, t.gated v = s.gated v) ∧ t.ckg.gate = none ∧ t.fld Reg.ckgGatestat 24 8 = 0x10 ∧
        t.fld Reg.ckgGatestat 16 6 = u ∧ t.fld Reg.ckgStatus 24 8 = 0x10 ∧ t.now = max s.now (since + 32768) ∧ t.mem = s.mem))) ∧
  (∀ (s : State) (u : Nat), (s.gated u = false → exec (.unitWake u) s = .next s.begin) ∧
    (s.gated u = true → Completes (.unitWake u) s (fun t => t.gated u = false ∧ (∀ v, v ≠ u → t.gated v = s.gated v) ∧
      natBit (t.rd64 Reg.ckgWokenLo) u = true ∧ t.ckg.waking.find? u = some s.now ∧ t.mem = s.mem ∧ t.mode = s.mode)) ∧
    (s.ckg.waking.find? u = none → exec (.unitWakeDone u) s = .next s.begin) ∧
    (∀ since, s.ckg.waking.find? u = some since → Completes (.unitWakeDone u) s (fun t => t.now = max s.now (since + 512) ∧
      t.ckg = { s.ckg with waking := s.ckg.waking.drop (· == u) } ∧ t.mem = s.mem ∧ t.mode = s.mode))) ∧
  (∀ (s : State) (init : InitId) (out : Fin 4) (v : Word32), Admits s init 15 →
    let r := Reg.krbCkocfg out.val
    (isHouse init = false → exec (.ckoConfigWrite init out v) s = .next (s.begin.setErr Reg.krbStatus 0x09)) ∧
    (isHouse init = true → Completes (.ckoConfigWrite init out v) s (fun t => t.bitOf r 31 = v.getLsbD 31 ∧ t.bitOf r 30 = v.getLsbD 30 ∧
      t.fld r 16 3 = (if field v 16 3 < 6 then field v 16 3 else s.fld r 16 3) ∧
      t.fld r 0 3 = (if field v 0 3 < 6 then field v 0 3 else s.fld r 0 3) ∧
      (s.fld r 0 31 ≠ t.fld r 0 31 → out.val ∈ t.krb.relock ∧ t.bitOf Reg.krbCkostat out.val = false) ∧
      (s.fld r 0 31 = t.fld r 0 31 → t.krb = s.krb) ∧ SameRegsBut (fun k => k = r ∨ k = Reg.krbCkostat) s t ∧ t.mem = s.mem)) ∧
    (s.relocking out.val = false → exec (.ckoRelockDone out) s = .next s.begin) ∧
    (s.relocking out.val = true → Completes (.ckoRelockDone out) s (fun t => out.val ∉ t.krb.relock ∧
      t.bitOf Reg.krbCkostat out.val = (s.mode.mode != .reset && s.bitOf r 31) ∧ SameRegsBut (· = Reg.krbCkostat) s t ∧ t.mem = s.mem)))

/-! ### The Fixture Engine -/

/-- Registrations and the merge. -/
def Obligations.FixtureMergesAreRegisteredAndQueued : Prop :=
  (∀ (s : State) (init : InitId) (slot : Fin 5) (v : Word32), Admits s init 10 →
    let j := slot.val
    let k := Reg.fxeDstatus j
    let bank := field v 0 1
    let base := s.fld (Reg.fxeDrange j) 0 16
    let count := s.fld (Reg.fxeDrange j) 16 16
    let set := s.fld (Reg.fxeDset j) 0 16
    let run := exec (.fxeDcommit init slot v) s
    let mine := ∃ z, s.set? set = some z ∧ z.dist = slotDist j
    let fits := 1 ≤ base ∧ base ≤ 63999 ∧ base + count ≤ 64000 ∧ ∃ z, s.set? set = some z ∧ 544 * count * (bank + 1) ≤ z.bytes
    (slotAllowed (distOf init) j = false → run = .next (s.begin.setErr Reg.fxeStatus 0x07)) ∧
    (slotAllowed (distOf init) j = true →
      (¬ mine → run = .next (s.begin.setErr k 0x01)) ∧ (mine → ¬ fits → run = .next (s.begin.setErr k 0x02)) ∧
      (mine → fits → Completes (.fxeDcommit init slot v) s (fun t =>
        t.fxe = { s.fxe with pend := s.fxe.pend.set j { set := set, base := base, count := count, bank := bank } } ∧
        t.bitOf k 1 = true ∧ t.fld k 24 8 = 0 ∧ SameRegsBut (· = k) s t ∧ t.mem = s.mem ∧ t.lot = s.lot ∧ t.mode = s.mode)))) ∧
  (∀ (s : State) (uni : Nat), s.active = false ∨ uni ∉ s.fxe.due ∨ uni ∈ s.fxe.merged →
    exec (.fxeMergeDone uni) s = .next s.begin) ∧
  (∀ (s : State) (uni : Nat), s.active = true → uni ∈ s.fxe.due → s.fxe.due.Nodup → uni ∉ s.fxe.merged →
    Completes (.fxeMergeDone uni) s (fun t => (uni ∉ t.fxe.due ∨ uni ∈ t.fxe.merged) ∧ t.fxe.n = s.fxe.n ∧ t.fxe.act = s.fxe.act ∧
      (∀ r, s.pl.uni? uni = some r → (t.fxe.vals.get [] uni).length = r.slots) ∧
      (∀ u, u ∉ s.groupOf uni → t.fxe.vals.get [] u = s.fxe.vals.get [] u) ∧
      t.mem = s.mem ∧ t.lot = s.lot ∧ t.plan = s.plan ∧ t.mode = s.mode)) ∧
  (∀ (s : State) (uni k : Nat) (r : UniRec), s.active = true → s.fxe.due = [uni] → uni ∉ s.fxe.merged → s.pl.uni? uni = some r →
    r.sync = 0 → r.out = 0xF0 + k → (s.dmxp k).awaits = true → s.fxe.zero = false → s.black = false →
    Completes (.fxeMergeDone uni) s (fun t => (t.dmxp k).awaits = false ∧ t.ports = s.ports ∧
      ((s.dmxp k).since.isSome = true → (t.dmxp k).vals = (s.mergeUni r).fxe.vals.get [] uni) ∧
      ((s.dmxp k).since = none → (t.dmxp k).got = some ((s.mergeUni r).fxe.vals.get [] uni)))) ∧
  (∀ (s : State) (uni : Nat) (r : UniRec), s.active = true → s.fxe.due = [uni] → uni ∉ s.fxe.merged → s.pl.uni? uni = some r →
    r.sync = 0 → r.out < 64 → s.linkUp r.out = true →
    let zero := s.fxe.zero || s.black
    let vals := if zero then List.replicate r.slots 0 else (s.mergeUni r).fxe.vals.get [] uni
    Completes (.fxeMergeDone uni) s (fun t =>
      (t.tx r.out).fxe = (s.tx r.out).fxe ++ [{ uni := uni, vals := vals, zero := zero, n := s.fxe.n }] ∧
      (∀ q, q ≠ r.out → t.tx q = s.tx q) ∧ t.fxe.due = [] ∧ t.rd Reg.fxeFrame = s.fxe.n ∧
      t.mem = s.mem ∧ t.lot = s.lot ∧ t.plan = s.plan ∧ t.mode = s.mode)) ∧
  (∀ (s : State) (r : UniRec), ((s.mergeUni r).fxe.vals.get [] r.uni).length = r.slots ∧
    (s.fxeCover r.uni = [] → (s.mergeUni r).fxe.vals.get [] r.uni = List.replicate r.slots 0) ∧
    (∀ u, u ≠ r.uni → (s.mergeUni r).fxe.vals.get [] u = s.fxe.vals.get [] u)) ∧
  (∀ (fs : List FixRec) (tops : List FxePart) (owner k : Nat),
    let htp := ∃ f ∈ fs, f.merge = 1 ∧ f.start ≤ k ∧ k < f.start + f.foot
    (htp → (∀ p ∈ tops, byteAt p.slots (k - 1) ≤ (mergeSlot fs tops owner k).toNat) ∧
      (tops ≠ [] → ∃ p ∈ tops, (mergeSlot fs tops owner k).toNat = byteAt p.slots (k - 1))) ∧
    (¬ htp → ∀ p ∈ tops, p.dist = owner → (∀ q ∈ tops, q.dist = owner → q = p) →
      (mergeSlot fs tops owner k).toNat = byteAt p.slots (k - 1)))

/-- DMX packets and RDM. -/
def Obligations.DmxPacketsEndAndRdmExchanges : Prop :=
  (∀ (s : State) (dmx : Fin 4), let k := dmx.val
    let x := s.dmxp k
    (x.since = none → exec (.dmxPacketEnd dmx) s = .next s.begin) ∧
    (∀ t0, x.since = some t0 → Completes (.dmxPacketEnd dmx) s (fun t => (t.dmxp k).since = none ∧
      t.now = max s.now (t0 + usRoot (s.dmxLead k + 44 * (1 + x.vals.length))) ∧
      t.rd (Reg.fxeDmxpkt k) = s.rd (Reg.fxeDmxpkt k) + 1 ∧ t.bitOf (Reg.fxeDmxstat k) 16 = false ∧ t.mem = s.mem ∧
      (x.rdm = none → t.out = [.dmx k (0 :: x.vals)]) ∧
      (∀ r, x.rdm = some r → r.sent = none → s.active = true → t.out = [.dmx k (0 :: x.vals), .rdm k (rdmBytes r.bytes)]) ∧
      (s.active = false → t.out = [.dmx k (0 :: x.vals)]) ∧
      (∀ q, q ≠ k → t.dmxp q = s.dmxp q)))) ∧
  (∀ (s : State) (init : InitId) (dmx : Fin 4) (c : Instr) (e : Nat), Admits s init 10 →
    (c, e) ∈ [(Instr.rdmBroadcast init dmx, 0), (.rdmRequest init dmx, 1), (.rdmDiscovery init dmx, 2)] →
    let k := dmx.val
    let x := s.dmxp k
    let stat := Reg.fxeRdmstat k
    let win := wordsToBytes ((List.range 64).map (fun i => s.rd (rdmReqKey k i)))
    let may := isHouse init = true ∨ distOf init = s.rdmDist k
    let well := byteAt win 0 = 0xCC ∧ byteAt win 1 = 0x01 ∧ 24 ≤ byteAt win 2
    let refused := fun (n : Nat) => exec c s = .next (s.begin.setErr stat n)
    (¬ may → exec c s = .next (s.begin.setErr Reg.fxeStatus 0x07)) ∧
    (may → s.active = false → refused 0x06) ∧ (may → s.active = true → x.rdm.isSome = true → refused 0x03) ∧
    (may → s.active = true → x.rdm = none → ¬ well → refused 0x04) ∧
    (may → s.active = true → x.rdm = none → well → Completes c s (fun t => t.bitOf stat 19 = true ∧
      ((t.dmxp k).rdm.map (fun r => (r.expect, r.bytes))) = some (e, win.take (byteAt win 2)) ∧
      (x.since = none → x.exchanged = false → t.out = [.rdm k (rdmBytes (win.take (byteAt win 2)))]) ∧
      (x.since.isSome = true → t.out = []) ∧ SameRegsBut (· = stat) s t ∧ t.mem = s.mem))) ∧
  (∀ (s : State) (dmx : Fin 4) (b : List Byte), let k := dmx.val
    let x := s.dmxp k
    let stat := Reg.fxeRdmstat k
    (x.rdm = none → exec (.rdmResponse dmx b) s = .next s.begin ∧ exec (.rdmExchangeTimeout dmx) s = .next s.begin) ∧
    (∀ r, x.rdm = some r →
      (r.sent = none → exec (.rdmResponse dmx b) s = .next s.begin ∧ exec (.rdmExchangeTimeout dmx) s = .next s.begin) ∧
      (r.expect = 0 → exec (.rdmResponse dmx b) s = .next s.begin) ∧
      (∀ t0, r.sent = some t0 → r.discard = false → x.wait = false →
        let ended := fun (t : State) (result len : Nat) => (t.dmxp k).rdm = none ∧ t.bitOf stat 19 = false ∧
          t.fld stat 16 3 = result ∧ t.fld stat 0 10 = len ∧ t.mem = s.mem ∧ t.mode = s.mode
        (r.expect = 1 → rdmValid b = true → Completes (.rdmResponse dmx b) s (fun t => ended t 1 (min b.length 512))) ∧
        (r.expect = 1 → rdmValid b = false → Completes (.rdmResponse dmx b) s (fun t => ended t 3 (min b.length 512))) ∧
        (∀ u, r.expect = 2 → discUid b = some u → Completes (.rdmResponse dmx b) s (fun t => ended t 5 (min b.length 512) ∧
          t.rd (Reg.fxeRdmuidLo k) = w32 u ∧ t.rd (Reg.fxeRdmuidHi k) = w32 (u / 2 ^ 32))) ∧
        (r.expect = 2 → discUid b = none → Completes (.rdmResponse dmx b) s (fun t => ended t 3 (min b.length 512))) ∧
        (r.expect = 0 → Completes (.rdmExchangeTimeout dmx) s (fun t => ended t 4 0 ∧ t.now = max s.now (t0 + usRoot 176))) ∧
        (r.expect ≠ 0 → Completes (.rdmExchangeTimeout dmx) s (fun t => ended t 2 0 ∧ t.now = max s.now (t0 + usRoot 2800))))))

/-! ### The Roundabout -/

/-- The life of a work item. -/
def Obligations.ItemsAreAdmittedPickedAndCompleted : Prop :=
  (∀ (s : State) (init : InitId) (slot : Fin 5) (lane : Fin 8) (w : Word32) (tl : List Word32), Admits s init 12 →
    slotAllowed (distOf init) slot.val = true → (isHost init = true → s.mirrorLocked (distOf init) = false) →
    tl.length = 15 → s.queMismatch slot.val = false →
    let j := slot.val
    let c := Instr.submissionPost init slot lane 0 (w :: tl)
    let x := s.lane j lane.val
    (x.level 64 < 64 → Completes c s (fun t => t.lane j lane.val = x.post 64 (putField w 16 8 lane.val :: tl) ∧
      (∀ q l, laneKey q l ≠ laneKey j lane.val → t.lane q l = s.lane q l) ∧ t.resp = some .ack ∧
      t.fld (Reg.queStatus j) 24 8 = 0 ∧ t.mem = s.mem ∧ t.sch = s.sch)) ∧
    (64 ≤ x.level 64 → Completes c s (fun t => t.que = s.que ∧ t.bitOf (Reg.queStatus j) 16 = true ∧
      t.fld (Reg.queStatus j) 24 8 = 0x01 ∧ t.rd (Reg.queRejcnt j) = s.rd (Reg.queRejcnt j) + 1 ∧
      (isHost init = true → Out.aer (distOf init) 15 true ∈ t.out) ∧ (isHost init = false → t.resp = some .busError) ∧ t.mem = s.mem))) ∧
  (∀ (s : State) (init : InitId) (slot : Fin 5) (lane : Fin 8) (dword : Fin 16) (ws : List Word32), Admits s init 12 →
    let c := Instr.submissionPost init slot lane dword ws
    (slotAllowed (distOf init) slot.val = false → exec c s = .next (s.begin.setErr (Reg.queStatus slot.val) 0x03)) ∧
    (slotAllowed (distOf init) slot.val = true → (isHost init = true → s.mirrorLocked (distOf init) = false) →
      dword.val + ws.length < 16 → Completes c s (fun t => t.resp = some .ack ∧ t.que = s.que ∧ t.mem = s.mem))) ∧
  (∀ s : State, (s.schOn = false ∨ s.admitFrom = none → exec .itemAdmission s = .next s.begin) ∧
    (s.schOn = true → s.agingDue = true → s.admitFrom ≠ none → Completes .itemAdmission s (fun t =>
      t.sch.aged = s.schTick ∧ t.now = s.now ∧ t.mode = s.mode)) ∧
    (∀ d l r, s.schOn = true → s.agingDue = false → s.admitFrom = some d → s.queMismatch (slotOf d) = false → s.topLane (slotOf d) = some l →
      s.freeRecord d = some r →
      let b := wordsToBytes ((s.lane (slotOf d) l).head 64)
      Completes .itemAdmission s (fun t => t.lane (slotOf d) l = (s.lane (slotOf d) l).pop 64 ∧ t.sch.last = d ∧
        (s.admitCode d b = 0 → ∃ x, t.item? r = some x ∧ x.st = .ready ∧ x.dist = d ∧ x.level = byteAt b 2 ∧ x.tag = leAt b 4 2 ∧
          x.cost = leAt b 6 2 ∧ x.handler = leAt b 0 2 ∧ x.admitted = s.now) ∧
        (s.admitCode d b ≠ 0 → ∀ k y, t.item? k = some y → y.st = .ready → s.item? k = some y)))) ∧
  (∀ s : State, (s.sch.recs.map (·.1)).Pairwise (· < ·) →
    (s.mode.mode = .reset → exec .agingPoint s = .next s.begin) ∧
    (Runs s → Completes .agingPoint s (fun t => t.schTick % 256 = 0 ∧ t.sch.aged = t.schTick ∧ s.now ≤ t.now ∧
      ∀ r x, s.item? r = some x →
        let waits := x.st = .ready ∨ ∃ p, x.st = .parked p
        let due := waits ∧ x.level < 6 ∧ (s.rd (Reg.schDage (slotOf x.dist))).toNat ≤ (t.now - x.since) / 24
        (due → ∃ y, t.item? r = some y ∧ y.level = x.level + 1 ∧ y.aged = true ∧ y.since = t.now ∧ y.st = x.st ∧ y.tag = x.tag) ∧
        (¬ due → t.item? r = some x)))) ∧
  (∀ (s u : State) (l r : Nat) (x : Item), s.pickReady l = (some (r, x), u) → x.st = .ready ∧ x.level = l ∧
    0 ≤ u.deficit l x.dist ∧ u.sch.recs = s.sch.recs ∧ u.mem = s.mem) ∧
  (∀ (s : State) (core : Fin 16) (l : Nat), (s.sch.recs.map (·.1)).Pairwise (· < ·) → s.schOn = true → s.agingDue = false → s.topLevel = some l →
    (∀ r x u, s.parkedAtLevel l = none → s.begin.pickReady l = (some (r, x), u) → s.coreFor x.handler = some core.val →
      Completes (.itemDispatch core) s (fun t => (∃ y, t.item? r = some y ∧ y.st = .running core.val ∧ y.dispLevel = some l ∧
        y.dispAt = s.now ∧ y.tag = x.tag) ∧ (∀ k, k ≠ r → t.item? k = s.item? k) ∧ Out.coreIrq core.val ∈ t.out ∧ t.mode = s.mode)) ∧
    (∀ r x, s.idleCores ≠ [] → s.parkedAtLevel l = some (r, x) → s.coreFor x.handler = some core.val →
      Completes (.itemDispatch core) s (fun t => (∃ y, t.item? r = some y ∧ y.st = .running core.val ∧ y.stint = s.now ∧
        y.used = x.used) ∧ Out.coreIrq core.val ∈ t.out ∧ (∀ k, k ≠ r → t.item? k = s.item? k))) ∧
    (∀ vr v slot r x u, l = 7 → s.idleCores = [] → s.victim = some (vr, v, core.val) → s.freeParking = some slot →
      s.begin.pickReady 7 = (some (r, x), u) → Completes (.itemDispatch core) s (fun t =>
        (∃ y, t.item? vr = some y ∧ y.st = .parked slot ∧ y.used = v.used + (s.now - v.stint) ∧ y.parkedOnce = true) ∧
        (∃ y, t.item? r = some y ∧ y.st = .running core.val) ∧ Out.coreIrq core.val ∈ t.out))) ∧
  (∀ (s : State) (core : Fin 16), s.schOn = false ∨ (s.agingDue = false ∧ s.topLevel = none) →
    exec (.itemDispatch core) s = .next s.begin) ∧
  (∀ (s : State) (r c : Nat) (x : Item), s.victim = some (r, x, c) → x.level < 7 ∧ s.onCore c = some (r, x) ∧
    ∀ k < 16, ∀ q y, s.onCore k = some (q, y) → y.level < 7 → x.level < y.level ∨ (x.level = y.level ∧
      (y.dispAt / 8 < x.dispAt / 8 ∨ (y.dispAt / 8 = x.dispAt / 8 ∧ k ≤ c)))) ∧
  (∀ (s t : State) (j : Nat), s.l7Reset.l7Used j = s.l7Used j ∧
    (t.sch = s.l7Reset.sch → s.now / 8 < t.now / 8 → t.l7Used j = 0)) ∧
  (∀ (s : State) (core : Fin 16), (s.onCore core.val = none → exec (.itemComplete core) s = .next s.begin ∧
      ∀ u, exec (.runLimitStop core u) s = .next s.begin) ∧
    (∀ r x, s.onCore core.val = some (r, x) →
      let j := slotOf x.dist
      (∀ status result used, x.handler < 0x7000 → x.done = some (status, result, used) →
        Completes (.itemComplete core) s (fun t => t.sch.lastHandler.find? core.val = some x.handler ∧
          (∀ y, t.item? r = some y → y.st = .ended ∧ y.completion = completionBytes x status core.val (ceilDiv used 9600) result) ∧
          (x.orphan = true → t.item? r = none ∧ t.que = s.que) ∧
          (x.orphan = false → s.queMismatch (8 + j) = false → (s.lane (8 + j) x.lane).level 32 < 32 →
            (∀ e ∈ s.sch.recs, e.2.st = .ended → e.2.dist = x.dist → e.2.lane = x.lane → False) →
            t.item? r = none ∧ t.lane (8 + j) x.lane = (s.lane (8 + j) x.lane).post 32
              (bytesToWords (completionBytes x status core.val (ceilDiv used 9600) result))))) ∧
      (0x7000 ≤ x.handler → s.usedTime x ≤ x.limit → Completes (.itemComplete core) s (fun t =>
        t.sch.lastHandler.find? core.val = some x.handler ∧ (∀ y, t.item? r = some y → y.st = .ended ∧ ∃ status result,
          (status = 0 ∨ status = 8) ∧
          y.completion = completionBytes x status core.val (ceilDiv (s.usedTime x) 9600) result))) ∧
      (x.handler < 0x7000 → x.done = none → exec (.itemComplete core) s = .next s.begin) ∧
      (∀ u, x.done.isSome = true → exec (.runLimitStop core u) s = .next s.begin) ∧
      (∀ u, x.done = none → Completes (.runLimitStop core u) s (fun t => t.now = max s.now (x.stint + (x.limit + 1 - x.used)) ∧
        t.sch.lastHandler.find? core.val = some x.handler ∧
        (∀ y, t.item? r = some y → y.st = .ended ∧ ∃ result, y.completion = completionBytes x 0x0A core.val (4 * x.cost + 1) result))))) ∧
  (∀ (s : State) (slot : Fin 5), let held := s.sch.recs.filter (fun e => e.2.st == .ended && e.2.dist == slotDist slot.val)
    (held = [] → exec (.deferredCompletionWrite slot) s = .next s.begin) ∧
    (∀ r x, held = [(r, x)] → s.item? r = some x → s.queMismatch (8 + slot.val) = false →
      (s.lane (8 + slot.val) x.lane).level 32 < 32 → Completes (.deferredCompletionWrite slot) s (fun t => t.item? r = none ∧
        t.lane (8 + slot.val) x.lane = (s.lane (8 + slot.val) x.lane).post 32 (bytesToWords x.completion) ∧ t.mem = s.mem)))

/-- The catalogue's handlers and the trace. -/
def Obligations.HandlersDoTheirWork : Prop :=
  (∀ (s : State) (core : Fin 16) (uids : List (BitVec 48)) (c : Instr) (h : Nat) (f : State → Item → Handled),
    (c = .handlerEcho core ∧ h = 0x0001 ∧ f = (fun s x => ⟨0, x.arg 0, s⟩)) ∨
    (c = .handlerCopy core ∧ h = 0x0010 ∧ f = (fun s x => s.hCopy x false)) ∨
    (c = .handlerFill core ∧ h = 0x0011 ∧ f = (fun s x => s.hFill x false)) ∨
    (c = .handlerLutgen core ∧ h = 0x0020 ∧ f = (fun s x => s.hLutgen x false)) ∨
    (c = .handlerCrc core ∧ h = 0x0030 ∧ f = (fun s x => s.hCrc x)) ∨
    (c = .handlerRdmdisc core uids ∧ s.discBusy core.val = false ∧ h = 0x0040 ∧ f = (fun s x => s.hRdmdisc x uids false)) ∨
    (c = .handlerUnivsnap core ∧ h = 0x0050 ∧ f = (fun s x => s.hUnivsnap x false)) →
    (s.onCore core.val = none → exec c s = .next s.begin) ∧
    (∀ r x, s.onCore core.val = some (r, x) →
      (x.handler ≠ h ∨ x.done.isSome = true ∨ x.limit < s.usedTime x → exec c s = .next s.begin) ∧
      (x.handler = h → x.done = none → s.usedTime x ≤ x.limit → Completes c s (fun t =>
        t.item? r = some { x with done := some ((f s.begin x).status, (f s.begin x).result, s.usedTime x) } ∧
        t.mem = (f s.begin x).st.mem ∧ t.regs = s.regs ∧ t.mode = s.mode)))) ∧
  (∀ (s : State) (core : Fin 16) (uids : List (BitVec 48)), s.discBusy core.val = true →
    exec (.handlerRdmdisc core uids) s = .next s.begin) ∧
  (∀ (uids : List (BitVec 48)) (most : Nat), let found := (discovery uids most).2
    found.length ≤ most ∧ found.Pairwise (· < ·) ∧ (∀ v ∈ found, ∃ u ∈ uids, v = u.toNat) ∧
    (uids.Nodup → (∀ u ∈ uids, u.toNat < 2 ^ 48 - 1) → uids.length ≤ most → found.length = uids.length)) ∧
  (∀ (s : State) (x : Item), let n := x.arg 2
    (n = 0 → s.hCopy x false = ⟨0, 0, s⟩ ∧ s.hFill x false = ⟨0, 0, s⟩ ∧ s.hCrc x = ⟨0, 0, s⟩) ∧
    (n ≠ 0 → s.argSet x 0 (x.arg 1) n = none → s.hCopy x false = ⟨0x06, 0, s⟩ ∧ s.hFill x false = ⟨0x06, 0, s⟩ ∧ s.hCrc x = ⟨0x06, 0, s⟩) ∧
    (n ≠ 0 → n % 8 ≠ 0 ∨ x.arg 1 % 8 ≠ 0 → s.hFill x false = ⟨0x06, 0, s⟩) ∧
    (∀ a, n ≠ 0 → s.argSet x 0 (x.arg 1) n = some a →
      (s.argSet x 3 (x.arg 4) n = none → s.hCopy x false = ⟨0x06, 0, s⟩) ∧
      (∀ b, s.argSet x 3 (x.arg 4) n = some b → s.cleanPrefix a (x.arg 1) n = n →
        s.hCopy x false = ⟨0, n, s.writeShared b (x.arg 4) (s.readSet a (x.arg 1) n)⟩) ∧
      (∀ b, s.argSet x 3 (x.arg 4) n = some b → s.cleanPrefix a (x.arg 1) n < n → (s.hCopy x false).status = 0x07 ∧
        (s.hCopy x false).result ≤ s.cleanPrefix a (x.arg 1) n) ∧
      (n % 8 = 0 → x.arg 1 % 8 = 0 → s.hFill x false = ⟨0, n, s.writeShared a (x.arg 1) (patternBytes (x.arg 3) (n / 8))⟩) ∧
      (s.poisoned a (x.arg 1) n = true → s.hCrc x = ⟨0x07, 0, s⟩) ∧
      (s.poisoned a (x.arg 1) n = false → s.hCrc x = ⟨0, crc32 (s.readSet a (x.arg 1) n), s⟩)) ∧
    (x.arg 1 ≤ 1 → x.arg 2 = 0 → ∀ z, s.argSet x 0 (8192 * x.arg 1) 8192 = some z → (s.hLutgen x false).status = 0 ∧
      (s.hLutgen x false).result = 4096 ∧ (s.hLutgen x false).st.mem =
        (s.writeShared z (8192 * x.arg 1) ((List.range 4096).flatMap (fun i => leBytes 2 (lutIdentity i)))).mem) ∧
    (1 < x.arg 1 ∨ 1 < x.arg 2 → s.hLutgen x false = ⟨0x06, 0, s⟩) ∧
    (∀ uids z, x.arg 0 ≤ 3 → x.arg 3 ≠ 0 → x.arg 3 ≤ 4096 → s.rdmDist (x.arg 0) = x.dist → s.argSet x 1 (x.arg 2) (8 * x.arg 3) = some z →
      (s.active = true → (s.hRdmdisc x uids false).status = 0 ∧
        (s.hRdmdisc x uids false).result = (discovery uids (x.arg 3)).2.length) ∧
      (s.active = false → (s.hRdmdisc x uids false).status = 0x08)) ∧
    (∀ z u, s.argSet x 1 (x.arg 2) 512 = some z → s.pl.uni? (x.arg 0) = some u → s.granted x.dist 10 = true →
      let v := s.fxe.sent.get (0, []) (x.arg 0)
      s.hUnivsnap x false = ⟨0, v.1.toNat, s.writeShared z (x.arg 2) (v.2 ++ List.replicate (512 - v.2.length) 0)⟩)) ∧
  (lutIdentity 0 = 0 ∧ lutIdentity 4095 = 65535 ∧ ∀ i, lutIdentity i ≤ lutIdentity (i + 1)) ∧
  (∀ (s : State) (init : InitId) (slot : Fin 5) (v : Word32), Admits s init 11 →
    let j := slot.val
    let k := Reg.schTrcCtl j
    let n := field v 0 17
    let off := s.rd64 (Reg.schTrcOffLo j)
    let placed := off % 32 = 0 ∧ (s.setRange (slotDist j) (s.fld (Reg.schTrcSet j) 0 16) off (32 * n)).isSome = true
    let sized := ∃ e, 6 ≤ e ∧ e ≤ 16 ∧ n = 2 ^ e
    (slotAllowed (distOf init) j = false → exec (.traceEnable init slot v) s = .next
      (s.begin.setErr (distKey (slotOf (distOf init)) Reg.schStatus) 0x10)) ∧
    (slotAllowed (distOf init) j = true → s.bitOf k 31 = false → v.getLsbD 31 = true →
      (¬ placed → Completes (.traceEnable init slot v) s (fun t => t.fld (Reg.schDstat j) 24 8 = 0x11 ∧ t.bitOf k 31 = false)) ∧
      (placed → ¬ sized → Completes (.traceEnable init slot v) s (fun t => t.fld (Reg.schDstat j) 24 8 = 0x12 ∧ t.bitOf k 31 = false)) ∧
      (placed → sized → Completes (.traceEnable init slot v) s (fun t => t.bitOf k 31 = true ∧ t.fld k 0 17 = n ∧
        t.bitOf k 30 = v.getLsbD 30 ∧ t.rd (Reg.schTrcWp j) = 0 ∧ t.rd (Reg.schTrcRp j) = 0 ∧ t.mem = s.mem))) ∧
    (slotAllowed (distOf init) j = true → s.bitOf k 31 = true → v.getLsbD 31 = false → Completes (.traceEnable init slot v) s (fun t =>
      t.bitOf k 31 = false ∧ t.mem = s.mem)))

/-! ### The Queue Bank and the mailboxes -/

/-- Queues and mailboxes. -/
def Obligations.QueuesAndMailboxesKeepTheirOrder : Prop :=
  (∀ (x : Lane) (n : Nat) (e : List Word32), x.wp < 2 * n → x.rp < 2 * n →
    (x.level n < n → (x.post n e).level n = x.level n + 1 ∧ (x.level n = 0 → (x.post n e).head n = e) ∧
      (0 < x.level n → (x.post n e).head n = x.head n)) ∧
    (0 < x.level n → x.level n ≤ n → (x.pop n).level n = x.level n - 1)) ∧
  (∀ (s : State) (init : InitId) (slot : Fin 5), Admits s init 12 false → slotAllowed (distOf init) slot.val = true →
    let q := 8 + slot.val
    s.queMismatch q = false →
    (s.topLane q = none → exec (.queCqPop init slot) s = .next (s.begin.reply (.word 0))) ∧
    (∀ l, s.topLane q = some l → Completes (.queCqPop init slot) s (fun t => t.lane q l = (s.lane q l).pop 32 ∧
      t.resp = some (.word (pack [(31, 1), (24, l)])) ∧ (∀ k, l < k → k < 8 → (s.lane q k).level 32 = 0) ∧
      (∀ k < 8, t.rd (initKey init (Reg.queCqData slot.val k)) = ((s.lane q l).head 32).getD k 0) ∧
      (∀ p k, laneKey p k ≠ laneKey q l → t.lane p k = s.lane p k) ∧ t.mem = s.mem))) ∧
  (∀ (s : State) (init : InitId) (slot : Fin 5), Admits s init 12 →
    let q := 8 + slot.val
    let st := Reg.queStatus slot.val
    let same := fun (t : State) => ∀ p k, (p ≠ q ∨ 8 ≤ k) → laneKey p k / 8 ≠ q → t.lane p k = s.lane p k
    (slotAllowed (distOf init) slot.val = false → exec (.cqMark init slot) s = .next (s.begin.setErr st 0x03) ∧
      exec (.cqRewind init slot) s = .next (s.begin.setErr st 0x03)) ∧
    (slotAllowed (distOf init) slot.val = true → s.queMismatch q = false →
      Completes (.cqMark init slot) s (fun t => (∀ l < 8, t.lane q l = { s.lane q l with
        mark := (s.lane q l).rp, mark' := (s.lane q l).rp, markValid := true, markEver := true }) ∧ same t ∧ t.fld st 24 8 = 0) ∧
      ((∃ l < 8, (s.lane q l).markEver = false) → exec (.cqRewind init slot) s = .next (s.begin.setErr st 0x05)) ∧
      ((∀ l < 8, (s.lane q l).markEver = true) → (∃ l < 8, (s.lane q l).markValid = false) →
        exec (.cqRewind init slot) s = .next (s.begin.setErr st 0x04)) ∧
      ((∀ l < 8, (s.lane q l).markEver = true ∧ (s.lane q l).markValid = true) → Completes (.cqRewind init slot) s (fun t =>
        (∀ l < 8, t.lane q l = { s.lane q l with rp := (s.lane q l).mark, rp' := (s.lane q l).mark }) ∧ same t ∧ t.fld st 24 8 = 0)))) ∧
  (∀ (s : State) (init : InitId) (h : Word32), Admits s init 0 → isHost init = true →
    let d := distOf init
    let f := fun k => initKey init (Reg.hstMbxTx k)
    let x := s.lane (0x10 + d) 0
    let st := distKey d Reg.hstMbxStatus
    s.queMismatch (0x10 + d) = false →
    (badHeader h = true → exec (.h2fPost init h) s = .next ((s.begin.unstage f).setErr st 0x0A)) ∧
    (badHeader h = false → x.level 16 < 16 → Completes (.h2fPost init h) s (fun t => t.resp = some .ack ∧ t.out = [.houseIrq 13] ∧
      t.lane (0x10 + d) 0 = x.post 16 (mbxMessage h (s.staged f)) ∧ t.mem = s.mem)) ∧
    (badHeader h = false → 16 ≤ x.level 16 → Completes (.h2fPost init h) s (fun t => t.que = s.que ∧ t.fld st 24 8 = 0x01 ∧
      t.out = [.aer d 15 true] ∧ t.mem = s.mem))) ∧
  (∀ (s : State) (init : InitId) (host : Fin 4) (h : Word32), ByHouse s init →
    let d := host.val
    let f := fun k => initKey init (Reg.mbxTx d k)
    let x := s.lane (0x18 + d) 0
    s.queMismatch (0x18 + d) = false →
    (badHeader h = true → exec (.f2hPost init host h) s = .next ((s.begin.unstage f).setErr (Reg.mbxStatus d) 0x0A)) ∧
    (badHeader h = false → x.level 16 < 16 → Completes (.f2hPost init host h) s (fun t => t.resp = some .ack ∧
      t.lane (0x18 + d) 0 = x.post 16 (mbxMessage h (s.staged f)) ∧ t.mem = s.mem)) ∧
    (badHeader h = false → 16 ≤ x.level 16 → Completes (.f2hPost init host h) s (fun t => t.que = s.que ∧
      t.fld (Reg.mbxStatus d) 24 8 = 0x01 ∧ t.resp = some .busError ∧ t.mem = s.mem))) ∧
  (∀ (s : State) (init : InitId), Admits s init 0 false → isHost init = true →
    let d := distOf init
    let m := (s.lane (0x18 + d) 0).head 16
    s.queMismatch (0x18 + d) = false → s.que.replies.get [] d = [] →
    (s.queLevel (0x18 + d) = 0 → exec (.f2hPop init) s = .next (s.begin.reply (.word 0))) ∧
    (s.queLevel (0x18 + d) ≠ 0 → Completes (.f2hPop init) s (fun t => t.lane (0x18 + d) 0 = (s.lane (0x18 + d) 0).pop 16 ∧
      t.resp = some (.word (putField (m.getD 15 0) 31 1 1)) ∧
      (∀ k < 15, t.rd (initKey init (Reg.hstMbxData k)) = m.getD k 0) ∧ t.mem = s.mem))) ∧
  (∀ (s : State) (init : InitId) (r : List Word32), Admits s init 0 false → isHost init = true →
    let d := distOf init
    s.firmwareRuns = true → s.que.replies.get [] d = [r] →
    (s.queMismatch (0x18 + d) = false → 0 < s.queLevel (0x18 + d) → s.queLevel (0x18 + d) ≤ 16 → Completes (.f2hPop init) s (fun t =>
      t.lane (0x18 + d) 0 = ((s.lane (0x18 + d) 0).pop 16).post 16 r ∧ t.que.replies.get [] d = [] ∧ t.mem = s.mem)) ∧
    (s.queMismatch (0x18 + d) = true → Completes (.f2hPop init) s (fun t => t.resp = some (.word 0) ∧
      t.lane (0x18 + d) 0 = ({} : Lane).post 16 r ∧ t.que.replies.get [] d = [] ∧ t.mem = s.mem))) ∧
  (∀ (s : State) (q : Nat) (init : InitId), q < 0x20 → let t := s.queReset q init
    (∀ l < 8, q < 0x10 ∨ l = 0 → t.lane q l = {}) ∧ t.queMismatch q = false ∧ t.mem = s.mem) ∧
  (∀ (s : State) (init : InitId) (host : Fin 4), ByHouse s init →
    let d := host.val
    let m := (s.lane (0x10 + d) 0).head 16
    s.queMismatch (0x10 + d) = false →
    (s.queLevel (0x10 + d) = 0 → exec (.h2fPop init host) s = .next (s.begin.reply (.word 0))) ∧
    (s.queLevel (0x10 + d) ≠ 0 → Completes (.h2fPop init host) s (fun t => t.lane (0x10 + d) 0 = (s.lane (0x10 + d) 0).pop 16 ∧
      t.resp = some (.word (putField (m.getD 15 0) 31 1 1)) ∧
      (∀ k < 15, t.rd (initKey init (Reg.mbxData d k)) = m.getD k 0) ∧ t.mem = s.mem))) ∧
  (∀ (s : State) (host : Fin 4), let d := host.val
    let m := (s.lane (0x10 + d) 0).head 16
    let chan := field (m.getD 15 0) 16 8
    let len := field (m.getD 15 0) 24 4
    let pend := s.que.replies.get [] d
    let ready := s.firmwareRuns = true ∧ s.queLevel (0x10 + d) ≠ 0
    let whole := s.queMismatch (0x10 + d) = false
    let stuck := 16 ≤ pend.length ∧ s.queMismatch (0x18 + d) = false ∧ 16 ≤ s.queLevel (0x18 + d)
    (s.firmwareRuns = false ∨ stuck ∨ (whole ∧ pend = [] ∧ s.queLevel (0x10 + d) = 0) →
      exec (.mbxEcho host) s = .next s.begin ∧ exec (.mbxVersion host) s = .next s.begin) ∧
    (whole → pend = [] → (chan = 1 → exec (.mbxEcho host) s = .next s.begin) ∧ (chan ≠ 1 → exec (.mbxVersion host) s = .next s.begin)) ∧
    (s.firmwareRuns = true → pend = [] → s.queMismatch (0x10 + d) = true →
      exec (.mbxEcho host) s = .next (s.begin.queReset (0x10 + d) 0x00#8)) ∧
    (∀ c, (chan = 1 ∧ c = .mbxVersion host) ∨ (chan ≠ 1 ∧ c = .mbxEcho host) → ready → s.queMismatch (0x10 + d) = false →
      s.queMismatch (0x18 + d) = false → pend = [] → s.queLevel (0x18 + d) < 16 →
      Completes c s (fun t => t.lane (0x10 + d) 0 = (s.lane (0x10 + d) 0).pop 16 ∧
        t.lane (0x18 + d) 0 = (s.lane (0x18 + d) 0).post 16 (s.firmwareAnswer m) ∧ t.que.replies.get [] d = [] ∧ t.mem = s.mem)) ∧
    (chan = 0 → len < 15 → s.firmwareAnswer m = mbxReply (m.getD 15 0) 0 (m.take len)) ∧
    (chan = 1 → len = 0 → s.firmwareAnswer m = mbxReply (m.getD 15 0) 0
      [w32 (s.lcs.version % 2 ^ 24), w32 (s.fld Reg.updIfrun 16 16 * 256)]) ∧
    (2 ≤ chan → s.firmwareAnswer m = mbxReply (m.getD 15 0) 1 [])) ∧
  (∀ (s : State) (host : Fin 4), let d := host.val
    let v := s.que.beat.get 0 d + 1
    (s.firmwareRuns = false → exec (.fwHeartbeat host) s = .next s.begin) ∧
    (s.firmwareRuns = true → Completes (.fwHeartbeat host) s (fun t => t.que = { s.que with beat := s.que.beat.set d v } ∧
      t.rd (Reg.mbxFwhb d) = v ∧ t.rd (distKey d Reg.hstFwHb) = v ∧
      SameRegsBut (fun k => k = Reg.mbxFwhb d ∨ k = distKey d Reg.hstFwHb) s t ∧ t.mem = s.mem)))

/-! ### Host ports -/

/-- Host ports and their DMA engines. -/
def Obligations.HostPortsMasterTheBusAndReset : Prop :=
  (∀ (s : State) (host : Fin 4), let d := host.val
    let h := s.hp d
    (∀ width gen, (s.mode.mode = .reset ∨ s.mode.mode = .safe → exec (.hostLinkUp ⟨host, width, gen⟩) s = .next s.begin) ∧
      (s.mode.mode ≠ .reset → s.mode.mode ≠ .safe → width ∈ [1, 2, 4, 8] → 1 ≤ gen → gen ≤ 5 →
        exec (.hostLinkUp ⟨host, width, gen⟩) s = .next (s.begin.setHp d { h with link := true, width := width, gen := gen }))) ∧
    (h.link = false → exec (.busMasterEnable host) s = .next s.begin ∧ (∀ b, exec (.powerStateChange host b) s = .next s.begin) ∧
      ∀ v, exec (.msixVectorUnmask host v) s = .next s.begin) ∧
    (h.link = true →
      exec (.powerStateChange host true) s = .next (s.begin.setHp d { h with d3 := true }) ∧
      (h.bme = false → exec (.powerStateChange host false) s = .next (s.begin.setHp d { h with d3 := false })) ∧
      (h.d3 = true → exec (.busMasterEnable host) s = .next (s.begin.setHp d { h with bme := true })) ∧
      (h.d3 = true → ∀ v, exec (.msixVectorUnmask host v) s = .next s.begin) ∧
      (h.d3 = false → h.bme = false → ∀ v : Fin 256, exec (.msixVectorUnmask host v) s =
        .next (s.begin.setHp d { h with unmasked := h.unmasked.set v.val true }))) ∧
    (∀ (v : Fin 256) (c : Instr), (c = .busMasterEnable host ∧ h.d3 = false ∧ h.unmasked.get false v.val = true) ∨
        (c = .powerStateChange host false ∧ h.bme = true ∧ h.unmasked.get false v.val = true) ∨
        (c = .msixVectorUnmask host v ∧ h.d3 = false ∧ h.bme = true) →
      h.link = true → h.msixEn = true → h.fmask = false → h.pend = [(v.val, true)] →
      (∀ k < 4, (s.dmaOf d k).busy = true → dmaLen (s.dmaOf d k).desc ≤ (s.dmaOf d k).asked) →
      Completes c s (fun t => t.out = [.msix d v.val (join64 (h.table.get 0 (16 * v.val + 4)) (h.table.get 0 (16 * v.val)))
          (h.table.get 0 (16 * v.val + 8))] ∧ (t.hp d).pend.get true v.val = false ∧ (∀ e, e ≠ d → t.hp e = s.hp e) ∧
        t.regs = s.regs ∧ t.mem = s.mem))) ∧
  (∀ (s : State) (host engine : Fin 4), let d := host.val
    let k := engine.val
    let r : RingId := .dma host engine
    let x := s.dmaOf d k
    let b := s.ringDesc r
    let ready := s.dmaRuns = true ∧ s.ringOn r = true ∧ s.ringAvail r ≠ 0 ∧ x.busy = false
    let clear := byteAt b 3 = 0 ∧ ∀ y ∈ slice b 0x1A 6, y = 0
    let valid := dmaDir b ≤ 1 ∧ clear ∧ (s.setRange d (dmaSet b) (dmaOff b) (dmaLen b)).isSome = true
    let ended := fun (t : State) => t.dmaOf d k = { due := x.due.map (fun e => (e.1, true)) } ∧
      t.ringHead r = (s.ringHead r + 1) % max (2 * s.ringEntries r) 1 % 65536 ∧ t.mode = s.mode ∧ t.lot.sets = s.lot.sets ∧
      (Uncopied s → SameMemoryBut (fun a => ∃ z off, s.set? (s.ringSet r) = some z ∧ off < z.bytes ∧
        a = s.addrIn z.handles off) s t)
    (¬ ready → exec (.dmaDescriptorStart host engine) s = .next s.begin) ∧
    (ready → dmaLen b = 0 → Completes (.dmaDescriptorStart host engine) s ended) ∧
    (ready → dmaLen b ≠ 0 → ¬ valid → Completes (.dmaDescriptorStart host engine) s (fun t => ended t ∧
      t.fld (ringBase r + 0x20) 24 8 = 0x02)) ∧
    (ready → dmaLen b ≠ 0 → valid → (s.hp d).bme = false → exec (.dmaDescriptorStart host engine) s = .next
      (s.begin.setDma d k { busy := true, desc := b, due := x.due })) ∧
    (ready → dmaLen b ≠ 0 → valid → (s.hp d).bme = true → (s.hp d).d3 = false → dmaDir b = 0 → dmaLen b ≤ (s.hp d).mrrs →
      dmaAddr b % 4096 + dmaLen b ≤ 4096 → s.dmaOutstanding d < 256 →
      (∀ j < 4, j ≠ k → (s.dmaOf d j).busy = true → dmaLen (s.dmaOf d j).desc ≤ (s.dmaOf d j).asked) →
      Completes (.dmaDescriptorStart host engine) s (fun t =>
        t.out = [.hostRead d (BitVec.ofNat 64 (dmaAddr b)) (dmaLen b)] ∧
        t.dmaOf d k = { busy := true, desc := b, asked := dmaLen b, due := x.due ++ [(dmaLen b, false)] } ∧
        (t.hp d).last = k ∧ t.mem = s.mem ∧ t.regs = s.regs))) ∧
  (∀ (s : State) (host engine : Fin 4) (bytes : List Byte) (ep ok : Bool), let d := host.val
    let k := engine.val
    let r : RingId := .dma host engine
    let x := s.dmaOf d k
    let run := exec (.dmaHostCompletion host engine bytes ep ok) s
    let ended := fun (rest : List (Nat × Bool)) (t : State) => t.dmaOf d k = { due := rest.map (fun e => (e.1, true)) } ∧
      t.ringHead r = (s.ringHead r + 1) % max (2 * s.ringEntries r) 1 % 65536 ∧ t.mode = s.mode ∧ t.lot.sets = s.lot.sets
    let settled := ∀ j < 4, (s.dmaOf d j).busy = true → dmaLen (s.dmaOf d j).desc ≤ (s.dmaOf d j).asked
    (x.due = [] → run = .next s.begin) ∧
    (∀ left rest, x.due = (left, true) :: rest → settled →
      run = .next (s.begin.setDma d k { x with due := dueLeft left true ok bytes.length ++ rest })) ∧
    (∀ left rest, x.due = (left, false) :: rest → ok = false →
      Completes (.dmaHostCompletion host engine bytes ep ok) s (fun t => ended rest t ∧ t.fld (ringBase r + 0x20) 24 8 = 0x04)) ∧
    (∀ left rest z, x.due = (left, false) :: rest → ok = true → s.set? (dmaSet x.desc) = some z →
      let data := bytes.take left
      Completes (.dmaHostCompletion host engine bytes ep ok) s (fun t =>
        (dmaDir x.desc = 0 → (t.dmaOf d k).moved = x.moved + data.length ∧ (t.dmaOf d k).poison = (x.poison || ep)) ∧
        t.mem = (s.writeShared z (dmaOff x.desc + x.moved) data).mem ∧ t.lot.sets = s.lot.sets ∧ t.rings = s.rings ∧
        (settled → t.host = s.host ∧ t.dmaOf d k =
          { x with due := dueLeft left false true bytes.length ++ rest, moved := x.moved + data.length, poison := x.poison || ep }))) ∧
    (x.due = [] → exec (.dmaCompletionTimeout host engine) s = .next s.begin) ∧
    (∀ left discard rest, x.due = (left, discard) :: rest → Completes (.dmaCompletionTimeout host engine) s (fun t =>
      (discard = false → ended rest t ∧ t.fld (ringBase r + 0x20) 24 8 = 0x04) ∧
      (t.hp d).aer.getLsbD 14 = true ∧ Out.aer d 14 true ∈ t.out)) ∧
    (x.busy = false ∨ x.moved < dmaLen x.desc → exec (.dmaDescriptorDone host engine) s = .next s.begin) ∧
    (x.busy = true → dmaLen x.desc ≤ x.moved → Completes (.dmaDescriptorDone host engine) s (fun t => ended x.due t ∧
      (x.poison = true → t.fld (ringBase r + 0x20) 24 8 = 0x03) ∧
      (x.poison = false → t.fld (ringBase r + 0x20) 24 8 = s.fld (ringBase r + 0x20) 24 8)))) ∧
  (∀ (s : State) (host : Fin 4) (linkDown : Bool) (also : List Acc) (rx : List Nat), let d := host.val
    let c := Instr.hostDistrictReset host ⟨linkDown, also, rx⟩
    let h := s.hp d
    (s.mode.mode = .reset ∨ h.link = false → exec c s = .next s.begin) ∧
    (Runs s → h.link = true → Completes c s (fun t =>
      (∀ k < 4, (t.dmaOf d k).busy = false) ∧
      (∀ q ∈ [d, 8 + d, 0x10 + d, 0x18 + d], ∀ l < laneCount q, t.lane q l = {}) ∧ t.que.replies.get [] d = [] ∧
      (∀ e ∈ t.xng.sems, e.2 ≠ hostInit d) ∧
      (also.filter (·.init == hostInit d) = [] →
        ((s.pl.ports.map (·.port)).Nodup → (∀ r ∈ s.pl.ports, r.port < 64) →
          ∀ r ∈ s.pl.ports, r.dist = d → s.linkUp r.port = true →
            t.rd64 (Reg.prtCntLo r.port 23) = (s.rd64 (Reg.prtCntLo r.port 23) + (rx.filter (· == r.port)).length) % 2 ^ 64) ∧
        (linkDown = true → t.hp d = {} ∧ ∀ k < 4, (t.dmaOf d k).due = []) ∧
        (linkDown = false → t.hp d = { link := true, width := h.width, gen := h.gen } ∧
          ∀ k < 4, (t.dmaOf d k).due = (s.dmaOf d k).due.map (fun e => (e.1, true))) ∧
        t.mode = s.mode ∧ t.plan = s.plan ∧
        (s.bitOf (Reg.schTrcCtl 4) 28 = false → t.mem = s.mem) ∧ t.plz = s.plz ∧ t.blv = s.blv ∧
        t.ave = s.ave ∧ t.now = s.now))))

/-! ### The Crossing -/

/-- Accesses across the Crossing. -/
def Obligations.CrossingCarriesReadsAndWrites : Prop :=
  (∀ (s : State) (input : Fin 22) (addr : Nat) (v : Word32), crossAddr addr = false →
    exec (.crossingRead input addr) s = .next s.begin ∧ exec (.crossingRepeat input addr) s = .next s.begin ∧
    exec (.crossingWrite input addr v) s = .next s.begin) ∧
  (∀ (s : State) (input : Fin 22) (addr : Nat) (c : Instr), crossAddr addr = true →
    c = .crossingRead input addr ∨ c = .crossingRepeat input addr →
    let i := input.val
    let a := addr / 4 * 4
    let x := s.xslot i
    let at_ := s.begin.xg (fun g => { g with last := i })
    let failure : Resp := if isHost (inputInit i) then .completerAbort else .busError
    Admits s (inputInit i) (xngBlock a) false →
    (c = .crossingRepeat input addr → 16 ≤ i → i < 20 → (s.hp (i - 16)).queue = [] ∧ (s.hp (i - 16)).reads = []) →
    (toEsb a = true → isHouse (inputInit i) = false → exec c s = .next (at_.reply .unsupported)) ∧
    (toKerb a = true ∨ (toEsb a = true ∧ isHouse (inputInit i) = true) →
      let q := s.xng.queue (toKerb a)
      (x.st = .empty → farDepth (toKerb a) ≤ q.length → exec c s = .next at_.xngRetry) ∧
      (x.st = .empty → q.length < farDepth (toKerb a) → s.prefetchable a = false → exec c s = .next
        ((at_.setXslot i { st := .waiting, addr := a }).xngEnter (toKerb a) { input := i, write := false, addr := a }).xngRetry) ∧
      (x.st = .empty → q.length < farDepth (toKerb a) → s.prefetchable a = true → Completes c s (fun t => t.resp = some .retry ∧
        (t.xslot i).st = .waiting ∧ (t.xslot i).line = true ∧
        t.xng.queue (toKerb a) = q ++ [{ input := i, write := false, addr := a / 64 * 64, line := true, since := s.now }])) ∧
      (x.st = .waiting → exec c s = .next at_.xngRetry) ∧
      (∀ e, x.st = .failed e → exec c s = .next ((at_.setXslot i {}).reply failure)) ∧
      (x.st = .held → x.line = false → x.addr = a → exec c s = .next ((at_.setXslot i {}).reply (.word (x.data.headD 0)))) ∧
      (x.st = .held → x.line = false → x.addr ≠ a → exec c s = .next at_.xngRetry) ∧
      (x.st = .held → x.line = true → x.addr / 64 = a / 64 → x.answered = false → Completes c s (fun t =>
        t.resp = some (.word (x.data.getD (a / 4 % 16) 0)) ∧ (t.xslot i).st = .held ∧ (t.xslot i).answered = true)))) ∧
  (∀ (s : State) (input : Fin 22) (addr : Nat) (v : Word32), crossAddr addr = true →
    let i := input.val
    let a := addr / 4 * 4
    let c := Instr.crossingWrite input addr v
    let at_ := s.begin.xg (fun g => { g with last := i })
    let q := s.xng.queue (toKerb a)
    Admits s (inputInit i) (xngBlock a) →
    (toEsb a = true → isHouse (inputInit i) = false → exec c s = .next (at_.reply .unsupported)) ∧
    (toKerb a = true ∨ (toEsb a = true ∧ isHouse (inputInit i) = true) →
      let stopped := toKerb a ∈ s.xng.stoppedSide.get [] i
      (stopped → exec c s = .next ((at_.xngLog (inputInit i) 0x04 a).reply .ack)) ∧
      (¬ stopped → farDepth (toKerb a) ≤ q.length → exec c s = .next at_.xngRetry) ∧
      (¬ stopped → q.length < farDepth (toKerb a) → Completes c s (fun t => t.resp = some .ack ∧
        t.xng.queue (toKerb a) = q ++ [{ input := i, write := true, addr := a, data := v, since := s.now }] ∧
        t.out = .farSide (toKerb a) true a v :: (if toKerb a = false ∧ q = [] then
          [.esb ((a - 0xE80000) / 0x20000) [0x01 :: (beBytes 3 (a % 0x20000) ++ beBytes 4 v.toNat)]] else []) ∧
        t.regs = s.regs ∧ t.mem = s.mem)))) ∧
  (∀ (s : State) (input : Fin 22) (addr : Nat), toKerb addr = true → crossAddr addr = true → addr % 4 = 0 →
    let i := input.val
    let x := s.xslot i
    let h := s.hp (i - 16)
    16 ≤ i → i < 20 → Admits s (inputInit i) (xngBlock addr) false → h.queue = [] → h.reads = [addr] →
    x.st = .held → x.line = false → x.addr = addr → Completes (.crossingRepeat input addr) s (fun t =>
      t.resp = some (.word (x.data.headD 0)) ∧ (t.hp (i - 16)).reads = [] ∧ t.xslot i = {} ∧ t.regs = s.regs)) ∧
  (∀ (s : State) (kerb : Bool) (ans : FarAnswer), s.xng.queue kerb = [] →
    exec (.farSideResponse kerb ans) s = .next s.begin ∧ exec (.farSideTimeout kerb) s = .next s.begin) ∧
  (∀ (s : State) (kerb : Bool) (r : FarReq) (rest : List FarReq), s.xng.queue kerb = r :: rest →
    let init := inputInit r.input
    (kerb = true → r.write = true → exec (.farSideResponse kerb .ack) s = .next ((s.begin.xngNext kerb).kerbWrite init r.addr r.data)) ∧
    (kerb = false → r.write = true → exec (.farSideResponse kerb .ack) s = .next (s.begin.xngNext kerb)) ∧
    (kerb = true → r.write = false → r.orphan = false → r.line = false → Completes (.farSideResponse kerb .ack) s (fun t =>
      (t.xslot r.input).st = .held ∧ (t.xslot r.input).data = [(s.begin.kerbRead init r.addr).1] ∧
      (t.xng.queue kerb).length = rest.length ∧ t.mem = s.mem)) ∧
    (∀ words, kerb = false → r.write = false → r.orphan = false → Completes (.farSideResponse kerb (.data words)) s (fun t =>
      (t.xslot r.input).st = .held ∧ (t.xslot r.input).data = words ∧ (t.xng.queue kerb).length = rest.length ∧ t.regs = s.regs)) ∧
    (r.write = false → r.orphan = false →
      Completes (.farSideResponse kerb .refusedAccess) s (fun t => (t.xslot r.input).st = .failed 0x02 ∧
        t.fld (Reg.xngDstatus (xngSlotOf init)) 24 8 = 0x02 ∧ (t.xng.queue kerb).length = rest.length) ∧
      Completes (.farSideTimeout kerb) s (fun t => (t.xslot r.input).st = .failed 0x01 ∧
        t.fld (Reg.xngDstatus (xngSlotOf init)) 24 8 = 0x01 ∧ (t.xng.queue kerb).length = rest.length ∧
        t.now = max s.now (r.since + usRoot (if kerb then 20 else 200)))) ∧
    (r.write = true → s.bitOf Reg.xngCtl 0 = false → (s.xng.logs.get [] (xngSlotOf init)).length < 16 → rest = [] →
      Completes (.farSideTimeout kerb) s (fun t => t.xng.queue kerb = [] ∧
        (t.xng.logs.get [] (xngSlotOf init)).length = (s.xng.logs.get [] (xngSlotOf init)).length + 1 ∧
        t.fld (Reg.xngDstatus (xngSlotOf init)) 24 8 = 0x01 ∧ t.mem = s.mem))) ∧
  (∀ (s : State) (input : Fin 22), let x := s.xslot input.val
    (¬ (x.line = true ∧ x.st = .held) → exec (.prefetchHoldExpiry input) s = .next s.begin) ∧
    (x.line = true → x.st = .held → Completes (.prefetchHoldExpiry input) s (fun t => t.xslot input.val = {} ∧
      t.now = max s.now (x.since + 32768) ∧ (∀ j, j ≠ input.val → t.xslot j = s.xslot j) ∧
      ((∀ k < 16, x.used.getD k false = true) → t.rd Reg.xngPfdrop = s.rd Reg.xngPfdrop) ∧
      ((∃ k < 16, x.used.getD k false = false) → t.rd Reg.xngPfdrop = s.rd Reg.xngPfdrop + 1)))) ∧
  (∀ (s : State) (init : InitId) (sem : Fin 64), Admits s init 14 false →
    (s.xng.sems.find? sem.val = none → exec (.xngSemRead init sem) s = .next
      ((s.begin.xg (fun g => { g with sems := g.sems.set sem.val init })).reply (.word 0))) ∧
    (∀ o, s.xng.sems.find? sem.val = some o → exec (.xngSemRead init sem) s = .next
      (s.begin.reply (.word (0x80000000#32 ||| w32 o.toNat)))) ∧
    exec (.xngSemlogRead init) s = .next ((s.begin.wr Reg.xngSemlog 0).reply (.word (s.rd Reg.xngSemlog)))) ∧
  (∀ (s : State) (init : InitId) (sem : Fin 64) (v : Word32), Admits s init 14 →
    let mine := s.xng.sems.find? sem.val = some init ∧ v = w32 init.toNat
    (mine → exec (.xngSemWrite init sem v) s = .next (s.begin.xg (fun g => { g with sems := g.sems.drop (· == sem.val) }))) ∧
    (¬ mine → Completes (.xngSemWrite init sem v) s (fun t => t.xng = s.xng ∧
      t.rd Reg.xngSemlog = pack [(31, 1), (16, init.toNat), (8, sem.val), (0, field v 0 8)] ∧
      t.fld (Reg.xngDstatus (xngSlotOf init)) 24 8 = 0x07 ∧
      SameRegsBut (fun k => k = Reg.xngSemlog ∨ k = Reg.xngDstatus (xngSlotOf init)) s t ∧ t.mem = s.mem))) ∧
  (∀ (s : State) (init : InitId) (slot : Fin 5) (lost : Bool), Admits s init 14 false →
    let j := slot.val
    let l := (if lost then s.xng.lost else s.xng.logs).get [] j
    (slotAllowed (distOf init) j = false → exec (.xngLogPop init slot lost) s = .next ((s.begin.xngErr init 0x08).reply (.word 0))) ∧
    (slotAllowed (distOf init) j = true → Completes (.xngLogPop init slot lost) s (fun t =>
      t.resp = some (.word (l.headD {}).w0) ∧ (if lost then t.xng.lost else t.xng.logs).get [] j = l.drop 1 ∧
      t.rd (initKey init (if lost then Reg.xngLost j 1 else Reg.xngErrlog j 1)) = (l.headD {}).w1 ∧ t.mem = s.mem)))

/-! ### The Kerb -/

/-- The lamp drive and its sign groups. -/
def Obligations.KerbDrivesChannelsAndGroups : Prop :=
  (∀ (s : State) (init : InitId) (ch : Fin 48) (v : Word32), Admits s init 15 →
    let c := ch.val
    let level := exec (.channelLevelWrite init ch v) s
    let clear := exec (.channelFaultClear init ch v) s
    let key := field v 16 16 = 0xC1EA
    (s.kerbRec c = none → level = .next (s.begin.chErr c 0x08) ∧ clear = .next (s.begin.chErr c 0x08)) ∧
    (∀ r, s.kerbRec c = some r →
      let may := distOf init = houseDist ∨ distOf init = r.dist
      let foreign := (s.begin.setErr (Reg.krbChstat c) 0x02).setErr Reg.krbStatus 0x09
      (¬ may → level = .next foreign ∧ clear = .next foreign) ∧
      (may → r.kind = 1 → level = .next (s.begin.chErr c 0x04)) ∧
      (may → r.kind ≠ 1 → 0x1000 < v.toNat → level = .next (s.begin.chErr c 0x03)) ∧
      (may → r.kind ≠ 1 → v.toNat ≤ 0x1000 → level = .next (s.begin.wr (Reg.krbChlevel c) v)) ∧
      (may → ¬ key → clear = .next (s.begin.chErr c 0x01)) ∧
      (may → key → s.faultNow c = true → clear = .next (s.begin.chErr c 0x06)) ∧
      (may → key → s.faultNow c = false → r.kind = 1 ∨ s.chFault c = 4 → clear = .next s.begin) ∧
      (may → key → s.faultNow c = false → r.kind ≠ 1 → s.chFault c ≠ 4 → clear = .next (s.begin.setChFault c 0).krbSums))) ∧
  (∀ (s : State) (init : InitId) (group : Fin 16) (v : Word32), Admits s init 15 →
    let g := group.val
    let cmd := exec (.groupStepCommand init group v) s
    let clear := exec (.groupFaultClear init group v) s
    (s.signRec g = none → cmd = .next (s.begin.grpErr g 0x08) ∧ clear = .next (s.begin.grpErr g 0x08)) ∧
    (∀ r, s.signRec g = some r →
      let may := distOf init = houseDist ∨ distOf init = r.dist
      let foreign := (s.begin.setErr (Reg.krbGstat g) 0x02).setErr Reg.krbStatus 0x09
      (¬ may → cmd = .next foreign ∧ clear = .next foreign) ∧
      (may → field v 16 16 ≠ 0x516E → cmd = .next (s.begin.grpErr g 0x01)) ∧
      (may → field v 16 16 = 0x516E → s.faultNow (64 + g) = true → cmd = .next (s.begin.grpErr g 0x06)) ∧
      (may → field v 16 16 = 0x516E → s.faultNow (64 + g) = false → s.faulted g = true → cmd = .next (s.begin.grpErr g 0x05)) ∧
      (may → field v 16 16 = 0x516E → s.faultNow (64 + g) = false → s.faulted g = false → cmd = .next
        { s.begin with krb := { s.krb with step := s.krb.step.set g (field v 0 2) } }) ∧
      (may → field v 16 16 ≠ 0xC1EA → clear = .next (s.begin.grpErr g 0x01)) ∧
      (may → field v 16 16 = 0xC1EA → s.faultNow (64 + g) = true → clear = .next (s.begin.grpErr g 0x06)) ∧
      (may → field v 16 16 = 0xC1EA → s.faultNow (64 + g) = false → s.faulted g = false → clear = .next s.begin) ∧
      (may → field v 16 16 = 0xC1EA → s.faultNow (64 + g) = false → s.faulted g = true → (∀ k ∈ s.pl.kerbs, k.ch < 48) →
        Completes (.groupFaultClear init group v) s (fun t => t.faulted g = false ∧ t.fld (Reg.krbGstat g) 8 4 = 0 ∧
          t.fld (Reg.krbGstat g) 16 6 = 0x3F ∧ (∀ k ∈ s.groupChans g, t.chFault k.ch = 0) ∧ t.krb = s.krb ∧ t.mem = s.mem)))) ∧
  (∀ (s : State) (meas : List KerbMeas), (s.mode.mode = .reset → exec (.dimmingPeriodStart meas) s = .next s.begin) ∧
    (Runs s → Completes (.dimmingPeriodStart meas) s (fun t => ∃ n, 1 ≤ n ∧ t.krb.start = s.krb.start + n * kerbPeriod ∧
      t.now = max s.now t.krb.start ∧ t.mem = s.mem ∧ t.mode = s.mode ∧ t.plan = s.plan)) ∧
    (∀ r, Runs s → s.pl.kerbs = [r] → r.kind = 0 → r.ch < 48 → 8 ≤ s.kerbNtc r → s.chFault r.ch = 0 →
      (∀ m ∈ meas, m.ch.val ≠ r.ch) →
      let raw := kerbDuty r.curve (s.fld (Reg.krbChlevel r.ch) 0 16)
      let minp := s.fld Reg.krbMinp 0 9
      Completes (.dimmingPeriodStart meas) s (fun t =>
        let d := if s.krb.driving = true ∧ s.krb.from_ ≤ t.krb.start ∧ raw ≠ 0 then max raw minp else 0
        (t.kch r.ch).d = d ∧ (d ≠ 0 → t.out = [.kerbPulses r.ch (kerbPulses d minp)]) ∧ (d = 0 → t.out = [])))) ∧
  (∀ d minp, d ≤ 16384 → sumOf ((kerbPulses d minp).map (·.2)) = d ∧
    (d < 16384 → ∀ p ∈ kerbPulses d minp, p.1 % 256 = 0 ∧ p.1 < 16384 ∧ p.2 ≤ 256)) ∧
  ((∀ c, c < 3 → kerbDuty c 0 = 0 ∧ kerbDuty c 4096 = 16384 ∧ ∀ a b, a ≤ b → kerbDuty c a ≤ kerbDuty c b) ∧ kerbDuty 3 0 = 0 ∧ kerbDuty 3 4096 = 16384) ∧
  (∀ (s : State) (ntc : Fin 8) (ohm : Nat), let n := ntc.val
    let p := Reg.krbNparam n
    let l := Reg.krbNlimit n
    (s.mode.mode = .reset → exec (.ntcMeasurement ntc ohm) s = .next s.begin) ∧
    (Runs s → ntcTemp ohm (s.fld p 16 16) (s.fld p 0 16) = none → Completes (.ntcMeasurement ntc ohm) s (fun t =>
      t.free = s.free + 1 ∧ (∃ m, t.krb.ntc.find? n = some m ∧ m.knee = signed 8 (s.fld l 0 8) ∧ m.cut = signed 8 (s.fld l 8 8)) ∧
      t.mem = s.mem ∧ t.mode = s.mode)) ∧
    (∀ temp f, Runs s → ntcTemp ohm (s.fld p 16 16) (s.fld p 0 16) = some (temp, f) →
      let m : NtcMeas := { temp := temp, fault := f, knee := signed 8 (s.fld l 0 8), cut := signed 8 (s.fld l 8 8) }
      Completes (.ntcMeasurement ntc ohm) s (fun t => t.krb.ntc.find? n = some m ∧ t.free = s.free ∧
        (m.hot = false → t.rd (Reg.krbNtemp n) = pack [(31, 1), (30, bit f), (0, twos 16 temp)] ∧
          t.krb.chs = s.krb.chs ∧ t.krb.step = s.krb.step) ∧
        (∀ g r, m.hot = true → s.pl.signs = [g] → g.group < 16 → g.ntc = n → s.faulted g.group = false →
          (s.groupChans g.group).head? = some r → t.faulted g.group = true ∧ t.krb.step.find? g.group = some 0 ∧
          (t.kch r.ch).d = 0) ∧ t.mem = s.mem ∧ t.mode = s.mode))) ∧
  (∀ s : State, Completes .kerbLinkLoss s (fun t => t.krb.driving = false ∧ (∀ r ∈ s.pl.kerbs, (t.kch r.ch).d = 0 ∧
      (t.kch r.ch).live = false) ∧ t.bitOf Reg.krbStatus 1 = false ∧ t.bitOf Reg.krbStatus 2 = false ∧ t.krb.step = s.krb.step ∧
      t.mem = s.mem ∧ t.mode = s.mode) ∧
    (s.mode.mode = .reset → exec .kerbLinkReturn s = .next s.begin) ∧
    (Runs s → exec .kerbLinkReturn s = .next (s.begin.setF Reg.krbStatus 1 1 1)))

/-! ### Metering and calibration -/

/-- Energy metering and calibration. -/
def Obligations.MeteringAndCalibration : Prop :=
  (∀ (s : State) (codes : List Int) (sense : Int),
    let on := s.metering = true ∧ codes.length = 12 ∧ s.met.n < 400
    let pair := s.met.pair.getD (s.rd Reg.metPair)
    (¬ on → exec (.meterSample codes sense) s = .next s.begin) ∧
    (on → Completes (.meterSample codes sense) s (fun t => t.met.n = s.met.n + 1 ∧ t.met.last = some t.now ∧ t.met.acc = s.met.acc ∧
      t.met.pair = some pair ∧ t.met.prev = [codes] ∧ s.now ≤ t.now ∧ t.mem = s.mem ∧ t.mode = s.mode ∧
      ∀ e < 8, let x := s.met.elems.get {} e
        let y := t.met.elems.get {} e
        (pairOn pair e = false → y = x) ∧
        (pairOn pair e = true → x.imp ≤ y.imp ∧ x.exp ≤ y.exp ∧ (y.imp = x.imp ∨ y.exp = x.exp) ∧ x.v2 ≤ y.v2 ∧ x.i2 ≤ y.i2)))) ∧
  (∀ (s : State) (ph : PhaseMeas), (s.metering = false ∨ s.met.n < 400 → exec (.meterBlockBoundary ph) s = .next s.begin) ∧
    (∀ e < 8, s.metering = true → 400 ≤ s.met.n → (∀ k < 8, pairOn (s.met.pair.getD (s.rd Reg.metPair)) k = (k == e)) →
      let x := s.met.elems.get {} e
      let total := fun (k sum : Nat) => s.met.res.get 0 k + sum
      let kept := fun (t : State) (k sum : Nat) => t.met.res.get 0 k = total k sum % whUnit ∧
        t.met.acc.get 0 k = (s.met.acc.get 0 k + total k sum / whUnit) % 2 ^ 64
      Completes (.meterBlockBoundary ph) s (fun t => t.met.n = 0 ∧ t.met.pair = some (s.rd Reg.metPair) ∧
        (s.metLoaded x = true → kept t (2 * e) x.imp ∧ kept t (2 * e + 1) x.exp) ∧
        (s.metLoaded x = false → t.met.acc = s.met.acc ∧ t.met.res = s.met.res ∧ t.rd (Reg.metEcreep e) = s.rd (Reg.metEcreep e) + 1) ∧
        t.mem = s.mem ∧ t.mode = s.mode))) ∧
  (∀ (s : State) (lo k : Nat), k ≤ 16 → s.tcomp lo (160 * (k : Int) - 640) = 160 * signed 16 (s.fld (Reg.metTcomp k) lo 16)) ∧
  (∀ (s : State) (temp : Int), (s.mode.mode = .reset → exec (.meterTempMeasure temp) s = .next s.begin) ∧
    (Runs s → Completes (.meterTempMeasure temp) s (fun t => t.met = { s.met with tcv := s.tcomp 0 temp, tci := s.tcomp 16 temp } ∧
      t.rd Reg.metTemp = pack [(31, 1), (0, twos 16 temp)] ∧ SameRegsBut (· = Reg.metTemp) s t ∧ t.mem = s.mem))) ∧
  (∀ (s : State) (ok : Bool), (s.mode.mode = .reset ∨ s.mode.mode = .boot → exec (.meterSave ok) s = .next s.begin) ∧
    (Runs s → s.mode.mode ≠ .boot →
      Completes (.meterSave false) s (fun t => t.met = s.met ∧ t.bitOf Reg.metStatus 2 = true ∧ t.fld Reg.metStatus 24 8 = 0x04 ∧
        t.mem = s.mem) ∧
      Completes (.meterSave true) s (fun t => ∃ n c, t.met = { s.met with copies := s.met.copies.set n c } ∧ n < 2 ∧ c.acc = s.met.acc ∧
        c.res = s.met.res ∧ c.wrap = s.rd Reg.metWrap ∧ (∀ e ∈ s.met.copies, e.2.seq < c.seq) ∧ t.regs = s.regs))) ∧
  (∀ (s : State) (init : InitId) (v : Word32), Admits s init 16 →
    (isHouse init = false → exec (.meterClear init v) s = .next (s.begin.setErr Reg.metStatus 0x02)) ∧
    (isHouse init = true → field v 16 16 ≠ 0x3E7C → exec (.meterClear init v) s = .next (s.begin.setErr Reg.metStatus 0x01)) ∧
    (isHouse init = true → field v 16 16 = 0x3E7C → Completes (.meterClear init v) s (fun t =>
      t.met = { s.met with acc := [], res := [], pulseRes := 0 } ∧ t.rd Reg.metWrap = 0 ∧ t.fld Reg.metPstat 0 16 = 0 ∧
      t.fld Reg.metStatus 16 8 = (s.fld Reg.metStatus 16 8 + 1) % 256 ∧ t.mem = s.mem))) ∧
  (∀ (s : State) (init : InitId) (slot : Fin 5), Admits s init 16 → let j := slot.val
    (slotAllowed (distOf init) j = false → exec (.meterSnapshot init slot) s = .next (s.begin.setErr Reg.metStatus 0x02)) ∧
    (slotAllowed (distOf init) j = true → Completes (.meterSnapshot init slot) s (fun t => t.met = s.met ∧
      (∀ k < 16, t.rd64 (Reg.metAccLo j k) = s.met.acc.get 0 k % 2 ^ 64) ∧ t.rd (Reg.metSnapwrap j) = s.rd Reg.metWrap ∧
      t.fld (Reg.metSnapseq j) 0 24 = (s.fld (Reg.metSnapseq j) 0 24 + 1) % 2 ^ 24 ∧ t.rd (Reg.metSnaptNs j) = w32 s.clt.ns ∧
      t.mem = s.mem))) ∧
  (∀ s : State, let width := msRoot (s.fld Reg.metPcfg 8 8)
    let backlog := s.fld Reg.metPstat 0 16
    ((∀ t0, s.met.pulse ≠ .low t0) → exec .pulseWidthExpiry s = .next s.begin) ∧
    ((∀ t0, s.met.pulse ≠ .gap t0) → exec .pulseGapExpiry s = .next s.begin) ∧
    (∀ t0, s.met.pulse = .low t0 → Completes .pulseWidthExpiry s (fun t => t.now = max s.now (t0 + width) ∧
      t.met.pulse = .gap t.now ∧ t.rd Reg.metPcount = s.rd Reg.metPcount + 1 ∧ t.out = [.meterPulse false] ∧ t.mem = s.mem)) ∧
    (∀ t0, s.met.pulse = .gap t0 → Completes .pulseGapExpiry s (fun t => t.now = max s.now (t0 + width) ∧
      (backlog = 0 → t.met.pulse = .idle ∧ t.out = []) ∧
      (0 < backlog → s.bitOf Reg.metPcfg 17 = true → s.metering = true → t.met.pulse = .low t.now ∧
        t.fld Reg.metPstat 0 16 = backlog - 1 ∧ t.out = [.meterPulse true]) ∧ t.mem = s.mem))) ∧
  (∀ (s : State) (init : InitId) (v : Word32), Admits s init 17 →
    let cfg := s.rd (initKey init Reg.calCfg)
    let ref := s.rd (initKey init Reg.calRef)
    let tgt := field cfg 8 8
    let step := field cfg 16 2
    let refused := fun (c : Nat) => exec (.calStart init v) s = .next (s.begin.setErr Reg.calStatus c)
    let right := s.mode.mode = .standby ∨ s.mode.mode = .maintenance
    let named := calTarget tgt = true ∧ step ≠ 0 ∧ (step = 3 → calCurrent tgt = true)
    let full := s.calFull tgt
    let inRange := (step = 2 → full ^ 2 ≤ 200 * ref.toNat ^ 2 ∧ 2 * ref.toNat ^ 2 ≤ full ^ 2) ∧
      (step = 3 → -90000 ≤ ref.toInt ∧ ref.toInt ≤ 90000)
    (field v 16 16 ≠ 0xCA1B ∨ field v 0 2 = 0 ∨ field v 0 2 = 3 → refused 0x01 ∧
      exec (.calAbort init v) s = .next (s.begin.setErr Reg.calStatus 0x01)) ∧
    (field v 16 16 = 0xCA1B → field v 0 2 = 1 →
      (s.calSt ≠ 0 → refused 0x03) ∧ (s.calSt = 0 → ¬ right → refused 0x04) ∧ (s.calSt = 0 → right → ¬ named → refused 0x05) ∧
      (s.calSt = 0 → right → named → field cfg 0 8 = 0 → refused 0x06) ∧
      (s.calSt = 0 → right → named → field cfg 0 8 ≠ 0 → ¬ inRange → refused 0x07) ∧
      (s.calSt = 0 → right → named → field cfg 0 8 ≠ 0 → inRange → Completes (.calStart init v) s (fun t => t.calSt = 1 ∧
        (∃ p, t.cal = { s.cal with proc := some p } ∧ p.dist = distOf init ∧ p.target = tgt ∧ p.step = step ∧ p.ref = ref ∧
          p.old = (s.coef tgt).part step ∧ p.new = p.old) ∧ SameRegsBut (· = Reg.calStatus) s t ∧ t.mem = s.mem))) ∧
    (field v 16 16 = 0xCA1B → field v 0 2 = 2 → ∀ p, s.cal.proc = some p →
      (distOf init ≠ houseDist → distOf init ≠ p.dist → exec (.calAbort init v) s = .next (s.begin.setErr Reg.calStatus 0x02)) ∧
      (distOf init = houseDist ∨ distOf init = p.dist → s.calSt ≤ 3 → Completes (.calAbort init v) s (fun t => t.cal.proc = none ∧
        t.calSt = 0 ∧ t.fld Reg.calStatus 24 8 = 0x0B ∧ t.cal.coef = s.cal.coef ∧ t.cal.seq = s.cal.seq + 1 ∧ t.mem = s.mem)) ∧
      (distOf init = houseDist ∨ distOf init = p.dist → 3 < s.calSt → exec (.calAbort init v) s = .next s.begin))) ∧
  (∀ s : State, (s.cal.proc = none ∨ s.calSt ≠ 4 → ∀ ok, exec (.calStoreDone ok) s = .next s.begin) ∧
    (∀ p, s.cal.proc = some p → s.calSt = 4 →
      Completes (.calStoreDone true) s (fun t => t.calSt = 5 ∧ t.fld Reg.calStatus 24 8 = 0 ∧ t.fld Reg.calStatus 3 5 = 0 ∧
        t.cal.store.get {} p.target = (s.cal.store.get {} p.target).setPart p.step p.new ∧ t.cal.coef = s.cal.coef ∧
        t.cal.proc = some p ∧ t.mem = s.mem) ∧
      Completes (.calStoreDone false) s (fun t => t.calSt = 0 ∧ t.fld Reg.calStatus 24 8 = 0x0C ∧ t.cal.proc = none ∧
        t.cal.store = s.cal.store ∧ t.cal.coef = s.cal.coef ∧ t.mem = s.mem)))

/-! ### Causeway twins -/

/-- The Causeway's lease. -/
def Obligations.LeaseIsHeldAndClaimed : Prop :=
  (∀ s : State, s.twin = none → (∀ c ∈ [Instr.leaseRenewalPoint, .statusFrameInterval, .peerStatusTimeout, .leaseExpiry, .leaseWatchExpiry,
      .claimWaitExpiry, .claimGuardExpiry, .leasePinFault], exec c s = .next s.begin) ∧
    (∀ f, exec (.cwLeaseFrame f) s = .next s.begin) ∧ (∀ f, exec (.cwStatusFrame f) s = .next s.begin)) ∧
  (∀ (s : State) (up : Bool),
    let on := s.mode.mode = .standby ∨ s.mode.mode = .active ∨ s.mode.mode = .maintenance
    (¬ on ∨ (up = true ∧ s.ckg.osc = true) → exec (.causewayLinkChange up) s = .next s.begin) ∧
    (on → up = false ∨ s.ckg.osc = false → Completes (.causewayLinkChange up) s (fun t => t.bitOf Reg.cswStatus 7 = up ∧ t.csw = { s.csw with linkAt := s.now } ∧
      SameRegsBut (· = Reg.cswStatus) s t ∧ t.mem = s.mem ∧ t.mode = s.mode))) ∧
  (∀ (s : State) (f : LeaseFrame) (c : CwRec), s.twin = some c → Completes (.cwLeaseFrame f) s (fun t =>
    t.rd Reg.cswEpoch = (if frameLater f.epoch (s.rd Reg.cswEpoch) = true then f.epoch else s.rd Reg.cswEpoch) ∧
    (f.pairId.toNat ≠ c.pairId → t.csw = s.csw) ∧
    (f.pairId.toNat = c.pairId → t.csw.leaseAt = some s.now ∧ (∀ k w, s.csw.claim = .waiting k w → t.csw.claim = .idle) ∧
      ((∀ k w, s.csw.claim ≠ .waiting k w) → t.csw.claim = s.csw.claim) ∧ t.csw.held = s.csw.held) ∧
    SameRegsBut (· = Reg.cswEpoch) s t ∧ t.mem = s.mem ∧ t.mode = s.mode)) ∧
  (∀ (s : State) (c : CwRec), s.twin = some c →
    let at_ := max s.now (s.csw.point + msRoot c.renewMs)
    let renewed := if s.csw.renew = true then at_ else s.csw.renewed
    (s.csw.held = false → exec .leaseRenewalPoint s = .next s.begin) ∧
    (s.csw.held = true → s.csw.renewed + c.lease ≤ at_ → Completes .leaseRenewalPoint s (fun t => t.csw = s.csw ∧ t.out = [] ∧ t.now = at_)) ∧
    (s.csw.held = true → at_ < s.csw.renewed + c.lease → Completes .leaseRenewalPoint s (fun t => t.now = at_ ∧ t.csw.held = true ∧
      t.csw.point = at_ ∧ t.csw.renewed = renewed ∧ t.csw.renew = false ∧ t.csw.fatal = false ∧
      (∃ l f rest, t.out = .causeway (.lease l) :: .causeway (.status f) :: rest ∧ l.pairId = BitVec.ofNat 64 c.pairId ∧
        l.epoch = s.rd Reg.lmsEpoch ∧ l.remaining = c.leaseMs - (at_ - renewed) / 9600000 ∧ f.epoch = s.rd Reg.lmsEpoch ∧
        f.armed = s.armed ∧ f.frame = s.frame) ∧
      (s.csw.peer = none → t.csw.handover = s.csw.handover) ∧
      (∀ f, s.csw.peer = some f → f.role ≠ 3 ∨ f.armed = false ∨ s.csw.peerAt + c.lease < at_ → t.csw.handover = s.csw.handover) ∧
      (∀ f, s.csw.peer = some f → f.role = 3 → f.armed = true → at_ ≤ s.csw.peerAt + c.lease → s.csw.handover = none →
        s.csw.fatal = true → s.bitOf Reg.cswDiag 2 = true → ∃ h, t.csw.handover = some h ∧ h.holder = true ∧ h.cause = 0x24) ∧
      t.mem = s.mem ∧ t.mode = s.mode)) ∧
    (s.csw.held = false → exec .leaseExpiry s = .next s.begin) ∧
    (s.csw.held = true → Completes .leaseExpiry s (fun t => t.now = max s.now (s.csw.renewed + c.lease) ∧ t.csw.held = false ∧
      t.csw.renew = false ∧ t.csw.claim = .idle ∧ t.csw.handover = none ∧ t.bitOf Reg.cswStatus 8 = false ∧
      (s.mode.mode ≠ .maintenance → t.role = 1) ∧ (s.csw.handover ≠ none → t.fld Reg.cswStatus 24 8 = 0x05) ∧
      t.rd (Reg.cswCnt 1) = s.rd (Reg.cswCnt 1) + 1 ∧
      (s.mode.mode = .active → s.mode.pend = none → t.mode.pend = some { target := .standby, cause := 0x23, bounds := 1, afterApply := false }) ∧
      t.mem = s.mem ∧ t.plan = s.plan))) ∧
  (∀ (s : State) (init : InitId) (v : Word32), Admits s init 19 →
    (isHouse init = false → exec (.cswRenew init v) s = .next (s.begin.setErr Reg.cswStatus 0x0D)) ∧
    (isHouse init = true → field v 16 16 = 0x1EA5 → exec (.cswRenew init v) s = .next { s.begin with csw := { s.csw with renew := true } }) ∧
    (isHouse init = true → field v 16 16 ≠ 0x1EA5 → exec (.cswRenew init v) s = .next s.begin)) ∧
  (∀ (s : State) (level : Bool), (s.csw.inHigh = level → exec (.leaseInChange level) s = .next s.begin) ∧
    (s.csw.inHigh ≠ level → Completes (.leaseInChange level) s (fun t => t.csw.inHigh = level ∧ t.csw.inSince = s.now ∧
      t.csw.lowLease = none ∧ t.bitOf Reg.cswStatus 9 = level ∧ t.csw.held = s.csw.held ∧
      (∀ k w, level = true → s.csw.claim = .waiting k w → t.csw.claim = .idle) ∧
      (s.csw.handover = none → (∀ k w, s.csw.claim ≠ .waiting k w) → t.csw.claim = s.csw.claim) ∧
      (∀ h, level = false → s.twin ≠ none → s.csw.handover = some h → h.holder = false → s.csw.claim = .idle →
        s.isBefore h.grid 100000 = true → t.csw.claim = .guard 0 s.now ∧ t.bitOf Reg.cswStatus 8 = true) ∧
      t.mem = s.mem ∧ t.mode = s.mode))) ∧
  (∀ (s : State) (c : CwRec), s.twin = some c →
    let watch := s.mayClaim = true ∧ s.csw.claim = .idle ∧ s.csw.inHigh = false
    (¬ watch → exec .leaseWatchExpiry s = .next s.begin) ∧
    (watch → Completes .leaseWatchExpiry s (fun t => t.now = max s.now (max s.csw.inSince (s.csw.leaseAt.getD s.ckg.bootAt) + c.lease) ∧
      t.csw.claim = .waiting 0 t.now ∧ t.csw.held = s.csw.held ∧ t.mem = s.mem ∧ t.mode = s.mode)) ∧
    ((∀ k w, s.csw.claim ≠ .waiting k w) → exec .claimWaitExpiry s = .next s.begin) ∧
    (∀ k w, s.csw.claim = .waiting k w →
      (s.mayClaim = false → exec .claimWaitExpiry s = .next { s.begin with csw := { s.csw with claim := .idle } }) ∧
      (s.mayClaim = true → Completes .claimWaitExpiry s (fun t =>
        t.now = max s.now (w + c.prefer * c.lease + usRoot (4 * s.claimBits k)) ∧ t.csw.claim = .guard k t.now ∧
        t.bitOf Reg.cswStatus 8 = true ∧ t.csw.held = s.csw.held ∧ t.mem = s.mem ∧ t.mode = s.mode))) ∧
    ((∀ k w, s.csw.claim ≠ .guard k w) → exec .claimGuardExpiry s = .next s.begin) ∧
    (∀ k w, s.csw.claim = .guard k w →
      let top := if frameLater (s.rd Reg.cswEpoch) (s.rd Reg.lmsEpoch) = true then s.rd Reg.cswEpoch else s.rd Reg.lmsEpoch
      (s.csw.inHigh = true → Completes .claimGuardExpiry s (fun t => t.now = max s.now (w + usRoot 10) ∧ t.csw.claim = .waiting (k + 1) t.now ∧
        t.csw.held = s.csw.held ∧ t.bitOf Reg.cswStatus 8 = false ∧ t.bitOf Reg.cswStatus 10 = true ∧ t.fld Reg.cswStatus 24 8 = 0x04 ∧
        t.rd (Reg.cswCnt 3) = s.rd (Reg.cswCnt 3) + 1 ∧ t.rd Reg.lmsEpoch = s.rd Reg.lmsEpoch ∧ t.mode = s.mode ∧ t.mem = s.mem)) ∧
      (s.csw.inHigh = false → Completes .claimGuardExpiry s (fun t => t.now = max s.now (w + usRoot 10) ∧ t.csw.held = true ∧
        t.csw.claim = .idle ∧ t.csw.renewed = t.now ∧ t.csw.handover = none ∧ t.role = 4 ∧
        t.rd Reg.lmsEpoch = (if top + 1 = 0 then 1 else top + 1) ∧ t.nv.find? Reg.lmsEpoch = some (t.rd Reg.lmsEpoch) ∧
        t.rd (Reg.cswCnt 0) = s.rd (Reg.cswCnt 0) + 1 ∧
        (s.mode.mode = .standby → s.mode.pend = none → s.csw.handover = none →
          t.mode.pend = some { target := .active, cause := 0x22, bounds := 1, afterApply := s.fullPending }) ∧ t.mem = s.mem))) ∧
    let held := max s.csw.inSince (max s.csw.linkAt (s.csw.leaseAt.getD 0))
    let fault := fun (since : Nat) => Completes .leasePinFault s (fun t => t.now = max s.now (since + c.lease) ∧
      t.bitOf Reg.cswStatus 11 = true ∧ t.fld Reg.cswStatus 24 8 = 0x08 ∧ t.csw = { s.csw with pinSince := some since } ∧
      t.mem = s.mem ∧ t.mode = s.mode)
    (s.csw.inHigh = true → s.bitOf Reg.cswStatus 7 = false ∨ s.csw.pinSince = some held → exec .leasePinFault s = .next s.begin) ∧
    (s.csw.inHigh = true → s.bitOf Reg.cswStatus 7 = true → s.csw.pinSince ≠ some held → fault held) ∧
    (s.csw.inHigh = false → s.csw.lowLease = none ∨ s.csw.leaseAt = none → exec .leasePinFault s = .next s.begin) ∧
    (∀ first last, s.csw.inHigh = false → s.csw.lowLease = some first → s.csw.leaseAt = some last →
      let heard := max s.now (first + c.lease) ≤ last + c.lease
      (¬ heard ∨ s.csw.pinSince = some first → exec .leasePinFault s = .next s.begin) ∧
      (heard → s.csw.pinSince ≠ some first → fault first))) ∧
  (∀ s s' : State, s.rd64 Reg.lcsSerialLo ≠ s'.rd64 Reg.lcsSerialLo → ∃ k < 7, s.claimBits k ≠ s'.claimBits k)

/-- Twins that pair, sync, hand over and mirror. -/
def Obligations.TwinsSyncAndHandOver : Prop :=
  let diverged := fun (code : Nat) (s t : State) => t.bitOf Reg.cswSync 31 = true ∧ t.fld Reg.cswStatus 24 8 = code ∧ t.role = 2 ∧
    t.fld Reg.cswSync 8 2 = 0 ∧ t.fld Reg.cswSync 0 8 = 0 ∧ t.csw.snapshot = false ∧ t.rd (Reg.cswCnt 4) = s.rd (Reg.cswCnt 4) + 1 ∧
    t.mem = s.mem ∧ t.mode = s.mode ∧ t.plan = s.plan
  (∀ (s : State) (f : StatusFrame) (c : CwRec), s.twin = some c → Completes (.cwStatusFrame f) s (fun t =>
    let code := if f.pairId.toNat ≠ c.pairId then 0x01 else if f.major.toNat ≠ s.fld Reg.cswVer 8 8 then 0x02
      else if f.role = 0 ∨ f.role = 6 then 0x03 else 0
    t.csw.peer = some f ∧ t.csw.peerAt = s.now ∧ t.fld Reg.cswStatus 16 3 = f.role.val ∧
    t.rd Reg.cswEpoch = (if frameLater f.epoch (s.rd Reg.cswEpoch) = true then f.epoch else s.rd Reg.cswEpoch) ∧
    (s.csw.held = true ∨ s.mode.mode = .maintenance → t.role = s.role) ∧
    (s.csw.held = true → f.role = 2 → (∀ g, s.csw.peer = some g → g.role ≠ 2) →
      t.out.head? = some (.causeway (.mirror (.fullPlan s.pl.image)))) ∧
    (s.csw.held = false → s.mode.mode ≠ .maintenance →
      (code ≠ 0 → t.role = 5 ∧ t.fld Reg.cswStatus 24 8 = code) ∧
      (code = 0 → s.role = 2 ∨ s.role = 3 → t.role = s.role) ∧
      (code = 0 → s.role ≠ 2 → s.role ≠ 3 → t.role = (if f.role = 4 then 2 else 1) ∧ (f.role = 4 → t.fld Reg.cswSync 8 2 = 0))) ∧
    t.csw.held = s.csw.held ∧ t.mem = s.mem ∧ t.mode = s.mode)) ∧
  (∀ (s : State) (c : CwRec), s.twin = some c →
    (s.csw.peer = none → exec .peerStatusTimeout s = .next s.begin) ∧
    (s.csw.peer ≠ none → Completes .peerStatusTimeout s (fun t => t.csw.peer = none ∧ t.now = max s.now (s.csw.peerAt + c.lease) ∧
      t.fld Reg.cswStatus 16 3 = 7 ∧ (s.csw.held = true ∨ s.mode.mode = .maintenance → t.role = s.role) ∧
      (s.csw.held = false → s.mode.mode ≠ .maintenance → t.role = 1) ∧ t.mem = s.mem ∧ t.mode = s.mode)) ∧
    (s.csw.held = true → s.csw.statusAt = s.now → exec .statusFrameInterval s = .next s.begin) ∧
    (s.csw.held = false ∨ s.csw.statusAt ≠ s.now → Completes .statusFrameInterval s (fun t =>
      t.now = max s.now (s.csw.statusAt + msRoot c.renewMs) ∧ t.csw = { s.csw with statusAt := t.now } ∧
      (∃ f : StatusFrame, t.out = [.causeway (.status f)] ∧ f.pairId = BitVec.ofNat 64 c.pairId ∧ f.role.val = s.role ∧
        f.epoch = s.rd Reg.lmsEpoch ∧ f.frame = s.frame ∧ f.armed = s.armed) ∧ t.mem = s.mem ∧ t.mode = s.mode))) ∧
  (∀ (s : State) (init : InitId) (key : BitVec 16), Admits s init 19 →
    let may := s.auth false (·.modeAuth) (distOf init) = true
    let refused := fun (i : Instr) (c : Nat) => exec i s = .next (s.begin.setErr Reg.cswStatus c)
    (key ≠ 0xCA5E#16 → refused (.cswHandover init key) 0x09 ∧ refused (.cswResync init key) 0x09) ∧
    (key = 0xCA5E#16 → ¬ may → refused (.cswHandover init key) 0x0A ∧ refused (.cswResync init key) 0x0A) ∧
    (key = 0xCA5E#16 → may →
      (s.role ≠ 4 → refused (.cswHandover init key) 0x0B) ∧
      (s.role = 4 → s.csw.handover ≠ none → exec (.cswHandover init key) s = .next s.begin) ∧
      (s.role = 4 → s.csw.handover = none → Completes (.cswHandover init key) s (fun t =>
        let b := s.boundaryAfter 2000000
        t.csw = { s.csw with handover := some { holder := true, grid := b.1, frame := b.2, cause := 0x20 } } ∧
        t.out = [.causeway (.handover b.2 (s.rd Reg.lmsEpoch))] ∧ t.regs = s.regs ∧ t.mem = s.mem ∧ t.mode = s.mode)) ∧
      (s.role ≠ 2 → s.role ≠ 3 → refused (.cswResync init key) 0x0B) ∧
      (s.role = 2 ∨ s.role = 3 → Completes (.cswResync init key) s (fun t => t.role = 2 ∧ t.fld Reg.cswSync 8 2 = 0 ∧
        t.fld Reg.cswSync 0 8 = 0 ∧ t.csw = { s.csw with snapshot := false } ∧ t.rd (Reg.cswCnt 4) = s.rd (Reg.cswCnt 4) + 1 ∧
        t.mem = s.mem ∧ t.mode = s.mode)))) ∧
  (∀ (s : State) (b epoch : Word32), let ready := s.twin ≠ none ∧ s.role = 3 ∧ s.armed = true
    (¬ ready → exec (.handoverFrame b epoch) s = .next s.begin) ∧
    (ready → Completes (.handoverFrame b epoch) s (fun t => t.out = [.causeway (.accept b)] ∧
      (∃ h, t.csw = { s.csw with handover := some h } ∧ h.holder = false ∧ h.frame = b) ∧
      SameRegsBut (· = Reg.cswEpoch) s t ∧ t.mem = s.mem ∧ t.mode = s.mode))) ∧
  (∀ (s : State) (b : Word32),
    ((∀ h, s.csw.handover = some h → h.holder = false ∨ s.csw.held = false ∨ h.frame ≠ b ∨ s.isBefore h.grid 1000000 = false) →
      exec (.acceptFrame b) s = .next s.begin) ∧
    (∀ h, s.csw.handover = some h → h.holder = true → s.csw.held = true → h.frame = b → s.isBefore h.grid 1000000 = true →
      Completes (.acceptFrame b) s (fun t => t.csw.held = false ∧ t.csw.handover = none ∧ t.csw.byHandover = true ∧
        t.bitOf Reg.cswStatus 8 = false ∧ t.rd (Reg.cswCnt 2) = s.rd (Reg.cswCnt 2) + 1 ∧
        (s.mode.mode = .active → s.mode.pend = none → t.mode.pend =
          some { target := .standby, cause := h.cause, bounds := s.boundsTo b, afterApply := false }) ∧ t.mem = s.mem))) ∧
  (∀ s : State,
    ((∀ h, s.csw.handover = some h → h.holder = false ∨ s.csw.held = false) → exec .handoverAcceptTimeout s = .next s.begin) ∧
    (∀ h, s.csw.handover = some h → h.holder = true → s.csw.held = true → Completes .handoverAcceptTimeout s (fun t =>
      t.csw = { s.csw with handover := none } ∧ t.fld Reg.cswStatus 24 8 = 0x05 ∧ t.role = s.role ∧ t.mem = s.mem ∧ t.mode = s.mode)) ∧
    ((∀ h, s.csw.handover = some h → h.holder = true ∨ s.csw.claim ≠ .idle) → exec .handoverAssertDeadline s = .next s.begin) ∧
    (∀ h, s.csw.handover = some h → h.holder = false → s.csw.claim = .idle → Completes .handoverAssertDeadline s (fun t =>
      t.csw = { s.csw with handover := none } ∧ t.mem = s.mem ∧ t.mode = s.mode))) ∧
  (∀ s : State, let step := s.fld Reg.cswSync 8 2
    (s.role ≠ 2 → exec .syncStepDone s = .next s.begin) ∧
    (s.role = 2 → Completes .syncStepDone s (fun t =>
      (step = 0 → t.fld Reg.cswSync 8 2 = (if s.fullPending = true ∨ s.plan = none then 0 else 1) ∧ t.role = 2) ∧
      (step = 1 → s.cltSt ≠ 2 → s.cltSt ≠ 3 → t = s.begin) ∧
      (step = 1 → s.cltSt = 2 ∨ s.cltSt = 3 → t.fld Reg.cswSync 8 2 = 2 ∧ t.frame = s.frame + s.csw.peerOff ∧ t.csw.peerOff = 0 ∧
        t.rd Reg.cltFdisc = s.rd Reg.cltFdisc + (if s.csw.peerOff = 0 then 0 else 1)) ∧
      (step = 2 → t.fld Reg.cswSync 8 2 = 3 ∧ t.fld Reg.cswSync 0 8 = 100 ∧ t.csw.snapshot = false ∧ t.role = 2) ∧
      (step = 3 → t.role = (if s.csw.snapshot = true then 3 else 2)) ∧ t.mem = s.mem ∧ t.mode = s.mode))) ∧
  (∀ (s : State) (r : FrameRec), let takes := s.role = 3 ∨ s.role = 2 ∧ s.fld Reg.cswSync 8 2 = 3
    (¬ takes → exec (.frameRecord r) s = .next s.begin) ∧
    (takes → r.frame ≠ s.frame → Completes (.frameRecord r) s (diverged 0x07 s)) ∧
    (takes → r.frame = s.frame → Completes (.frameRecord r) s (fun t => t.csw.frameRec = some r.frame ∧ t.csw.snapshot = true ∧
      t.fxe.seq = r.seqs ∧ t.fxe.syncSeq = r.syncSeqs ∧
      (∀ ch v, r.levels = [(ch, v)] → r.inputs = [] → t.rd (Reg.krbChlevel ch) = w32 v) ∧
      (∀ g v, r.steps = [(g, v)] → t.krb.step.find? g = some v) ∧
      (∀ i m w b, i < 512 → r.tiles = [(i, [m, w, b])] → r.gmasters = [] → r.levels = [] → r.inputs = [] →
        t.rd (Reg.blvTactMaster i) = m ∧ t.rd (Reg.blvTactWhite i) = w) ∧
      t.mem = s.mem ∧ t.mode = s.mode ∧ t.plan = s.plan))) ∧
  (∀ s : State, (s.role ≠ 3 ∨ s.csw.frameRec = some s.frame → exec .frameRecordLate s = .next s.begin) ∧
    (s.role = 3 → s.csw.frameRec ≠ some s.frame → Completes .frameRecordLate s (diverged 0x07 s))) ∧
  (∀ (s : State) (item : MirrorRec), (s.role ≠ 2 → s.role ≠ 3 → exec (.mirrorRecord item) s = .next s.begin) ∧
    (s.role = 2 ∨ s.role = 3 → Completes (.mirrorRecord .overflow) s (diverged 0x06 s)) ∧
    (s.role = 2 ∨ s.role = 3 → ∃ t, exec (.mirrorRecord item) s = .next t ∧ t.mode = s.mode) ∧
    (∀ set off bytes, s.role = 2 ∨ s.role = 3 → exec (.mirrorRecord (.lotWrite set off bytes)) s = .next (s.begin.writeSetId set off bytes)) ∧
    (∀ input set off pitch tag, s.role = 2 ∨ s.role = 3 → s.pl.input? input = none →
      exec (.mirrorRecord (.hdPost input set off pitch tag)) s = .next s.begin)) ∧
  (∀ (s : State) (black : Bool) (bgen : Byte) (dist : Nat), (s.twin = none → exec (.blackRecord black bgen dist) s = .next s.begin) ∧
    (s.twin ≠ none → black = false → Completes (.blackRecord black bgen dist) s (fun t => t.black = false ∧ t.bgen = bgen.toNat ∧
      t.fld Reg.lmsBlackout 16 4 = dist % 16 ∧ (s.black = true → t.ave.first = s.frame + 1) ∧
      SameRegsBut (· = Reg.lmsBlackout) s t ∧ t.mem = s.mem ∧ t.mode = s.mode)) ∧
    (s.twin ≠ none → black = true → (∀ r ∈ s.pl.ports, r.port < 64) → Completes (.blackRecord black bgen dist) s (fun t => t.black = true ∧
      t.bgen = bgen.toNat ∧ t.fld Reg.lmsBlackout 16 4 =
        (if s.bothRang bgen = true then min (s.fld Reg.lmsBlackout 16 4) (dist % 16) else dist % 16) ∧
      t.fld Reg.lmsBlackcnt 0 24 = (s.fld Reg.lmsBlackcnt 0 24 + 1) % 2 ^ 24 ∧ t.mode = s.mode ∧ t.plan = s.plan)))

/-! ### Field update -/

/-- The update protocol on the service port. -/
def Obligations.UpdatesAreServedInTurn : Prop :=
  let kinds : List (UpdKind × (UpdReq → Instr)) := [(.open_, .updOpen), (.status, .updStatus), (.begin_, .updBegin), (.block, .updBlock),
    (.bitmap, .updBitmap), (.verify, .updVerify), (.activate, .updActivate), (.confirm, .updConfirm), (.revert, .updRevert),
    (.abort, .updAbort), (.reset, .updReset), (.lcs, .updLcs), (.close, .updClose)]
  let whole := fun (r : UpdReq) => r.good = true ∨ 1518 < updLen r
  let heard := fun (k : UpdKind) (r : UpdReq) (s : State) => s.lcs.link = true ∧ s.mode.mode ≠ .reset ∧ whole r ∧
    r.dst = s.lcs.mac ∧ r.ver = 1 ∧ updCrcOk r k = true
  let arrived := fun (k : UpdKind) (r : UpdReq) (s : State) => heard k r s ∧ s.lcs.state ≠ 5 ∧ s.lcs.prog = none
  let inTurn := fun (k : UpdKind) (r : UpdReq) (s : State) => arrived k r s ∧ s.sessionCode k r = 0 ∧ s.mode.mode.takes k = true ∧
    stageTakes s.lcs.stage k = true
  let kept := fun (s : State) => { s.lcs with session := s.lcs.session.map (fun x => { x with last := s.now }) }
  let answered := fun (k : UpdKind) (r : UpdReq) (code : Nat) (s t : State) =>
    (∃ b, t.out = [.service b] ∧ byteAt b 15 = updType k + 0x80 ∧ beAt b 22 4 = r.seq.toNat ∧ byteAt b 34 = code) ∧
    t.fld Reg.updStatus 24 8 = code ∧ SameRegsBut (fun a => a = Reg.updStatus ∨ a = Reg.updSpcnt 0 ∨ a = Reg.updSpcnt 1) s t ∧
    t.mem = s.mem ∧ t.mode = s.mode ∧ t.plan = s.plan
  (∀ x ∈ kinds, ∀ (s : State) (r : UpdReq),
    let k := x.1
    let run := exec (x.2 r) s
    let one := s.begin.bump (Reg.updSpcnt 0)
    (s.lcs.link = false ∨ s.mode.mode = .reset → run = .next s.begin) ∧
    (s.lcs.link = true → s.mode.mode ≠ .reset → ¬ whole r → run = .next (one.bump (Reg.updSpcnt 2))) ∧
    (s.lcs.link = true → s.mode.mode ≠ .reset → whole r → r.dst ≠ s.lcs.mac → k ≠ .open_ ∨ r.dst ≠ 0xFFFFFFFFFFFF#48 → run = .next one) ∧
    (s.lcs.link = true → s.mode.mode ≠ .reset → whole r → r.dst = s.lcs.mac → r.ver ≠ 1 ∨ updCrcOk r k = false →
      run = .next (one.bump (Reg.updSpcnt 3))) ∧
    (heard k r s → s.lcs.state = 5 → k ≠ .status → run = .next one) ∧
    (heard k r s → s.lcs.state ≠ 5 → s.lcs.prog ≠ none → run = .next (if s.lcs.waiting.length < 15
      then { one with lcs := { s.lcs with waiting := s.lcs.waiting ++ [(k, r)] } } else one)) ∧
    (arrived k r s → s.mode.mode ≠ .boot →
      let code := match s.lcs.session with
        | some x => if k = .open_ then 0x01 else if x.id = r.session ∧ x.mac = r.src then 0 else 0x02
        | none => if k = .open_ then 0 else 0x02
      s.sessionCode k r = code ∧ (code ≠ 0 → Completes (x.2 r) s (fun t => answered k r code s t ∧ t.lcs = s.lcs))) ∧
    (arrived k r s → s.sessionCode k r = 0 → s.mode.mode.takes k = false →
      Completes (x.2 r) s (fun t => answered k r 0x04 s t ∧ t.lcs = kept s)) ∧
    (arrived k r s → s.sessionCode k r = 0 → s.mode.mode.takes k = true → stageTakes s.lcs.stage k = false →
      Completes (x.2 r) s (fun t => answered k r 0x05 s t ∧ t.lcs = kept s))) ∧
  (∀ (s : State) (r : UpdReq), inTurn .open_ r s → s.mode.mode ≠ .boot → Completes (.updOpen r) s (fun t => t.free = s.free + 1 ∧
    t.lcs = { s.lcs with session := some { id := Config.sessionId s.free, mac := r.src, last := s.now } } ∧ answered .open_ r 0 s t)) ∧
  (∀ (s : State) (r : UpdReq), inTurn .status r s → Completes (.updStatus r) s (fun t => t.lcs = kept s ∧ answered .status r 0 s t)) ∧
  (∀ (s : State) (r : UpdReq), inTurn .begin_ r s →
    let resume := r.arg0 == 1
    let target := r.arg1.toNat
    let code := s.beginCheck resume target r.payload
    let n := s.lcs.loadRegion r.payload target
    (1 < r.arg0.toNat → Completes (.updBegin r) s (fun t => t.lcs = kept s ∧ answered .begin_ r 0x06 s t)) ∧
    (r.arg0.toNat ≤ 1 → code ≠ 0 → Completes (.updBegin r) s (fun t => t.lcs = kept s ∧ answered .begin_ r code s t)) ∧
    (s.lcs.boot.trial = true → code = 0x0D) ∧
    (r.arg0.toNat ≤ 1 → code = 0 → r.io = .ok → Completes (.updBegin r) s (fun t => answered .begin_ r 0 s t ∧
      (resume = true → t.lcs.flash = s.lcs.flash ∧ t.lcs.manifest = s.lcs.manifest ∧
        t.lcs.stage = if (s.lcs.region n).blocks.length = blocksOf (mfLen r.payload) then 2 else 1) ∧
      (resume = false → t.lcs.stage = 1 ∧ t.lcs.manifest = r.payload ∧ (t.lcs.region n).blocks = [] ∧ (t.lcs.region n).manifest = r.payload ∧
        ∀ m, m ≠ n → t.lcs.region m = s.lcs.region m)))) ∧
  (∀ (s : State) (r : UpdReq), inTurn .block r s →
    let i := r.arg0.toNat
    let have_ := (s.lcs.region (s.lcs.loadRegion s.lcs.manifest s.lcs.target)).blocks.find? i
    let right := i < blocksOf (mfLen s.lcs.manifest) ∧ r.payload.length = s.lcs.blockLen i
    (r.payload = [] → Completes (.updBlock r) s (fun t => t.lcs = kept s ∧ answered .block r 0x15 s t)) ∧
    (r.payload ≠ [] → ¬ right → Completes (.updBlock r) s (fun t => t.lcs = kept s ∧ answered .block r 0x0C s t)) ∧
    (r.payload ≠ [] → right → have_ ≠ none → Completes (.updBlock r) s (fun t => t.lcs = kept s ∧ answered .block r 0 s t)) ∧
    (r.payload ≠ [] → right → have_ = none → Completes (.updBlock r) s (fun t => t.lcs = { kept s with prog := some r } ∧ t.out = [] ∧
      SameRegsBut (· = Reg.updSpcnt 0) s t ∧ t.mem = s.mem ∧ t.mode = s.mode))) ∧
  (∀ s : State, (s.lcs.prog = none → ∀ io, exec (.updBlockProgrammed io) s = .next s.begin) ∧
    (∀ r, s.lcs.prog = some r → s.lcs.waiting = [] →
      let n := s.lcs.loadRegion s.lcs.manifest s.lcs.target
      (∀ io, io ≠ .ok → Completes (.updBlockProgrammed io) s (fun t => t.lcs = { s.lcs with prog := none } ∧
        answered .block r (if io = .store then 0x11 else 0x10) s t)) ∧
      Completes (.updBlockProgrammed .ok) s (fun t => t.lcs.prog = none ∧ (t.lcs.region n).blocks.find? r.arg0.toNat = some r.payload ∧
        t.lcs.stage = (if (t.lcs.region n).blocks.length = blocksOf (mfLen s.lcs.manifest) then 2 else s.lcs.stage) ∧
        answered .block r 0 s t))) ∧
  (∀ (s : State) (r : UpdReq), inTurn .bitmap r s → Completes (.updBitmap r) s (fun t => t.lcs = kept s ∧
    answered .bitmap r (if r.arg0.toNat % 8192 = 0 then 0 else 0x0C) s t)) ∧
  (∀ (s : State) (r : UpdReq), inTurn .verify r s → Completes (.updVerify r) s (fun t => t.lcs = { kept s with stage := 3 } ∧
    answered .verify r 0 s t)) ∧
  (∀ s : State, let c := mfClass s.lcs.manifest
    (s.lcs.stage ≠ 3 → exec .updVerifyDone s = .next s.begin) ∧
    (s.lcs.stage = 3 → c ≤ 2 → mfSvn s.lcs.manifest < s.lcs.counter (c - 1) → Completes .updVerifyDone s (fun t =>
      t.lcs = { s.lcs with stage := 2 } ∧ t.fld Reg.updStatus 24 8 = 0x08)) ∧
    (∀ e, s.lcs.stage = 3 → s.verifyResult = .error e → Completes .updVerifyDone s (fun t =>
      t.lcs = { s.lcs with stage := 2, flash := t.lcs.flash } ∧ (s.lcs.rebuilds = false → t.lcs.flash = s.lcs.flash) ∧
      (s.lcs.rebuilds = true → ∀ n, (t.lcs.region n).verified = ((s.lcs.region n).verified && n != s.lcs.imageRegion c s.lcs.target) ∧
        (t.lcs.region n).blocks = (s.lcs.region n).blocks) ∧
      t.fld Reg.updStatus 24 8 = e % 256 ∧ t.mem = s.mem ∧ t.mode = s.mode)) ∧
    (∀ img, s.lcs.stage = 3 → s.verifyResult = .ok img → Completes .updVerifyDone s (fun t => t.lcs.stage = 4 ∧
      (t.lcs.region (s.lcs.imageRegion c s.lcs.target)).verified = true ∧ (c ≤ 2 → t.lcs.cf.find? s.lcs.target = some 0) ∧
      t.lcs.ptr = s.lcs.ptr ∧ t.fld Reg.updStatus 24 8 = 0 ∧ t.mem = s.mem ∧ t.mode = s.mode))) ∧
  (∀ (s : State) (r : UpdReq), inTurn .activate r s → mfClass s.lcs.manifest ≤ 2 →
    let both := (s.lcs.region (2 * s.lcs.target)).verified = true ∧ (s.lcs.region (2 * s.lcs.target + 1)).verified = true
    (¬ both → Completes (.updActivate r) s (fun t => t.lcs = kept s ∧ answered .activate r 0x0E s t)) ∧
    (both → r.io ≠ .ok → Completes (.updActivate r) s (fun t => t.lcs = kept s ∧ answered .activate r 0x11 s t)) ∧
    (both → r.io = .ok → Completes (.updActivate r) s (fun t => t.lcs.stage = 0 ∧ t.lcs.boot.slot = s.lcs.target ∧
      t.lcs.boot.trial = true ∧ t.lcs.boot.tries = 0 ∧ t.lcs.boot.confirmed = s.lcs.running ∧ t.lcs.flash = s.lcs.flash ∧
      answered .activate r 0 s t))) ∧
  (∀ (s : State) (r : UpdReq), let p := s.lcs.boot
    let runs := p.trial = true ∧ p.slot = s.lcs.running ∧ s.fld Reg.updMismatch 24 8 = 0
    (inTurn .confirm r s → ¬ runs → Completes (.updConfirm r) s (fun t => t.lcs = kept s ∧ answered .confirm r 0x0F s t)) ∧
    (inTurn .confirm r s → runs → r.io = .ok → Completes (.updConfirm r) s (fun t => t.lcs.boot.slot = p.slot ∧ t.lcs.boot.trial = false ∧
      t.lcs.boot.confirmed = p.slot ∧ (∀ k, s.lcs.counter k ≤ t.lcs.counter k) ∧ answered .confirm r 0 s t)) ∧
    (inTurn .revert r s → p.trial = false → Completes (.updRevert r) s (fun t => t.lcs = kept s ∧ answered .revert r 0x05 s t)) ∧
    (inTurn .revert r s → p.trial = true → r.io = .ok → Completes (.updRevert r) s (fun t => t.lcs.boot.slot = p.confirmed ∧
      t.lcs.boot.trial = false ∧ t.lcs.running = s.lcs.running ∧ answered .revert r 0 s t)) ∧
    (inTurn .abort r s → r.io = .ok → Completes (.updAbort r) s (fun t => t.lcs.stage = 0 ∧
      (t.lcs.region (s.lcs.loadRegion s.lcs.manifest s.lcs.target)).blocks = [] ∧
      (t.lcs.region (s.lcs.loadRegion s.lcs.manifest s.lcs.target)).verified = false ∧
      (t.lcs.region (s.lcs.imageRegion (mfClass s.lcs.manifest) s.lcs.target)).verified = false ∧ answered .abort r 0 s t)) ∧
    (inTurn .close r s → Completes (.updClose r) s (fun t => t.lcs = { s.lcs with session := none } ∧ answered .close r 0 s t)) ∧
    (inTurn .reset r s → Completes (.updReset r) s (fun t => t.mode.mode = .reset ∧ t.mode.prev = s.mode.mode ∧ t.mode.cause = 0x04 ∧
      t.lcs.session = none ∧ t.lcs.ptr = s.lcs.ptr ∧ t.lcs.flash = s.lcs.flash ∧ t.plan = none)) ∧
    (inTurn .lcs r s → s.tokenCheck r.payload ≠ 0 → Completes (.updLcs r) s (fun t => t.lcs = kept s ∧
      answered .lcs r (s.tokenCheck r.payload) s t)) ∧
    (inTurn .lcs r s → s.tokenCheck r.payload = 0 → Completes (.updLcs r) s (fun t => t.mode.mode = .reset ∧ t.mode.cause = 0x04 ∧
      t.lcs.fused = byteAt r.payload 4 ∧ t.lcs.state = s.lcs.state ∧ t.lcs.session = none))) ∧
  (∀ (l : LcsState) (target : Nat) (x : Bool × Bool), l.transition target = some x →
    (l.state, target) ∈ [(1, 2), (2, 3), (2, 4), (3, 4), (4, 5)]) ∧
  (∀ (l : List Pointer) (p : Pointer), ∃ q, pointerNow (pointerWrite l p) = some q ∧ q.slot = p.slot ∧ q.trial = p.trial ∧
    q.tries = p.tries ∧ q.confirmed = p.confirmed) ∧
  (∀ s : State, (s.lcs.session = none → exec .updSessionTimeout s = .next s.begin) ∧
    (∀ x, s.lcs.session = some x → Completes .updSessionTimeout s (fun t => t.now = max s.now (x.last + msRoot 60000) ∧
      t.lcs = { s.lcs with session := none } ∧ t.mem = s.mem ∧ t.mode = s.mode)))

/-! ### Counters, error records, registers -/

/-- Observability. -/
def Obligations.EventsAreCountedAndRecorded : Prop :=
  (∀ (s : State) (b i e n : Nat), Runs s →
    ((s.count b i e n).pmc.cnt.get 0 (evKey b i e)) = (s.pmc.cnt.get 0 (evKey b i e) + n) % 2 ^ 64) ∧
  (∀ (s : State) (d : Nat) (w : Word32), let (b, i, e) := selOf w
    (inCatalogue b i e = false → s.selCode d w = 0x01) ∧
    (inCatalogue b i e = true → s.selCode houseDist w = 0) ∧
    (inCatalogue b i e = true → d ≠ houseDist → s.evOwner b i = .device → s.selCode d w = if s.bitOf Reg.pmcPerm d = true then 0 else 0x02) ∧
    (∀ o, inCatalogue b i e = true → d ≠ houseDist → s.evOwner b i = .district o → s.selCode d w = if o = d then 0 else 0x02)) ∧
  (∀ (s : State) (init : InitId) (slot : Fin 5) (pin : Fin 64) (v : Word32), Admits s init 22 →
    let w := v &&& 0x9F7F00FF#32
    let c := s.selCode (slotDist slot.val) w
    let k := Reg.pmcPin slot.val pin.val
    (slotAllowed (distOf init) slot.val = false → exec (.pmcPinWrite init slot pin v) s = .next (s.begin.pmcErr (distOf init) 0x04)) ∧
    (slotAllowed (distOf init) slot.val = true → w.getLsbD 31 = true → c ≠ 0 →
      Completes (.pmcPinWrite init slot pin v) s (fun t => t.bitOf k 31 = false ∧ t.pinValue slot.val pin.val = 0 ∧
        t.fld (distKey (slotOf (distOf init)) Reg.pmcStatus) 24 8 = c ∧ t.pmc = s.pmc ∧ t.mem = s.mem)) ∧
    (slotAllowed (distOf init) slot.val = true → w.getLsbD 31 = false ∨ c = 0 →
      exec (.pmcPinWrite init slot pin v) s = .next (s.begin.wr k w))) ∧
  (∀ s : State, let perFrame := s.pmc.cfg.getLsbD 31
    (perFrame = true → s.pmc.winFrame = s.frame → exec .bwWindowEnd s = .next s.begin) ∧
    (perFrame = false ∨ s.pmc.winFrame ≠ s.frame → Completes .bwWindowEnd s (fun t =>
      t.now = (if perFrame = true then s.now else max s.now (s.pmc.winStart + usRoot (field s.pmc.cfg 0 16))) ∧
      t.rd Reg.pmcBwseq = s.rd Reg.pmcBwseq + 1 ∧ t.pmc.bw = [] ∧ t.pmc.winStart = t.now ∧ t.pmc.winFrame = s.frame ∧
      t.pmc.cfg = s.rd Reg.pmcBwcfg ∧ t.pmc.cnt = s.pmc.cnt ∧
      (∀ p < 64, ∀ side < 2, t.rd (Reg.pmcBwPort p side) = w32 (s.pmc.bw.get 0 (Reg.pmcBwPort p side))) ∧
      (∀ h < 4, ∀ side < 2, t.rd (Reg.pmcBwHost h side) = w32 (s.pmc.bw.get 0 (Reg.pmcBwHost h side))) ∧
      (∀ c < 32, ∀ side < 2, t.rd (Reg.pmcBwChan c side) =
        w32 (s.pmc.bw.get 0 (Reg.pmcBwChan c side)) + Config.channelBytes s.free (Reg.pmcBwChan c side)) ∧
      t.free = s.free + 1 ∧ t.mem = s.mem ∧ t.mode = s.mode))) ∧
  (∀ f k b, f < 8224 → k < 512 → b < 4096 → dramChannel (f * 2097152 + 4096 * k + b) = some ((f + k) % 32)) ∧
  (∀ f b, 8224 ≤ f → b < 2097152 → dramChannel (f * 2097152 + b) = none) ∧
  (∀ s : State, (s.nextBlock = none → exec .errorCollect s = .next s.begin) ∧
    (∀ b, s.nextBlock = some b → s.err.last < 64 → b < 64 ∧ s.err.bufs.get [] b ≠ [] ∧
      ∀ c < 64, s.err.bufs.get [] c ≠ [] → (b + 63 - s.err.last) % 64 ≤ (c + 63 - s.err.last) % 64) ∧
    (∀ b r rest, s.nextBlock = some b → s.err.bufs.get [] b = r :: rest → Completes .errorCollect s (fun t =>
      let r' : ErrRec := { r with seq := (s.rd Reg.errSeq + 1).toNat }
      t.err.last = b ∧ t.err.bufs.get [] b = rest ∧ t.rd Reg.errSeq = s.rd Reg.errSeq + 1 ∧
      (∀ j < 5, let l := s.err.logs.get [] j
        (j = 4 ∨ r.all = true ∨ r.dist = j → l.length < 64 → t.err.logs.get [] j = l ++ [r']) ∧
        (j < 4 → r.all = false → r.dist ≠ j → distOf (BitVec.ofNat 8 r.init) ≠ j → t.err.logs.get [] j = l) ∧
        (64 ≤ l.length → r.sev ≠ 2 → t.err.logs.get [] j = l)) ∧ t.mem = s.mem ∧ t.mode = s.mode))) ∧
  (∀ (s : State) (init : InitId) (slot : Fin 5), Admits s init 23 (write := false) →
    let l := s.err.logs.get [] slot.val
    (slotAllowed (distOf init) slot.val = false → exec (.errPop init slot) s =
      .next ((s.begin.setErr (Reg.errDstatus (slotOf (distOf init))) 0x10).reply (.word 0))) ∧
    (slotAllowed (distOf init) slot.val = true → l = [] → exec (.errPop init slot) s = .next (s.begin.reply (.word 0))) ∧
    (∀ r rest, slotAllowed (distOf init) slot.val = true → l = r :: rest → Completes (.errPop init slot) s (fun t =>
      t.err.logs.get [] slot.val = rest ∧ t.resp = some (.word (r.words.getD 0 0)) ∧ t.err.bufs = s.err.bufs ∧
      (∀ k < 7, t.rd (initKey init (Reg.errRec slot.val k)) = r.words.getD (k + 1) 0) ∧ t.mem = s.mem ∧ t.mode = s.mode))) ∧
  (∀ (s : State) (init : InitId) (v : Word32), Admits s init 23 →
    let sev := field v 18 2
    let block := field v 8 6
    let code := field v 0 8
    let right := field v 20 12 = 0xE1A ∧ sev ≠ 3 ∧ ¬ (block = 23 ∧ (code = 1 ∨ code = 2))
    let b := s.err.bufs.get [] block
    (isHouse init = false → exec (.errInject init v) s = .next (s.begin.setErr (Reg.errDstatus (slotOf (distOf init))) 0x10)) ∧
    (isHouse init = true → ¬ right → exec (.errInject init v) s = .next (s.begin.setErr (Reg.errDstatus 4) 0x11)) ∧
    (isHouse init = true → right → sev ≠ 2 → Completes (.errInject init v) s (fun t =>
      ((b.filter (·.sev != 2)).length < 3 → ∃ r : ErrRec, t.err.bufs.get [] block = b ++ [r] ∧ r.block = block ∧ r.code = code ∧
        r.sev = sev ∧ r.all = v.getLsbD 17 ∧ r.ns = s.clt.ns ∧ r.sec = s.clt.sec ∧ r.device = false) ∧
      (3 ≤ (b.filter (·.sev != 2)).length → (t.err.bufs.get [] block).length = b.length ∧
        t.pmc.cnt.get 0 (evKey 23 5 0) = (s.pmc.cnt.get 0 (evKey 23 5 0) + 1) % 2 ^ 64) ∧
      t.err.logs = s.err.logs ∧ t.regs = s.regs ∧ t.mem = s.mem))) ∧
  (∀ (s : State) (code : Code) (init : InitId) (addr : U64),
    let fatal := s.mode.mode ≠ .reset ∧ (code = 0x01#8 ∨ code = 0x02#8)
    let falls := s.mode.mode = .standby ∨ s.mode.mode = .active ∨ s.mode.mode = .maintenance
    (¬ fatal → exec (.deviceFatalEvent code init addr) s = .next s.begin) ∧
    (fatal → Completes (.deviceFatalEvent code init addr) s (fun t => t.err.bufs = s.err.bufs ∧ .nmi ∈ t.out ∧
      t.bitOf Reg.errNmisrc 1 = true ∧ t.rd Reg.errSeq = s.rd Reg.errSeq + 1 ∧
      (∀ j < 5, (s.err.logs.get [] j).length < 64 → ∃ r : ErrRec, t.err.logs.get [] j = s.err.logs.get [] j ++ [r] ∧ r.block = 23 ∧
        r.code = code.toNat ∧ r.init = init.toNat ∧ r.sev = 2 ∧ r.device = true ∧ r.all = true ∧ r.addr = addr.toNat) ∧
      (∀ k < 8, t.nv.find? (Reg.errLastfatal k) = some (t.rd (Reg.errLastfatal k))) ∧
      t.err.fatalAt = (if falls then some (s.err.fatalAt.getD s.now) else s.err.fatalAt) ∧ t.mem = s.mem ∧ t.mode = s.mode))) ∧
  (∀ (s : State) (sensor : Fin 8) (temp : Int), ∀ c ∈ [Instr.thermalAlert sensor temp, .thermalTrip sensor temp],
    Completes c s (fun t => t.therm.temps.find? sensor.val = some temp ∧
      (110000 ≤ temp → t.therm.alert = true) ∧ ((∀ e ∈ t.therm.temps, e.2 < 105000) → t.therm.alert = false) ∧
      ((∀ e ∈ t.therm.temps, e.2 < 110000) → temp ≥ 105000 → t.therm.alert = s.therm.alert) ∧
      (125000 ≤ temp → t.therm.trip = true) ∧ ((∀ e ∈ t.therm.temps, e.2 < 100000) → t.therm.trip = false) ∧
      (t.therm.trip ≠ s.therm.trip → .therm true t.therm.trip ∈ t.out) ∧ t.regs = s.regs ∧ t.mem = s.mem ∧ t.mode = s.mode))

/-- Access to registers by address. -/
def Obligations.RegistersAreAccessedByTheirTypes : Prop :=
  (∀ k, State.reset.rd k = regReset k) ∧ State.reset.rd Reg.lotCtl = 0xF0#32 ∧
  (∀ (d : RegDef) (old v : Word32) (i : Nat), i < 32 → let w := (d.written old v).getLsbD i
    (natBit d.w1s i = false → natBit d.w1c i = false → w = if natBit d.rw i = true then v.getLsbD i else old.getLsbD i) ∧
    (natBit d.rw i = false → natBit d.w1s i = false → natBit d.w1c i = true → w = (old.getLsbD i && !v.getLsbD i)) ∧
    (natBit d.rw i = false → natBit d.w1c i = false → natBit d.w1s i = true → w = (old.getLsbD i || v.getLsbD i))) ∧
  (∀ (s : State) (d n : Nat) (write : Bool), s.plan = none → d < 4 → s.mode.mode ≠ .maintenance →
    (s.granted d n write = true ↔ n = 0 ∨ n = 1 ∨ n = 23)) ∧
  (∀ (s : State) (init : InitId) (addr : Nat),
    let one := fun (v : Word32) => Instr.registerWrite init addr ⟨v, [], .whole, []⟩
    let h := s.hp (distOf init)
    (s.arrives init = false → addr < 0x80000000 → (∀ f, exec (.reg64LoRead init ⟨addr, f⟩) s = .next s.begin) ∧
      ∀ v, exec (one v) s = .next s.begin) ∧
    (s.arrives init = true → isHost init = true → addr < 0x80000000 →
      exec (.reg64LoRead init ⟨addr, .atomic⟩) s = .next (s.begin.reply .unsupported) ∧
      exec (.reg64LoRead init ⟨addr, .part⟩) s = .next (s.begin.reply .completerAbort) ∧
      (∀ v more, exec (.registerWrite init addr ⟨v, more, .atomic, []⟩) s = .next (s.begin.reply .unsupported)) ∧
      (∀ v more, exec (.registerWrite init addr ⟨v, more, .part, []⟩) s = .next (s.begin.aerAbort (distOf init))) ∧
      (∀ v more, 16 ≤ more.length ∨ addr / 64 ≠ (addr + 4 * more.length + 3) / 64 →
        exec (.registerWrite init addr ⟨v, more, .whole, []⟩) s = .next (s.begin.aerAbort (distOf init))) ∧
      (addr % 4 ≠ 0 → exec (.reg64LoRead init ⟨addr, .whole⟩) s = .next (s.begin.reply .completerAbort) ∧
        ∀ v, exec (one v) s = .next (s.begin.aerAbort (distOf init))) ∧
      (addr % 4 = 0 → h.queue ≠ [] →
        exec (.reg64LoRead init ⟨addr, .whole⟩) s = .next (s.begin.setHp (distOf init)
          { h with queue := h.queue ++ [{ init := init, addr := addr, write := false }] }) ∧
        ∀ v, exec (one v) s = .next (s.begin.setHp (distOf init)
          { h with queue := h.queue ++ [{ init := init, addr := addr, write := true, value := v }] }))) ∧
    (s.arrives init = true → isHost init = true → addr % 4 = 0 → 0x1800000 ≤ addr → addr < 0x80000000 → h.queue = [] →
      exec (.reg64LoRead init ⟨addr, .whole⟩) s = .next (s.begin.reply .unsupported) ∧
      ∀ v, exec (one v) s = .next (s.begin.reply .unsupported)) ∧
    (s.arrives init = true → addr % 4 = 0 → addr < 0x1800000 → crossAddr addr = false → (isHost init = true → h.queue = []) →
      (s.granted (distOf init) (addr / 0x100000) false = false → (readRow init addr).isNone = true →
        exec (.reg64LoRead init ⟨addr, .whole⟩) s = .next (s.begin.reply .unsupported)) ∧
      (s.granted (distOf init) (addr / 0x100000) = false → ∀ v, (writeRow init addr v).isNone = true →
        exec (one v) s = .next (s.begin.reply .unsupported)))) ∧
  (∀ (s : State) (a b : Acc), let cmd := fun (x y : Acc) => Instr.registerWrite x.init x.addr ⟨x.value, [], .whole, [y]⟩
    a.write = true → b.write = true → a.addr % 4 = 0 → b.addr % 4 = 0 → a.addr < 0x80000000 → b.addr < 0x80000000 →
    accGroup a ≠ accGroup b → a.init ≠ b.init ∨ crossAddr a.addr = false ∨ crossAddr b.addr = false →
    exec (cmd a b) s = exec (cmd b a) s) ∧
  (∀ (s : State) (init : InitId) (a : Nat), ByHouse s init → a % 4 = 0 → a < 0x1800000 → crossAddr a = false →
    (readRow init a).isNone = true → a ≠ Reg.pmcValLo →
    (∀ q ∈ s.queuesAt init a, s.queMismatch q = false) →
    (isPairLo a = true → Completes (.reg64LoRead init ⟨a, .whole⟩) s (fun t => t.resp = some (.word (s.begin.readWord init a)) ∧
      t.hiLatch.find? (initKey init a) = some (s.begin.readWord init (a + 4)) ∧ t.regs = s.regs ∧ t.mem = s.mem ∧ t.mode = s.mode)) ∧
    (isPairLo a = false → 4 ≤ a → isPairLo (a - 4) = true → exec (.reg64LoRead init ⟨a, .whole⟩) s =
      .next (s.begin.reply (.word (s.hiLatch.get (s.begin.readWord init a) (initKey init (a - 4)))))) ∧
    (isPairLo a = false → a < 4 ∨ isPairLo (a - 4) = false → exec (.reg64LoRead init ⟨a, .whole⟩) s =
      .next (s.begin.reply (.word (s.begin.readWord init a))))) ∧
  (∀ (s : State) (init : InitId) (a : Nat) (v : Word32), ByHouse s init → a % 4 = 0 → (writeRow init a v).isNone = true →
    a / 0x100000 ∈ [2, 3, 20, 21, 23] →
    let k := regKey init a
    (regAt a = none → isPairLo (a - 4) = false → exec (.registerWrite init a ⟨v, [], .whole, []⟩) s = .next s.begin) ∧
    (∀ d, regAt a = some d → d.pair = false → isPairLo (a - 4) = false →
      exec (.registerWrite init a ⟨v, [], .whole, []⟩) s = .next (s.begin.wr k (d.written (s.rd k) v)))) ∧
  (∀ (s : State) (init : InitId) (a : Nat) (v : Word32) (d : RegDef), ByHouse s init → a % 4 = 0 → a / 0x100000 = 3 →
    (writeRow init a v).isNone = true →
    (∀ e, isPairLo a = false → isPairLo (a - 4) = true → regAt (a - 4) = some e → e.rw ≠ 0 → exec (.registerWrite init a ⟨v, [], .whole, []⟩) s =
      .next { s.begin with hiStage := s.hiStage.set (initKey init (a - 4)) v }) ∧
    (∀ e, isPairLo a = true → regAt a = some d → regAt (a + 4) = some e → Completes (.registerWrite init a ⟨v, [], .whole, []⟩) s (fun t =>
      t.rd (regKey init (a + 4)) = e.written (s.rd (regKey init (a + 4))) (s.hiStage.get 0 (initKey init a)) ∧
      t.rd (regKey init a) = d.written (s.rd (regKey init a)) v ∧ t.hiStage = s.hiStage ∧ t.mem = s.mem))) ∧
  (∀ (s : State) (init : InitId) (v : Word32),
    (isHost init = true → (s.hp (distOf init)).queue = [] → exec (.registerWrite init Reg.lotCtl ⟨v, [], .whole, []⟩) s = .next s.begin ∨
      exec (.registerWrite init Reg.lotCtl ⟨v, [], .whole, []⟩) s = .next (s.begin.reply .unsupported)) ∧
    (ByHouse s init → Completes (.registerWrite init Reg.lotCtl ⟨v, [], .whole, []⟩) s (fun t => t.fld Reg.lotCtl 0 16 = field v 0 16 ∧
      t.fld Reg.lotCtl 16 16 = s.fld Reg.lotCtl 16 16 ∧ SameRegsBut (· = Reg.lotCtl) s t ∧ t.lot = s.lot ∧ t.mem = s.mem))) ∧
  (∀ (s : State) (init : InitId) (v : Word32), let d := distOf init
    (isHost init = false → ∀ a, 0x80000000 ≤ a → exec (.registerWrite init a ⟨v, [], .whole, []⟩) s = .next s.begin) ∧
    (isHost init = true → Runs s → (s.hp d).link = true →
      Completes (.registerWrite init 0x90000000 ⟨v, [], .whole, []⟩) s (fun t => (t.hp d).msixEn = v.getLsbD 31 ∧ (t.hp d).fmask = v.getLsbD 30 ∧
        t.mem = s.mem ∧ t.mode = s.mode) ∧
      Completes (.registerWrite init 0x90000004 ⟨v, [], .whole, []⟩) s (fun t => (t.hp d).bme = v.getLsbD 2 ∧ t.mem = s.mem ∧ t.mode = s.mode) ∧
      Completes (.reg64LoRead init ⟨0x90000010, .whole⟩) s (fun t => (∃ w, t.resp = some (.word w) ∧ field w 16 16 = 0x6400) ∧ t.regs = s.regs) ∧
      Completes (.reg64LoRead init ⟨0x90000014, .whole⟩) s (fun t => t.resp = some (.word 0x048000A1#32) ∧ t.regs = s.regs) ∧
      (∀ k < 8, (s.hp d).d3 = false → Completes (.reg64LoRead init ⟨0x80002000 + 4 * k, .whole⟩) s (fun t =>
        ∃ w : Word32, t.resp = some (.word w) ∧ ∀ j < 32, w.getLsbD j = (s.hp d).pend.get false (32 * k + j)))))

/-! ### Rules in the specification's own words -/

/-- R13. -/
def Obligations.FrameNumbersCompareSigned : Prop :=
  ∀ a b : Word32, frameLater a b = true ↔ 0 < (a - b).toInt

/-- R171. -/
def Obligations.DistrictResetLeavesThePlazas : Prop :=
  ∀ (s : State) (host : Fin 4) (linkDown : Bool) (also : List Acc) (rx : List Nat), (∀ r ∈ s.pl.inputs, r.id < 16) →
    also.filter (·.init == hostInit host.val) = [] → Completes (.hostDistrictReset host ⟨linkDown, also, rx⟩) s (fun t => t.plz = s.plz ∧ t.wit = s.wit ∧ t.plan = s.plan ∧
      ∀ k, 0x400000 ≤ k → k < 0x500000 → t.rd k = s.rd k)
end

