-- ==== Sys2Proof/Laws/Tab.lean ====
section
/-! SUPPORT. Reading back what was written into a table. -/

namespace Sys2Proof.Machine

@[simp] theorem Tab.find_nil {α : Type} (k : Nat) : Tab.find? ([] : Tab α) k = none := rfl

/-- The key just set holds the value set. -/
@[simp] theorem Tab.find_set_same {α : Type} (t : Tab α) (k : Nat) (v : α) : (Tab.set t k v).find? k = some v := by
  induction t with
  | nil => simp [Tab.set, Tab.find?]
  | cons e t ih =>
    obtain ⟨k', v'⟩ := e
    unfold Tab.set
    split
    · simp [Tab.find?]
    · split
      · simp [Tab.find?]
      · rename_i h _
        simp [Tab.find?, h, ih]

/-- Every other key holds what it held. -/
theorem Tab.find_set_ne {α : Type} (t : Tab α) {k j : Nat} (v : α) (h : j ≠ k) : (Tab.set t k v).find? j = t.find? j := by
  induction t with
  | nil => simp [Tab.set, Tab.find?, h]
  | cons e t ih =>
    obtain ⟨k', v'⟩ := e
    unfold Tab.set
    split
    · rename_i hk
      subst hk
      simp [Tab.find?, h]
    · split
      · simp [Tab.find?, h]
      · simp only [Tab.find?]
        split
        · rfl
        · exact ih

@[simp] theorem Tab.get_set_same {α : Type} (t : Tab α) (d : α) (k : Nat) (v : α) : (Tab.set t k v).get d k = v := by
  simp [Tab.get]

theorem Tab.get_set_ne {α : Type} (t : Tab α) (d : α) {k j : Nat} (v : α) (h : j ≠ k) :
    (Tab.set t k v).get d j = t.get d j := by
  simp [Tab.get, Tab.find_set_ne t v h]

@[simp] theorem Tab.get_upd_same {α : Type} (t : Tab α) (d : α) (k : Nat) (f : α → α) :
    (Tab.upd t d k f).get d k = f (t.get d k) := by
  simp [Tab.upd]

theorem Tab.get_upd_ne {α : Type} (t : Tab α) (d : α) {k j : Nat} (f : α → α) (h : j ≠ k) :
    (Tab.upd t d k f).get d j = t.get d j := by
  simp [Tab.upd, Tab.get_set_ne t d _ h]

/-- A key that the test spares holds what it held. -/
theorem Tab.find_drop {α : Type} (t : Tab α) {p : Nat → Bool} {k : Nat} (h : p k = false) :
    (Tab.drop t p).find? k = t.find? k := by
  induction t with
  | nil => rfl
  | cons e t ih =>
    obtain ⟨k', v'⟩ := e
    simp only [Tab.drop, List.filter_cons]
    by_cases hk : k = k'
    · subst hk
      simp [h, Tab.find?]
    · cases hp : p k' <;> simp [Tab.find?, hk, Tab.drop] at ih ⊢ <;> exact ih

/-- A key that the test takes is gone. -/
theorem Tab.find_drop_hit {α : Type} (t : Tab α) {p : Nat → Bool} {k : Nat} (h : p k = true) :
    (Tab.drop t p).find? k = none := by
  induction t with
  | nil => rfl
  | cons e t ih =>
    obtain ⟨k', v'⟩ := e
    simp only [Tab.drop, List.filter_cons]
    by_cases hk : k = k'
    · subst hk
      simpa [h, Tab.drop] using ih
    · cases hp : p k' <;> simp [Tab.find?, hk, Tab.drop] at ih ⊢ <;> exact ih

end Sys2Proof.Machine
end

