-- ==== Sys2Proof/Laws/State.lean ====
section
/-! SUPPORT. What the named operations leave alone: one lemma for each operation and each field of the state. -/

namespace Sys2Proof.Machine

@[simp] theorem State.begin_now (s : State) : (s.begin).now = s.now := rfl
@[simp] theorem State.begin_regs (s : State) : (s.begin).regs = s.regs := rfl
@[simp] theorem State.begin_hiLatch (s : State) : (s.begin).hiLatch = s.hiLatch := rfl
@[simp] theorem State.begin_hiStage (s : State) : (s.begin).hiStage = s.hiStage := rfl
@[simp] theorem State.begin_nv (s : State) : (s.begin).nv = s.nv := rfl
@[simp] theorem State.begin_mode (s : State) : (s.begin).mode = s.mode := rfl
@[simp] theorem State.begin_plan (s : State) : (s.begin).plan = s.plan := rfl
@[simp] theorem State.begin_tpl (s : State) : (s.begin).tpl = s.tpl := rfl
@[simp] theorem State.begin_hist (s : State) : (s.begin).hist = s.hist := rfl
@[simp] theorem State.begin_lot (s : State) : (s.begin).lot = s.lot := rfl
@[simp] theorem State.begin_mem (s : State) : (s.begin).mem = s.mem := rfl
@[simp] theorem State.begin_err (s : State) : (s.begin).err = s.err := rfl
@[simp] theorem State.begin_pmc (s : State) : (s.begin).pmc = s.pmc := rfl
@[simp] theorem State.begin_que (s : State) : (s.begin).que = s.que := rfl
@[simp] theorem State.begin_host (s : State) : (s.begin).host = s.host := rfl
@[simp] theorem State.begin_rings (s : State) : (s.begin).rings = s.rings := rfl
@[simp] theorem State.begin_dma (s : State) : (s.begin).dma = s.dma := rfl
@[simp] theorem State.begin_xng (s : State) : (s.begin).xng = s.xng := rfl
@[simp] theorem State.begin_ports (s : State) : (s.begin).ports = s.ports := rfl
@[simp] theorem State.begin_ing (s : State) : (s.begin).ing = s.ing := rfl
@[simp] theorem State.begin_plz (s : State) : (s.begin).plz = s.plz := rfl
@[simp] theorem State.begin_wit (s : State) : (s.begin).wit = s.wit := rfl
@[simp] theorem State.begin_blv (s : State) : (s.begin).blv = s.blv := rfl
@[simp] theorem State.begin_ave (s : State) : (s.begin).ave = s.ave := rfl
@[simp] theorem State.begin_lms (s : State) : (s.begin).lms = s.lms := rfl
@[simp] theorem State.begin_clt (s : State) : (s.begin).clt = s.clt := rfl
@[simp] theorem State.begin_fxe (s : State) : (s.begin).fxe = s.fxe := rfl
@[simp] theorem State.begin_sch (s : State) : (s.begin).sch = s.sch := rfl
@[simp] theorem State.begin_krb (s : State) : (s.begin).krb = s.krb := rfl
@[simp] theorem State.begin_met (s : State) : (s.begin).met = s.met := rfl
@[simp] theorem State.begin_cal (s : State) : (s.begin).cal = s.cal := rfl
@[simp] theorem State.begin_ckg (s : State) : (s.begin).ckg = s.ckg := rfl
@[simp] theorem State.begin_csw (s : State) : (s.begin).csw = s.csw := rfl
@[simp] theorem State.begin_lcs (s : State) : (s.begin).lcs = s.lcs := rfl
@[simp] theorem State.begin_therm (s : State) : (s.begin).therm = s.therm := rfl
@[simp] theorem State.begin_free (s : State) : (s.begin).free = s.free := rfl
@[simp] theorem State.begin_pending (s : State) : (s.begin).pending = s.pending := rfl

@[simp] theorem State.emit_now (s : State) (o : Out) : (s.emit o).now = s.now := rfl
@[simp] theorem State.emit_regs (s : State) (o : Out) : (s.emit o).regs = s.regs := rfl
@[simp] theorem State.emit_hiLatch (s : State) (o : Out) : (s.emit o).hiLatch = s.hiLatch := rfl
@[simp] theorem State.emit_hiStage (s : State) (o : Out) : (s.emit o).hiStage = s.hiStage := rfl
@[simp] theorem State.emit_nv (s : State) (o : Out) : (s.emit o).nv = s.nv := rfl
@[simp] theorem State.emit_mode (s : State) (o : Out) : (s.emit o).mode = s.mode := rfl
@[simp] theorem State.emit_plan (s : State) (o : Out) : (s.emit o).plan = s.plan := rfl
@[simp] theorem State.emit_tpl (s : State) (o : Out) : (s.emit o).tpl = s.tpl := rfl
@[simp] theorem State.emit_hist (s : State) (o : Out) : (s.emit o).hist = s.hist := rfl
@[simp] theorem State.emit_lot (s : State) (o : Out) : (s.emit o).lot = s.lot := rfl
@[simp] theorem State.emit_mem (s : State) (o : Out) : (s.emit o).mem = s.mem := rfl
@[simp] theorem State.emit_err (s : State) (o : Out) : (s.emit o).err = s.err := rfl
@[simp] theorem State.emit_pmc (s : State) (o : Out) : (s.emit o).pmc = s.pmc := rfl
@[simp] theorem State.emit_que (s : State) (o : Out) : (s.emit o).que = s.que := rfl
@[simp] theorem State.emit_host (s : State) (o : Out) : (s.emit o).host = s.host := rfl
@[simp] theorem State.emit_rings (s : State) (o : Out) : (s.emit o).rings = s.rings := rfl
@[simp] theorem State.emit_dma (s : State) (o : Out) : (s.emit o).dma = s.dma := rfl
@[simp] theorem State.emit_xng (s : State) (o : Out) : (s.emit o).xng = s.xng := rfl
@[simp] theorem State.emit_ports (s : State) (o : Out) : (s.emit o).ports = s.ports := rfl
@[simp] theorem State.emit_ing (s : State) (o : Out) : (s.emit o).ing = s.ing := rfl
@[simp] theorem State.emit_plz (s : State) (o : Out) : (s.emit o).plz = s.plz := rfl
@[simp] theorem State.emit_wit (s : State) (o : Out) : (s.emit o).wit = s.wit := rfl
@[simp] theorem State.emit_blv (s : State) (o : Out) : (s.emit o).blv = s.blv := rfl
@[simp] theorem State.emit_ave (s : State) (o : Out) : (s.emit o).ave = s.ave := rfl
@[simp] theorem State.emit_lms (s : State) (o : Out) : (s.emit o).lms = s.lms := rfl
@[simp] theorem State.emit_clt (s : State) (o : Out) : (s.emit o).clt = s.clt := rfl
@[simp] theorem State.emit_fxe (s : State) (o : Out) : (s.emit o).fxe = s.fxe := rfl
@[simp] theorem State.emit_sch (s : State) (o : Out) : (s.emit o).sch = s.sch := rfl
@[simp] theorem State.emit_krb (s : State) (o : Out) : (s.emit o).krb = s.krb := rfl
@[simp] theorem State.emit_met (s : State) (o : Out) : (s.emit o).met = s.met := rfl
@[simp] theorem State.emit_cal (s : State) (o : Out) : (s.emit o).cal = s.cal := rfl
@[simp] theorem State.emit_ckg (s : State) (o : Out) : (s.emit o).ckg = s.ckg := rfl
@[simp] theorem State.emit_csw (s : State) (o : Out) : (s.emit o).csw = s.csw := rfl
@[simp] theorem State.emit_lcs (s : State) (o : Out) : (s.emit o).lcs = s.lcs := rfl
@[simp] theorem State.emit_therm (s : State) (o : Out) : (s.emit o).therm = s.therm := rfl
@[simp] theorem State.emit_free (s : State) (o : Out) : (s.emit o).free = s.free := rfl
@[simp] theorem State.emit_resp (s : State) (o : Out) : (s.emit o).resp = s.resp := rfl
@[simp] theorem State.emit_pending (s : State) (o : Out) : (s.emit o).pending = s.pending := rfl

@[simp] theorem State.reply_now (s : State) (r : Resp) : (s.reply r).now = s.now := rfl
@[simp] theorem State.reply_regs (s : State) (r : Resp) : (s.reply r).regs = s.regs := rfl
@[simp] theorem State.reply_hiLatch (s : State) (r : Resp) : (s.reply r).hiLatch = s.hiLatch := rfl
@[simp] theorem State.reply_hiStage (s : State) (r : Resp) : (s.reply r).hiStage = s.hiStage := rfl
@[simp] theorem State.reply_nv (s : State) (r : Resp) : (s.reply r).nv = s.nv := rfl
@[simp] theorem State.reply_mode (s : State) (r : Resp) : (s.reply r).mode = s.mode := rfl
@[simp] theorem State.reply_plan (s : State) (r : Resp) : (s.reply r).plan = s.plan := rfl
@[simp] theorem State.reply_tpl (s : State) (r : Resp) : (s.reply r).tpl = s.tpl := rfl
@[simp] theorem State.reply_hist (s : State) (r : Resp) : (s.reply r).hist = s.hist := rfl
@[simp] theorem State.reply_lot (s : State) (r : Resp) : (s.reply r).lot = s.lot := rfl
@[simp] theorem State.reply_mem (s : State) (r : Resp) : (s.reply r).mem = s.mem := rfl
@[simp] theorem State.reply_err (s : State) (r : Resp) : (s.reply r).err = s.err := rfl
@[simp] theorem State.reply_pmc (s : State) (r : Resp) : (s.reply r).pmc = s.pmc := rfl
@[simp] theorem State.reply_que (s : State) (r : Resp) : (s.reply r).que = s.que := rfl
@[simp] theorem State.reply_host (s : State) (r : Resp) : (s.reply r).host = s.host := rfl
@[simp] theorem State.reply_rings (s : State) (r : Resp) : (s.reply r).rings = s.rings := rfl
@[simp] theorem State.reply_dma (s : State) (r : Resp) : (s.reply r).dma = s.dma := rfl
@[simp] theorem State.reply_xng (s : State) (r : Resp) : (s.reply r).xng = s.xng := rfl
@[simp] theorem State.reply_ports (s : State) (r : Resp) : (s.reply r).ports = s.ports := rfl
@[simp] theorem State.reply_ing (s : State) (r : Resp) : (s.reply r).ing = s.ing := rfl
@[simp] theorem State.reply_plz (s : State) (r : Resp) : (s.reply r).plz = s.plz := rfl
@[simp] theorem State.reply_wit (s : State) (r : Resp) : (s.reply r).wit = s.wit := rfl
@[simp] theorem State.reply_blv (s : State) (r : Resp) : (s.reply r).blv = s.blv := rfl
@[simp] theorem State.reply_ave (s : State) (r : Resp) : (s.reply r).ave = s.ave := rfl
@[simp] theorem State.reply_lms (s : State) (r : Resp) : (s.reply r).lms = s.lms := rfl
@[simp] theorem State.reply_clt (s : State) (r : Resp) : (s.reply r).clt = s.clt := rfl
@[simp] theorem State.reply_fxe (s : State) (r : Resp) : (s.reply r).fxe = s.fxe := rfl
@[simp] theorem State.reply_sch (s : State) (r : Resp) : (s.reply r).sch = s.sch := rfl
@[simp] theorem State.reply_krb (s : State) (r : Resp) : (s.reply r).krb = s.krb := rfl
@[simp] theorem State.reply_met (s : State) (r : Resp) : (s.reply r).met = s.met := rfl
@[simp] theorem State.reply_cal (s : State) (r : Resp) : (s.reply r).cal = s.cal := rfl
@[simp] theorem State.reply_ckg (s : State) (r : Resp) : (s.reply r).ckg = s.ckg := rfl
@[simp] theorem State.reply_csw (s : State) (r : Resp) : (s.reply r).csw = s.csw := rfl
@[simp] theorem State.reply_lcs (s : State) (r : Resp) : (s.reply r).lcs = s.lcs := rfl
@[simp] theorem State.reply_therm (s : State) (r : Resp) : (s.reply r).therm = s.therm := rfl
@[simp] theorem State.reply_free (s : State) (r : Resp) : (s.reply r).free = s.free := rfl
@[simp] theorem State.reply_out (s : State) (r : Resp) : (s.reply r).out = s.out := rfl
@[simp] theorem State.reply_pending (s : State) (r : Resp) : (s.reply r).pending = s.pending := rfl

@[simp] theorem State.wr_now (s : State) (k : Nat) (v : Word32) : (s.wr k v).now = s.now := rfl
@[simp] theorem State.wr_hiLatch (s : State) (k : Nat) (v : Word32) : (s.wr k v).hiLatch = s.hiLatch := rfl
@[simp] theorem State.wr_hiStage (s : State) (k : Nat) (v : Word32) : (s.wr k v).hiStage = s.hiStage := rfl
@[simp] theorem State.wr_nv (s : State) (k : Nat) (v : Word32) : (s.wr k v).nv = s.nv := rfl
@[simp] theorem State.wr_mode (s : State) (k : Nat) (v : Word32) : (s.wr k v).mode = s.mode := rfl
@[simp] theorem State.wr_plan (s : State) (k : Nat) (v : Word32) : (s.wr k v).plan = s.plan := rfl
@[simp] theorem State.wr_tpl (s : State) (k : Nat) (v : Word32) : (s.wr k v).tpl = s.tpl := rfl
@[simp] theorem State.wr_hist (s : State) (k : Nat) (v : Word32) : (s.wr k v).hist = s.hist := rfl
@[simp] theorem State.wr_lot (s : State) (k : Nat) (v : Word32) : (s.wr k v).lot = s.lot := rfl
@[simp] theorem State.wr_mem (s : State) (k : Nat) (v : Word32) : (s.wr k v).mem = s.mem := rfl
@[simp] theorem State.wr_err (s : State) (k : Nat) (v : Word32) : (s.wr k v).err = s.err := rfl
@[simp] theorem State.wr_pmc (s : State) (k : Nat) (v : Word32) : (s.wr k v).pmc = s.pmc := rfl
@[simp] theorem State.wr_que (s : State) (k : Nat) (v : Word32) : (s.wr k v).que = s.que := rfl
@[simp] theorem State.wr_host (s : State) (k : Nat) (v : Word32) : (s.wr k v).host = s.host := rfl
@[simp] theorem State.wr_rings (s : State) (k : Nat) (v : Word32) : (s.wr k v).rings = s.rings := rfl
@[simp] theorem State.wr_dma (s : State) (k : Nat) (v : Word32) : (s.wr k v).dma = s.dma := rfl
@[simp] theorem State.wr_xng (s : State) (k : Nat) (v : Word32) : (s.wr k v).xng = s.xng := rfl
@[simp] theorem State.wr_ports (s : State) (k : Nat) (v : Word32) : (s.wr k v).ports = s.ports := rfl
@[simp] theorem State.wr_ing (s : State) (k : Nat) (v : Word32) : (s.wr k v).ing = s.ing := rfl
@[simp] theorem State.wr_plz (s : State) (k : Nat) (v : Word32) : (s.wr k v).plz = s.plz := rfl
@[simp] theorem State.wr_wit (s : State) (k : Nat) (v : Word32) : (s.wr k v).wit = s.wit := rfl
@[simp] theorem State.wr_blv (s : State) (k : Nat) (v : Word32) : (s.wr k v).blv = s.blv := rfl
@[simp] theorem State.wr_ave (s : State) (k : Nat) (v : Word32) : (s.wr k v).ave = s.ave := rfl
@[simp] theorem State.wr_lms (s : State) (k : Nat) (v : Word32) : (s.wr k v).lms = s.lms := rfl
@[simp] theorem State.wr_clt (s : State) (k : Nat) (v : Word32) : (s.wr k v).clt = s.clt := rfl
@[simp] theorem State.wr_fxe (s : State) (k : Nat) (v : Word32) : (s.wr k v).fxe = s.fxe := rfl
@[simp] theorem State.wr_sch (s : State) (k : Nat) (v : Word32) : (s.wr k v).sch = s.sch := rfl
@[simp] theorem State.wr_krb (s : State) (k : Nat) (v : Word32) : (s.wr k v).krb = s.krb := rfl
@[simp] theorem State.wr_met (s : State) (k : Nat) (v : Word32) : (s.wr k v).met = s.met := rfl
@[simp] theorem State.wr_cal (s : State) (k : Nat) (v : Word32) : (s.wr k v).cal = s.cal := rfl
@[simp] theorem State.wr_ckg (s : State) (k : Nat) (v : Word32) : (s.wr k v).ckg = s.ckg := rfl
@[simp] theorem State.wr_csw (s : State) (k : Nat) (v : Word32) : (s.wr k v).csw = s.csw := rfl
@[simp] theorem State.wr_lcs (s : State) (k : Nat) (v : Word32) : (s.wr k v).lcs = s.lcs := rfl
@[simp] theorem State.wr_therm (s : State) (k : Nat) (v : Word32) : (s.wr k v).therm = s.therm := rfl
@[simp] theorem State.wr_free (s : State) (k : Nat) (v : Word32) : (s.wr k v).free = s.free := rfl
@[simp] theorem State.wr_out (s : State) (k : Nat) (v : Word32) : (s.wr k v).out = s.out := rfl
@[simp] theorem State.wr_resp (s : State) (k : Nat) (v : Word32) : (s.wr k v).resp = s.resp := rfl
@[simp] theorem State.wr_pending (s : State) (k : Nat) (v : Word32) : (s.wr k v).pending = s.pending := rfl

@[simp] theorem State.setF_now (s : State) (k lo w x : Nat) : (s.setF k lo w x).now = s.now := rfl
@[simp] theorem State.setF_hiLatch (s : State) (k lo w x : Nat) : (s.setF k lo w x).hiLatch = s.hiLatch := rfl
@[simp] theorem State.setF_hiStage (s : State) (k lo w x : Nat) : (s.setF k lo w x).hiStage = s.hiStage := rfl
@[simp] theorem State.setF_nv (s : State) (k lo w x : Nat) : (s.setF k lo w x).nv = s.nv := rfl
@[simp] theorem State.setF_mode (s : State) (k lo w x : Nat) : (s.setF k lo w x).mode = s.mode := rfl
@[simp] theorem State.setF_plan (s : State) (k lo w x : Nat) : (s.setF k lo w x).plan = s.plan := rfl
@[simp] theorem State.setF_tpl (s : State) (k lo w x : Nat) : (s.setF k lo w x).tpl = s.tpl := rfl
@[simp] theorem State.setF_hist (s : State) (k lo w x : Nat) : (s.setF k lo w x).hist = s.hist := rfl
@[simp] theorem State.setF_lot (s : State) (k lo w x : Nat) : (s.setF k lo w x).lot = s.lot := rfl
@[simp] theorem State.setF_mem (s : State) (k lo w x : Nat) : (s.setF k lo w x).mem = s.mem := rfl
@[simp] theorem State.setF_err (s : State) (k lo w x : Nat) : (s.setF k lo w x).err = s.err := rfl
@[simp] theorem State.setF_pmc (s : State) (k lo w x : Nat) : (s.setF k lo w x).pmc = s.pmc := rfl
@[simp] theorem State.setF_que (s : State) (k lo w x : Nat) : (s.setF k lo w x).que = s.que := rfl
@[simp] theorem State.setF_host (s : State) (k lo w x : Nat) : (s.setF k lo w x).host = s.host := rfl
@[simp] theorem State.setF_rings (s : State) (k lo w x : Nat) : (s.setF k lo w x).rings = s.rings := rfl
@[simp] theorem State.setF_dma (s : State) (k lo w x : Nat) : (s.setF k lo w x).dma = s.dma := rfl
@[simp] theorem State.setF_xng (s : State) (k lo w x : Nat) : (s.setF k lo w x).xng = s.xng := rfl
@[simp] theorem State.setF_ports (s : State) (k lo w x : Nat) : (s.setF k lo w x).ports = s.ports := rfl
@[simp] theorem State.setF_ing (s : State) (k lo w x : Nat) : (s.setF k lo w x).ing = s.ing := rfl
@[simp] theorem State.setF_plz (s : State) (k lo w x : Nat) : (s.setF k lo w x).plz = s.plz := rfl
@[simp] theorem State.setF_wit (s : State) (k lo w x : Nat) : (s.setF k lo w x).wit = s.wit := rfl
@[simp] theorem State.setF_blv (s : State) (k lo w x : Nat) : (s.setF k lo w x).blv = s.blv := rfl
@[simp] theorem State.setF_ave (s : State) (k lo w x : Nat) : (s.setF k lo w x).ave = s.ave := rfl
@[simp] theorem State.setF_lms (s : State) (k lo w x : Nat) : (s.setF k lo w x).lms = s.lms := rfl
@[simp] theorem State.setF_clt (s : State) (k lo w x : Nat) : (s.setF k lo w x).clt = s.clt := rfl
@[simp] theorem State.setF_fxe (s : State) (k lo w x : Nat) : (s.setF k lo w x).fxe = s.fxe := rfl
@[simp] theorem State.setF_sch (s : State) (k lo w x : Nat) : (s.setF k lo w x).sch = s.sch := rfl
@[simp] theorem State.setF_krb (s : State) (k lo w x : Nat) : (s.setF k lo w x).krb = s.krb := rfl
@[simp] theorem State.setF_met (s : State) (k lo w x : Nat) : (s.setF k lo w x).met = s.met := rfl
@[simp] theorem State.setF_cal (s : State) (k lo w x : Nat) : (s.setF k lo w x).cal = s.cal := rfl
@[simp] theorem State.setF_ckg (s : State) (k lo w x : Nat) : (s.setF k lo w x).ckg = s.ckg := rfl
@[simp] theorem State.setF_csw (s : State) (k lo w x : Nat) : (s.setF k lo w x).csw = s.csw := rfl
@[simp] theorem State.setF_lcs (s : State) (k lo w x : Nat) : (s.setF k lo w x).lcs = s.lcs := rfl
@[simp] theorem State.setF_therm (s : State) (k lo w x : Nat) : (s.setF k lo w x).therm = s.therm := rfl
@[simp] theorem State.setF_free (s : State) (k lo w x : Nat) : (s.setF k lo w x).free = s.free := rfl
@[simp] theorem State.setF_out (s : State) (k lo w x : Nat) : (s.setF k lo w x).out = s.out := rfl
@[simp] theorem State.setF_resp (s : State) (k lo w x : Nat) : (s.setF k lo w x).resp = s.resp := rfl
@[simp] theorem State.setF_pending (s : State) (k lo w x : Nat) : (s.setF k lo w x).pending = s.pending := rfl

@[simp] theorem State.bump_now (s : State) (k n : Nat) : (s.bump k n).now = s.now := rfl
@[simp] theorem State.bump_hiLatch (s : State) (k n : Nat) : (s.bump k n).hiLatch = s.hiLatch := rfl
@[simp] theorem State.bump_hiStage (s : State) (k n : Nat) : (s.bump k n).hiStage = s.hiStage := rfl
@[simp] theorem State.bump_nv (s : State) (k n : Nat) : (s.bump k n).nv = s.nv := rfl
@[simp] theorem State.bump_mode (s : State) (k n : Nat) : (s.bump k n).mode = s.mode := rfl
@[simp] theorem State.bump_plan (s : State) (k n : Nat) : (s.bump k n).plan = s.plan := rfl
@[simp] theorem State.bump_tpl (s : State) (k n : Nat) : (s.bump k n).tpl = s.tpl := rfl
@[simp] theorem State.bump_hist (s : State) (k n : Nat) : (s.bump k n).hist = s.hist := rfl
@[simp] theorem State.bump_lot (s : State) (k n : Nat) : (s.bump k n).lot = s.lot := rfl
@[simp] theorem State.bump_mem (s : State) (k n : Nat) : (s.bump k n).mem = s.mem := rfl
@[simp] theorem State.bump_err (s : State) (k n : Nat) : (s.bump k n).err = s.err := rfl
@[simp] theorem State.bump_pmc (s : State) (k n : Nat) : (s.bump k n).pmc = s.pmc := rfl
@[simp] theorem State.bump_que (s : State) (k n : Nat) : (s.bump k n).que = s.que := rfl
@[simp] theorem State.bump_host (s : State) (k n : Nat) : (s.bump k n).host = s.host := rfl
@[simp] theorem State.bump_rings (s : State) (k n : Nat) : (s.bump k n).rings = s.rings := rfl
@[simp] theorem State.bump_dma (s : State) (k n : Nat) : (s.bump k n).dma = s.dma := rfl
@[simp] theorem State.bump_xng (s : State) (k n : Nat) : (s.bump k n).xng = s.xng := rfl
@[simp] theorem State.bump_ports (s : State) (k n : Nat) : (s.bump k n).ports = s.ports := rfl
@[simp] theorem State.bump_ing (s : State) (k n : Nat) : (s.bump k n).ing = s.ing := rfl
@[simp] theorem State.bump_plz (s : State) (k n : Nat) : (s.bump k n).plz = s.plz := rfl
@[simp] theorem State.bump_wit (s : State) (k n : Nat) : (s.bump k n).wit = s.wit := rfl
@[simp] theorem State.bump_blv (s : State) (k n : Nat) : (s.bump k n).blv = s.blv := rfl
@[simp] theorem State.bump_ave (s : State) (k n : Nat) : (s.bump k n).ave = s.ave := rfl
@[simp] theorem State.bump_lms (s : State) (k n : Nat) : (s.bump k n).lms = s.lms := rfl
@[simp] theorem State.bump_clt (s : State) (k n : Nat) : (s.bump k n).clt = s.clt := rfl
@[simp] theorem State.bump_fxe (s : State) (k n : Nat) : (s.bump k n).fxe = s.fxe := rfl
@[simp] theorem State.bump_sch (s : State) (k n : Nat) : (s.bump k n).sch = s.sch := rfl
@[simp] theorem State.bump_krb (s : State) (k n : Nat) : (s.bump k n).krb = s.krb := rfl
@[simp] theorem State.bump_met (s : State) (k n : Nat) : (s.bump k n).met = s.met := rfl
@[simp] theorem State.bump_cal (s : State) (k n : Nat) : (s.bump k n).cal = s.cal := rfl
@[simp] theorem State.bump_ckg (s : State) (k n : Nat) : (s.bump k n).ckg = s.ckg := rfl
@[simp] theorem State.bump_csw (s : State) (k n : Nat) : (s.bump k n).csw = s.csw := rfl
@[simp] theorem State.bump_lcs (s : State) (k n : Nat) : (s.bump k n).lcs = s.lcs := rfl
@[simp] theorem State.bump_therm (s : State) (k n : Nat) : (s.bump k n).therm = s.therm := rfl
@[simp] theorem State.bump_free (s : State) (k n : Nat) : (s.bump k n).free = s.free := rfl
@[simp] theorem State.bump_out (s : State) (k n : Nat) : (s.bump k n).out = s.out := rfl
@[simp] theorem State.bump_resp (s : State) (k n : Nat) : (s.bump k n).resp = s.resp := rfl
@[simp] theorem State.bump_pending (s : State) (k n : Nat) : (s.bump k n).pending = s.pending := rfl

@[simp] theorem State.setErr_now (s : State) (k c : Nat) : (s.setErr k c).now = s.now := rfl
@[simp] theorem State.setErr_hiLatch (s : State) (k c : Nat) : (s.setErr k c).hiLatch = s.hiLatch := rfl
@[simp] theorem State.setErr_hiStage (s : State) (k c : Nat) : (s.setErr k c).hiStage = s.hiStage := rfl
@[simp] theorem State.setErr_nv (s : State) (k c : Nat) : (s.setErr k c).nv = s.nv := rfl
@[simp] theorem State.setErr_mode (s : State) (k c : Nat) : (s.setErr k c).mode = s.mode := rfl
@[simp] theorem State.setErr_plan (s : State) (k c : Nat) : (s.setErr k c).plan = s.plan := rfl
@[simp] theorem State.setErr_tpl (s : State) (k c : Nat) : (s.setErr k c).tpl = s.tpl := rfl
@[simp] theorem State.setErr_hist (s : State) (k c : Nat) : (s.setErr k c).hist = s.hist := rfl
@[simp] theorem State.setErr_lot (s : State) (k c : Nat) : (s.setErr k c).lot = s.lot := rfl
@[simp] theorem State.setErr_mem (s : State) (k c : Nat) : (s.setErr k c).mem = s.mem := rfl
@[simp] theorem State.setErr_err (s : State) (k c : Nat) : (s.setErr k c).err = s.err := rfl
@[simp] theorem State.setErr_pmc (s : State) (k c : Nat) : (s.setErr k c).pmc = s.pmc := rfl
@[simp] theorem State.setErr_que (s : State) (k c : Nat) : (s.setErr k c).que = s.que := rfl
@[simp] theorem State.setErr_host (s : State) (k c : Nat) : (s.setErr k c).host = s.host := rfl
@[simp] theorem State.setErr_rings (s : State) (k c : Nat) : (s.setErr k c).rings = s.rings := rfl
@[simp] theorem State.setErr_dma (s : State) (k c : Nat) : (s.setErr k c).dma = s.dma := rfl
@[simp] theorem State.setErr_xng (s : State) (k c : Nat) : (s.setErr k c).xng = s.xng := rfl
@[simp] theorem State.setErr_ports (s : State) (k c : Nat) : (s.setErr k c).ports = s.ports := rfl
@[simp] theorem State.setErr_ing (s : State) (k c : Nat) : (s.setErr k c).ing = s.ing := rfl
@[simp] theorem State.setErr_plz (s : State) (k c : Nat) : (s.setErr k c).plz = s.plz := rfl
@[simp] theorem State.setErr_wit (s : State) (k c : Nat) : (s.setErr k c).wit = s.wit := rfl
@[simp] theorem State.setErr_blv (s : State) (k c : Nat) : (s.setErr k c).blv = s.blv := rfl
@[simp] theorem State.setErr_ave (s : State) (k c : Nat) : (s.setErr k c).ave = s.ave := rfl
@[simp] theorem State.setErr_lms (s : State) (k c : Nat) : (s.setErr k c).lms = s.lms := rfl
@[simp] theorem State.setErr_clt (s : State) (k c : Nat) : (s.setErr k c).clt = s.clt := rfl
@[simp] theorem State.setErr_fxe (s : State) (k c : Nat) : (s.setErr k c).fxe = s.fxe := rfl
@[simp] theorem State.setErr_sch (s : State) (k c : Nat) : (s.setErr k c).sch = s.sch := rfl
@[simp] theorem State.setErr_krb (s : State) (k c : Nat) : (s.setErr k c).krb = s.krb := rfl
@[simp] theorem State.setErr_met (s : State) (k c : Nat) : (s.setErr k c).met = s.met := rfl
@[simp] theorem State.setErr_cal (s : State) (k c : Nat) : (s.setErr k c).cal = s.cal := rfl
@[simp] theorem State.setErr_ckg (s : State) (k c : Nat) : (s.setErr k c).ckg = s.ckg := rfl
@[simp] theorem State.setErr_csw (s : State) (k c : Nat) : (s.setErr k c).csw = s.csw := rfl
@[simp] theorem State.setErr_lcs (s : State) (k c : Nat) : (s.setErr k c).lcs = s.lcs := rfl
@[simp] theorem State.setErr_therm (s : State) (k c : Nat) : (s.setErr k c).therm = s.therm := rfl
@[simp] theorem State.setErr_free (s : State) (k c : Nat) : (s.setErr k c).free = s.free := rfl
@[simp] theorem State.setErr_out (s : State) (k c : Nat) : (s.setErr k c).out = s.out := rfl
@[simp] theorem State.setErr_resp (s : State) (k c : Nat) : (s.setErr k c).resp = s.resp := rfl
@[simp] theorem State.setErr_pending (s : State) (k c : Nat) : (s.setErr k c).pending = s.pending := rfl

@[simp] theorem State.wr64_now (s : State) (k v : Nat) : (s.wr64 k v).now = s.now := rfl
@[simp] theorem State.wr64_hiLatch (s : State) (k v : Nat) : (s.wr64 k v).hiLatch = s.hiLatch := rfl
@[simp] theorem State.wr64_hiStage (s : State) (k v : Nat) : (s.wr64 k v).hiStage = s.hiStage := rfl
@[simp] theorem State.wr64_nv (s : State) (k v : Nat) : (s.wr64 k v).nv = s.nv := rfl
@[simp] theorem State.wr64_mode (s : State) (k v : Nat) : (s.wr64 k v).mode = s.mode := rfl
@[simp] theorem State.wr64_plan (s : State) (k v : Nat) : (s.wr64 k v).plan = s.plan := rfl
@[simp] theorem State.wr64_tpl (s : State) (k v : Nat) : (s.wr64 k v).tpl = s.tpl := rfl
@[simp] theorem State.wr64_hist (s : State) (k v : Nat) : (s.wr64 k v).hist = s.hist := rfl
@[simp] theorem State.wr64_lot (s : State) (k v : Nat) : (s.wr64 k v).lot = s.lot := rfl
@[simp] theorem State.wr64_mem (s : State) (k v : Nat) : (s.wr64 k v).mem = s.mem := rfl
@[simp] theorem State.wr64_err (s : State) (k v : Nat) : (s.wr64 k v).err = s.err := rfl
@[simp] theorem State.wr64_pmc (s : State) (k v : Nat) : (s.wr64 k v).pmc = s.pmc := rfl
@[simp] theorem State.wr64_que (s : State) (k v : Nat) : (s.wr64 k v).que = s.que := rfl
@[simp] theorem State.wr64_host (s : State) (k v : Nat) : (s.wr64 k v).host = s.host := rfl
@[simp] theorem State.wr64_rings (s : State) (k v : Nat) : (s.wr64 k v).rings = s.rings := rfl
@[simp] theorem State.wr64_dma (s : State) (k v : Nat) : (s.wr64 k v).dma = s.dma := rfl
@[simp] theorem State.wr64_xng (s : State) (k v : Nat) : (s.wr64 k v).xng = s.xng := rfl
@[simp] theorem State.wr64_ports (s : State) (k v : Nat) : (s.wr64 k v).ports = s.ports := rfl
@[simp] theorem State.wr64_ing (s : State) (k v : Nat) : (s.wr64 k v).ing = s.ing := rfl
@[simp] theorem State.wr64_plz (s : State) (k v : Nat) : (s.wr64 k v).plz = s.plz := rfl
@[simp] theorem State.wr64_wit (s : State) (k v : Nat) : (s.wr64 k v).wit = s.wit := rfl
@[simp] theorem State.wr64_blv (s : State) (k v : Nat) : (s.wr64 k v).blv = s.blv := rfl
@[simp] theorem State.wr64_ave (s : State) (k v : Nat) : (s.wr64 k v).ave = s.ave := rfl
@[simp] theorem State.wr64_lms (s : State) (k v : Nat) : (s.wr64 k v).lms = s.lms := rfl
@[simp] theorem State.wr64_clt (s : State) (k v : Nat) : (s.wr64 k v).clt = s.clt := rfl
@[simp] theorem State.wr64_fxe (s : State) (k v : Nat) : (s.wr64 k v).fxe = s.fxe := rfl
@[simp] theorem State.wr64_sch (s : State) (k v : Nat) : (s.wr64 k v).sch = s.sch := rfl
@[simp] theorem State.wr64_krb (s : State) (k v : Nat) : (s.wr64 k v).krb = s.krb := rfl
@[simp] theorem State.wr64_met (s : State) (k v : Nat) : (s.wr64 k v).met = s.met := rfl
@[simp] theorem State.wr64_cal (s : State) (k v : Nat) : (s.wr64 k v).cal = s.cal := rfl
@[simp] theorem State.wr64_ckg (s : State) (k v : Nat) : (s.wr64 k v).ckg = s.ckg := rfl
@[simp] theorem State.wr64_csw (s : State) (k v : Nat) : (s.wr64 k v).csw = s.csw := rfl
@[simp] theorem State.wr64_lcs (s : State) (k v : Nat) : (s.wr64 k v).lcs = s.lcs := rfl
@[simp] theorem State.wr64_therm (s : State) (k v : Nat) : (s.wr64 k v).therm = s.therm := rfl
@[simp] theorem State.wr64_free (s : State) (k v : Nat) : (s.wr64 k v).free = s.free := rfl
@[simp] theorem State.wr64_out (s : State) (k v : Nat) : (s.wr64 k v).out = s.out := rfl
@[simp] theorem State.wr64_resp (s : State) (k v : Nat) : (s.wr64 k v).resp = s.resp := rfl
@[simp] theorem State.wr64_pending (s : State) (k v : Nat) : (s.wr64 k v).pending = s.pending := rfl

@[simp] theorem State.bump64_now (s : State) (k n : Nat) : (s.bump64 k n).now = s.now := rfl
@[simp] theorem State.bump64_hiLatch (s : State) (k n : Nat) : (s.bump64 k n).hiLatch = s.hiLatch := rfl
@[simp] theorem State.bump64_hiStage (s : State) (k n : Nat) : (s.bump64 k n).hiStage = s.hiStage := rfl
@[simp] theorem State.bump64_nv (s : State) (k n : Nat) : (s.bump64 k n).nv = s.nv := rfl
@[simp] theorem State.bump64_mode (s : State) (k n : Nat) : (s.bump64 k n).mode = s.mode := rfl
@[simp] theorem State.bump64_plan (s : State) (k n : Nat) : (s.bump64 k n).plan = s.plan := rfl
@[simp] theorem State.bump64_tpl (s : State) (k n : Nat) : (s.bump64 k n).tpl = s.tpl := rfl
@[simp] theorem State.bump64_hist (s : State) (k n : Nat) : (s.bump64 k n).hist = s.hist := rfl
@[simp] theorem State.bump64_lot (s : State) (k n : Nat) : (s.bump64 k n).lot = s.lot := rfl
@[simp] theorem State.bump64_mem (s : State) (k n : Nat) : (s.bump64 k n).mem = s.mem := rfl
@[simp] theorem State.bump64_err (s : State) (k n : Nat) : (s.bump64 k n).err = s.err := rfl
@[simp] theorem State.bump64_pmc (s : State) (k n : Nat) : (s.bump64 k n).pmc = s.pmc := rfl
@[simp] theorem State.bump64_que (s : State) (k n : Nat) : (s.bump64 k n).que = s.que := rfl
@[simp] theorem State.bump64_host (s : State) (k n : Nat) : (s.bump64 k n).host = s.host := rfl
@[simp] theorem State.bump64_rings (s : State) (k n : Nat) : (s.bump64 k n).rings = s.rings := rfl
@[simp] theorem State.bump64_dma (s : State) (k n : Nat) : (s.bump64 k n).dma = s.dma := rfl
@[simp] theorem State.bump64_xng (s : State) (k n : Nat) : (s.bump64 k n).xng = s.xng := rfl
@[simp] theorem State.bump64_ports (s : State) (k n : Nat) : (s.bump64 k n).ports = s.ports := rfl
@[simp] theorem State.bump64_ing (s : State) (k n : Nat) : (s.bump64 k n).ing = s.ing := rfl
@[simp] theorem State.bump64_plz (s : State) (k n : Nat) : (s.bump64 k n).plz = s.plz := rfl
@[simp] theorem State.bump64_wit (s : State) (k n : Nat) : (s.bump64 k n).wit = s.wit := rfl
@[simp] theorem State.bump64_blv (s : State) (k n : Nat) : (s.bump64 k n).blv = s.blv := rfl
@[simp] theorem State.bump64_ave (s : State) (k n : Nat) : (s.bump64 k n).ave = s.ave := rfl
@[simp] theorem State.bump64_lms (s : State) (k n : Nat) : (s.bump64 k n).lms = s.lms := rfl
@[simp] theorem State.bump64_clt (s : State) (k n : Nat) : (s.bump64 k n).clt = s.clt := rfl
@[simp] theorem State.bump64_fxe (s : State) (k n : Nat) : (s.bump64 k n).fxe = s.fxe := rfl
@[simp] theorem State.bump64_sch (s : State) (k n : Nat) : (s.bump64 k n).sch = s.sch := rfl
@[simp] theorem State.bump64_krb (s : State) (k n : Nat) : (s.bump64 k n).krb = s.krb := rfl
@[simp] theorem State.bump64_met (s : State) (k n : Nat) : (s.bump64 k n).met = s.met := rfl
@[simp] theorem State.bump64_cal (s : State) (k n : Nat) : (s.bump64 k n).cal = s.cal := rfl
@[simp] theorem State.bump64_ckg (s : State) (k n : Nat) : (s.bump64 k n).ckg = s.ckg := rfl
@[simp] theorem State.bump64_csw (s : State) (k n : Nat) : (s.bump64 k n).csw = s.csw := rfl
@[simp] theorem State.bump64_lcs (s : State) (k n : Nat) : (s.bump64 k n).lcs = s.lcs := rfl
@[simp] theorem State.bump64_therm (s : State) (k n : Nat) : (s.bump64 k n).therm = s.therm := rfl
@[simp] theorem State.bump64_free (s : State) (k n : Nat) : (s.bump64 k n).free = s.free := rfl
@[simp] theorem State.bump64_out (s : State) (k n : Nat) : (s.bump64 k n).out = s.out := rfl
@[simp] theorem State.bump64_resp (s : State) (k n : Nat) : (s.bump64 k n).resp = s.resp := rfl
@[simp] theorem State.bump64_pending (s : State) (k n : Nat) : (s.bump64 k n).pending = s.pending := rfl

@[simp] theorem State.resetRegs_now (s : State) (p : Nat → Bool) : (s.resetRegs p).now = s.now := rfl
@[simp] theorem State.resetRegs_hiLatch (s : State) (p : Nat → Bool) : (s.resetRegs p).hiLatch = s.hiLatch := rfl
@[simp] theorem State.resetRegs_hiStage (s : State) (p : Nat → Bool) : (s.resetRegs p).hiStage = s.hiStage := rfl
@[simp] theorem State.resetRegs_nv (s : State) (p : Nat → Bool) : (s.resetRegs p).nv = s.nv := rfl
@[simp] theorem State.resetRegs_mode (s : State) (p : Nat → Bool) : (s.resetRegs p).mode = s.mode := rfl
@[simp] theorem State.resetRegs_plan (s : State) (p : Nat → Bool) : (s.resetRegs p).plan = s.plan := rfl
@[simp] theorem State.resetRegs_tpl (s : State) (p : Nat → Bool) : (s.resetRegs p).tpl = s.tpl := rfl
@[simp] theorem State.resetRegs_hist (s : State) (p : Nat → Bool) : (s.resetRegs p).hist = s.hist := rfl
@[simp] theorem State.resetRegs_lot (s : State) (p : Nat → Bool) : (s.resetRegs p).lot = s.lot := rfl
@[simp] theorem State.resetRegs_mem (s : State) (p : Nat → Bool) : (s.resetRegs p).mem = s.mem := rfl
@[simp] theorem State.resetRegs_err (s : State) (p : Nat → Bool) : (s.resetRegs p).err = s.err := rfl
@[simp] theorem State.resetRegs_pmc (s : State) (p : Nat → Bool) : (s.resetRegs p).pmc = s.pmc := rfl
@[simp] theorem State.resetRegs_que (s : State) (p : Nat → Bool) : (s.resetRegs p).que = s.que := rfl
@[simp] theorem State.resetRegs_host (s : State) (p : Nat → Bool) : (s.resetRegs p).host = s.host := rfl
@[simp] theorem State.resetRegs_rings (s : State) (p : Nat → Bool) : (s.resetRegs p).rings = s.rings := rfl
@[simp] theorem State.resetRegs_dma (s : State) (p : Nat → Bool) : (s.resetRegs p).dma = s.dma := rfl
@[simp] theorem State.resetRegs_xng (s : State) (p : Nat → Bool) : (s.resetRegs p).xng = s.xng := rfl
@[simp] theorem State.resetRegs_ports (s : State) (p : Nat → Bool) : (s.resetRegs p).ports = s.ports := rfl
@[simp] theorem State.resetRegs_ing (s : State) (p : Nat → Bool) : (s.resetRegs p).ing = s.ing := rfl
@[simp] theorem State.resetRegs_plz (s : State) (p : Nat → Bool) : (s.resetRegs p).plz = s.plz := rfl
@[simp] theorem State.resetRegs_wit (s : State) (p : Nat → Bool) : (s.resetRegs p).wit = s.wit := rfl
@[simp] theorem State.resetRegs_blv (s : State) (p : Nat → Bool) : (s.resetRegs p).blv = s.blv := rfl
@[simp] theorem State.resetRegs_ave (s : State) (p : Nat → Bool) : (s.resetRegs p).ave = s.ave := rfl
@[simp] theorem State.resetRegs_lms (s : State) (p : Nat → Bool) : (s.resetRegs p).lms = s.lms := rfl
@[simp] theorem State.resetRegs_clt (s : State) (p : Nat → Bool) : (s.resetRegs p).clt = s.clt := rfl
@[simp] theorem State.resetRegs_fxe (s : State) (p : Nat → Bool) : (s.resetRegs p).fxe = s.fxe := rfl
@[simp] theorem State.resetRegs_sch (s : State) (p : Nat → Bool) : (s.resetRegs p).sch = s.sch := rfl
@[simp] theorem State.resetRegs_krb (s : State) (p : Nat → Bool) : (s.resetRegs p).krb = s.krb := rfl
@[simp] theorem State.resetRegs_met (s : State) (p : Nat → Bool) : (s.resetRegs p).met = s.met := rfl
@[simp] theorem State.resetRegs_cal (s : State) (p : Nat → Bool) : (s.resetRegs p).cal = s.cal := rfl
@[simp] theorem State.resetRegs_ckg (s : State) (p : Nat → Bool) : (s.resetRegs p).ckg = s.ckg := rfl
@[simp] theorem State.resetRegs_csw (s : State) (p : Nat → Bool) : (s.resetRegs p).csw = s.csw := rfl
@[simp] theorem State.resetRegs_lcs (s : State) (p : Nat → Bool) : (s.resetRegs p).lcs = s.lcs := rfl
@[simp] theorem State.resetRegs_therm (s : State) (p : Nat → Bool) : (s.resetRegs p).therm = s.therm := rfl
@[simp] theorem State.resetRegs_free (s : State) (p : Nat → Bool) : (s.resetRegs p).free = s.free := rfl
@[simp] theorem State.resetRegs_out (s : State) (p : Nat → Bool) : (s.resetRegs p).out = s.out := rfl
@[simp] theorem State.resetRegs_resp (s : State) (p : Nat → Bool) : (s.resetRegs p).resp = s.resp := rfl
@[simp] theorem State.resetRegs_pending (s : State) (p : Nat → Bool) : (s.resetRegs p).pending = s.pending := rfl

@[simp] theorem State.bw_now (s : State) (k n : Nat) : (s.bw k n).now = s.now := rfl
@[simp] theorem State.bw_regs (s : State) (k n : Nat) : (s.bw k n).regs = s.regs := rfl
@[simp] theorem State.bw_hiLatch (s : State) (k n : Nat) : (s.bw k n).hiLatch = s.hiLatch := rfl
@[simp] theorem State.bw_hiStage (s : State) (k n : Nat) : (s.bw k n).hiStage = s.hiStage := rfl
@[simp] theorem State.bw_nv (s : State) (k n : Nat) : (s.bw k n).nv = s.nv := rfl
@[simp] theorem State.bw_mode (s : State) (k n : Nat) : (s.bw k n).mode = s.mode := rfl
@[simp] theorem State.bw_plan (s : State) (k n : Nat) : (s.bw k n).plan = s.plan := rfl
@[simp] theorem State.bw_tpl (s : State) (k n : Nat) : (s.bw k n).tpl = s.tpl := rfl
@[simp] theorem State.bw_hist (s : State) (k n : Nat) : (s.bw k n).hist = s.hist := rfl
@[simp] theorem State.bw_lot (s : State) (k n : Nat) : (s.bw k n).lot = s.lot := rfl
@[simp] theorem State.bw_mem (s : State) (k n : Nat) : (s.bw k n).mem = s.mem := rfl
@[simp] theorem State.bw_err (s : State) (k n : Nat) : (s.bw k n).err = s.err := rfl
@[simp] theorem State.bw_que (s : State) (k n : Nat) : (s.bw k n).que = s.que := rfl
@[simp] theorem State.bw_host (s : State) (k n : Nat) : (s.bw k n).host = s.host := rfl
@[simp] theorem State.bw_rings (s : State) (k n : Nat) : (s.bw k n).rings = s.rings := rfl
@[simp] theorem State.bw_dma (s : State) (k n : Nat) : (s.bw k n).dma = s.dma := rfl
@[simp] theorem State.bw_xng (s : State) (k n : Nat) : (s.bw k n).xng = s.xng := rfl
@[simp] theorem State.bw_ports (s : State) (k n : Nat) : (s.bw k n).ports = s.ports := rfl
@[simp] theorem State.bw_ing (s : State) (k n : Nat) : (s.bw k n).ing = s.ing := rfl
@[simp] theorem State.bw_plz (s : State) (k n : Nat) : (s.bw k n).plz = s.plz := rfl
@[simp] theorem State.bw_wit (s : State) (k n : Nat) : (s.bw k n).wit = s.wit := rfl
@[simp] theorem State.bw_blv (s : State) (k n : Nat) : (s.bw k n).blv = s.blv := rfl
@[simp] theorem State.bw_ave (s : State) (k n : Nat) : (s.bw k n).ave = s.ave := rfl
@[simp] theorem State.bw_lms (s : State) (k n : Nat) : (s.bw k n).lms = s.lms := rfl
@[simp] theorem State.bw_clt (s : State) (k n : Nat) : (s.bw k n).clt = s.clt := rfl
@[simp] theorem State.bw_fxe (s : State) (k n : Nat) : (s.bw k n).fxe = s.fxe := rfl
@[simp] theorem State.bw_sch (s : State) (k n : Nat) : (s.bw k n).sch = s.sch := rfl
@[simp] theorem State.bw_krb (s : State) (k n : Nat) : (s.bw k n).krb = s.krb := rfl
@[simp] theorem State.bw_met (s : State) (k n : Nat) : (s.bw k n).met = s.met := rfl
@[simp] theorem State.bw_cal (s : State) (k n : Nat) : (s.bw k n).cal = s.cal := rfl
@[simp] theorem State.bw_ckg (s : State) (k n : Nat) : (s.bw k n).ckg = s.ckg := rfl
@[simp] theorem State.bw_csw (s : State) (k n : Nat) : (s.bw k n).csw = s.csw := rfl
@[simp] theorem State.bw_lcs (s : State) (k n : Nat) : (s.bw k n).lcs = s.lcs := rfl
@[simp] theorem State.bw_therm (s : State) (k n : Nat) : (s.bw k n).therm = s.therm := rfl
@[simp] theorem State.bw_free (s : State) (k n : Nat) : (s.bw k n).free = s.free := rfl
@[simp] theorem State.bw_out (s : State) (k n : Nat) : (s.bw k n).out = s.out := rfl
@[simp] theorem State.bw_resp (s : State) (k n : Nat) : (s.bw k n).resp = s.resp := rfl
@[simp] theorem State.bw_pending (s : State) (k n : Nat) : (s.bw k n).pending = s.pending := rfl

@[simp] theorem State.setHp_now (s : State) (d : Nat) (h : HostPort) : (s.setHp d h).now = s.now := rfl
@[simp] theorem State.setHp_regs (s : State) (d : Nat) (h : HostPort) : (s.setHp d h).regs = s.regs := rfl
@[simp] theorem State.setHp_hiLatch (s : State) (d : Nat) (h : HostPort) : (s.setHp d h).hiLatch = s.hiLatch := rfl
@[simp] theorem State.setHp_hiStage (s : State) (d : Nat) (h : HostPort) : (s.setHp d h).hiStage = s.hiStage := rfl
@[simp] theorem State.setHp_nv (s : State) (d : Nat) (h : HostPort) : (s.setHp d h).nv = s.nv := rfl
@[simp] theorem State.setHp_mode (s : State) (d : Nat) (h : HostPort) : (s.setHp d h).mode = s.mode := rfl
@[simp] theorem State.setHp_plan (s : State) (d : Nat) (h : HostPort) : (s.setHp d h).plan = s.plan := rfl
@[simp] theorem State.setHp_tpl (s : State) (d : Nat) (h : HostPort) : (s.setHp d h).tpl = s.tpl := rfl
@[simp] theorem State.setHp_hist (s : State) (d : Nat) (h : HostPort) : (s.setHp d h).hist = s.hist := rfl
@[simp] theorem State.setHp_lot (s : State) (d : Nat) (h : HostPort) : (s.setHp d h).lot = s.lot := rfl
@[simp] theorem State.setHp_mem (s : State) (d : Nat) (h : HostPort) : (s.setHp d h).mem = s.mem := rfl
@[simp] theorem State.setHp_err (s : State) (d : Nat) (h : HostPort) : (s.setHp d h).err = s.err := rfl
@[simp] theorem State.setHp_pmc (s : State) (d : Nat) (h : HostPort) : (s.setHp d h).pmc = s.pmc := rfl
@[simp] theorem State.setHp_que (s : State) (d : Nat) (h : HostPort) : (s.setHp d h).que = s.que := rfl
@[simp] theorem State.setHp_rings (s : State) (d : Nat) (h : HostPort) : (s.setHp d h).rings = s.rings := rfl
@[simp] theorem State.setHp_dma (s : State) (d : Nat) (h : HostPort) : (s.setHp d h).dma = s.dma := rfl
@[simp] theorem State.setHp_xng (s : State) (d : Nat) (h : HostPort) : (s.setHp d h).xng = s.xng := rfl
@[simp] theorem State.setHp_ports (s : State) (d : Nat) (h : HostPort) : (s.setHp d h).ports = s.ports := rfl
@[simp] theorem State.setHp_ing (s : State) (d : Nat) (h : HostPort) : (s.setHp d h).ing = s.ing := rfl
@[simp] theorem State.setHp_plz (s : State) (d : Nat) (h : HostPort) : (s.setHp d h).plz = s.plz := rfl
@[simp] theorem State.setHp_wit (s : State) (d : Nat) (h : HostPort) : (s.setHp d h).wit = s.wit := rfl
@[simp] theorem State.setHp_blv (s : State) (d : Nat) (h : HostPort) : (s.setHp d h).blv = s.blv := rfl
@[simp] theorem State.setHp_ave (s : State) (d : Nat) (h : HostPort) : (s.setHp d h).ave = s.ave := rfl
@[simp] theorem State.setHp_lms (s : State) (d : Nat) (h : HostPort) : (s.setHp d h).lms = s.lms := rfl
@[simp] theorem State.setHp_clt (s : State) (d : Nat) (h : HostPort) : (s.setHp d h).clt = s.clt := rfl
@[simp] theorem State.setHp_fxe (s : State) (d : Nat) (h : HostPort) : (s.setHp d h).fxe = s.fxe := rfl
@[simp] theorem State.setHp_sch (s : State) (d : Nat) (h : HostPort) : (s.setHp d h).sch = s.sch := rfl
@[simp] theorem State.setHp_krb (s : State) (d : Nat) (h : HostPort) : (s.setHp d h).krb = s.krb := rfl
@[simp] theorem State.setHp_met (s : State) (d : Nat) (h : HostPort) : (s.setHp d h).met = s.met := rfl
@[simp] theorem State.setHp_cal (s : State) (d : Nat) (h : HostPort) : (s.setHp d h).cal = s.cal := rfl
@[simp] theorem State.setHp_ckg (s : State) (d : Nat) (h : HostPort) : (s.setHp d h).ckg = s.ckg := rfl
@[simp] theorem State.setHp_csw (s : State) (d : Nat) (h : HostPort) : (s.setHp d h).csw = s.csw := rfl
@[simp] theorem State.setHp_lcs (s : State) (d : Nat) (h : HostPort) : (s.setHp d h).lcs = s.lcs := rfl
@[simp] theorem State.setHp_therm (s : State) (d : Nat) (h : HostPort) : (s.setHp d h).therm = s.therm := rfl
@[simp] theorem State.setHp_free (s : State) (d : Nat) (h : HostPort) : (s.setHp d h).free = s.free := rfl
@[simp] theorem State.setHp_out (s : State) (d : Nat) (h : HostPort) : (s.setHp d h).out = s.out := rfl
@[simp] theorem State.setHp_resp (s : State) (d : Nat) (h : HostPort) : (s.setHp d h).resp = s.resp := rfl
@[simp] theorem State.setHp_pending (s : State) (d : Nat) (h : HostPort) : (s.setHp d h).pending = s.pending := rfl

@[simp] theorem State.begin_out (s : State) : s.begin.out = [] := rfl
@[simp] theorem State.begin_resp (s : State) : s.begin.resp = none := rfl
@[simp] theorem State.emit_out (s : State) (o : Out) : (s.emit o).out = s.out ++ [o] := rfl
@[simp] theorem State.reply_resp (s : State) (r : Resp) : (s.reply r).resp = some r := rfl
@[simp] theorem State.begin_begin (s : State) : s.begin.begin = s.begin := rfl
@[simp] theorem State.draw_fst (s : State) : s.draw.1 = s.free := rfl
@[simp] theorem State.draw_free (s : State) : s.draw.2.free = s.free + 1 := rfl

@[simp] theorem State.draw_now (s : State) : s.draw.2.now = s.now := rfl
@[simp] theorem State.draw_regs (s : State) : s.draw.2.regs = s.regs := rfl
@[simp] theorem State.draw_hiLatch (s : State) : s.draw.2.hiLatch = s.hiLatch := rfl
@[simp] theorem State.draw_hiStage (s : State) : s.draw.2.hiStage = s.hiStage := rfl
@[simp] theorem State.draw_nv (s : State) : s.draw.2.nv = s.nv := rfl
@[simp] theorem State.draw_mode (s : State) : s.draw.2.mode = s.mode := rfl
@[simp] theorem State.draw_plan (s : State) : s.draw.2.plan = s.plan := rfl
@[simp] theorem State.draw_tpl (s : State) : s.draw.2.tpl = s.tpl := rfl
@[simp] theorem State.draw_hist (s : State) : s.draw.2.hist = s.hist := rfl
@[simp] theorem State.draw_lot (s : State) : s.draw.2.lot = s.lot := rfl
@[simp] theorem State.draw_mem (s : State) : s.draw.2.mem = s.mem := rfl
@[simp] theorem State.draw_err (s : State) : s.draw.2.err = s.err := rfl
@[simp] theorem State.draw_pmc (s : State) : s.draw.2.pmc = s.pmc := rfl
@[simp] theorem State.draw_que (s : State) : s.draw.2.que = s.que := rfl
@[simp] theorem State.draw_host (s : State) : s.draw.2.host = s.host := rfl
@[simp] theorem State.draw_rings (s : State) : s.draw.2.rings = s.rings := rfl
@[simp] theorem State.draw_dma (s : State) : s.draw.2.dma = s.dma := rfl
@[simp] theorem State.draw_xng (s : State) : s.draw.2.xng = s.xng := rfl
@[simp] theorem State.draw_ports (s : State) : s.draw.2.ports = s.ports := rfl
@[simp] theorem State.draw_ing (s : State) : s.draw.2.ing = s.ing := rfl
@[simp] theorem State.draw_plz (s : State) : s.draw.2.plz = s.plz := rfl
@[simp] theorem State.draw_wit (s : State) : s.draw.2.wit = s.wit := rfl
@[simp] theorem State.draw_blv (s : State) : s.draw.2.blv = s.blv := rfl
@[simp] theorem State.draw_ave (s : State) : s.draw.2.ave = s.ave := rfl
@[simp] theorem State.draw_lms (s : State) : s.draw.2.lms = s.lms := rfl
@[simp] theorem State.draw_clt (s : State) : s.draw.2.clt = s.clt := rfl
@[simp] theorem State.draw_fxe (s : State) : s.draw.2.fxe = s.fxe := rfl
@[simp] theorem State.draw_sch (s : State) : s.draw.2.sch = s.sch := rfl
@[simp] theorem State.draw_krb (s : State) : s.draw.2.krb = s.krb := rfl
@[simp] theorem State.draw_met (s : State) : s.draw.2.met = s.met := rfl
@[simp] theorem State.draw_cal (s : State) : s.draw.2.cal = s.cal := rfl
@[simp] theorem State.draw_ckg (s : State) : s.draw.2.ckg = s.ckg := rfl
@[simp] theorem State.draw_csw (s : State) : s.draw.2.csw = s.csw := rfl
@[simp] theorem State.draw_lcs (s : State) : s.draw.2.lcs = s.lcs := rfl
@[simp] theorem State.draw_therm (s : State) : s.draw.2.therm = s.therm := rfl
@[simp] theorem State.draw_out (s : State) : s.draw.2.out = s.out := rfl
@[simp] theorem State.draw_resp (s : State) : s.draw.2.resp = s.resp := rfl
@[simp] theorem State.draw_pending (s : State) : s.draw.2.pending = s.pending := rfl

@[simp] theorem State.count_now (s : State) (b i e n : Nat) : (s.count b i e n).now = s.now := by unfold State.count; split <;> rfl
@[simp] theorem State.count_regs (s : State) (b i e n : Nat) : (s.count b i e n).regs = s.regs := by unfold State.count; split <;> rfl
@[simp] theorem State.count_hiLatch (s : State) (b i e n : Nat) : (s.count b i e n).hiLatch = s.hiLatch := by unfold State.count; split <;> rfl
@[simp] theorem State.count_hiStage (s : State) (b i e n : Nat) : (s.count b i e n).hiStage = s.hiStage := by unfold State.count; split <;> rfl
@[simp] theorem State.count_nv (s : State) (b i e n : Nat) : (s.count b i e n).nv = s.nv := by unfold State.count; split <;> rfl
@[simp] theorem State.count_mode (s : State) (b i e n : Nat) : (s.count b i e n).mode = s.mode := by unfold State.count; split <;> rfl
@[simp] theorem State.count_plan (s : State) (b i e n : Nat) : (s.count b i e n).plan = s.plan := by unfold State.count; split <;> rfl
@[simp] theorem State.count_tpl (s : State) (b i e n : Nat) : (s.count b i e n).tpl = s.tpl := by unfold State.count; split <;> rfl
@[simp] theorem State.count_hist (s : State) (b i e n : Nat) : (s.count b i e n).hist = s.hist := by unfold State.count; split <;> rfl
@[simp] theorem State.count_lot (s : State) (b i e n : Nat) : (s.count b i e n).lot = s.lot := by unfold State.count; split <;> rfl
@[simp] theorem State.count_mem (s : State) (b i e n : Nat) : (s.count b i e n).mem = s.mem := by unfold State.count; split <;> rfl
@[simp] theorem State.count_err (s : State) (b i e n : Nat) : (s.count b i e n).err = s.err := by unfold State.count; split <;> rfl
@[simp] theorem State.count_que (s : State) (b i e n : Nat) : (s.count b i e n).que = s.que := by unfold State.count; split <;> rfl
@[simp] theorem State.count_host (s : State) (b i e n : Nat) : (s.count b i e n).host = s.host := by unfold State.count; split <;> rfl
@[simp] theorem State.count_rings (s : State) (b i e n : Nat) : (s.count b i e n).rings = s.rings := by unfold State.count; split <;> rfl
@[simp] theorem State.count_dma (s : State) (b i e n : Nat) : (s.count b i e n).dma = s.dma := by unfold State.count; split <;> rfl
@[simp] theorem State.count_xng (s : State) (b i e n : Nat) : (s.count b i e n).xng = s.xng := by unfold State.count; split <;> rfl
@[simp] theorem State.count_ports (s : State) (b i e n : Nat) : (s.count b i e n).ports = s.ports := by unfold State.count; split <;> rfl
@[simp] theorem State.count_ing (s : State) (b i e n : Nat) : (s.count b i e n).ing = s.ing := by unfold State.count; split <;> rfl
@[simp] theorem State.count_plz (s : State) (b i e n : Nat) : (s.count b i e n).plz = s.plz := by unfold State.count; split <;> rfl
@[simp] theorem State.count_wit (s : State) (b i e n : Nat) : (s.count b i e n).wit = s.wit := by unfold State.count; split <;> rfl
@[simp] theorem State.count_blv (s : State) (b i e n : Nat) : (s.count b i e n).blv = s.blv := by unfold State.count; split <;> rfl
@[simp] theorem State.count_ave (s : State) (b i e n : Nat) : (s.count b i e n).ave = s.ave := by unfold State.count; split <;> rfl
@[simp] theorem State.count_lms (s : State) (b i e n : Nat) : (s.count b i e n).lms = s.lms := by unfold State.count; split <;> rfl
@[simp] theorem State.count_clt (s : State) (b i e n : Nat) : (s.count b i e n).clt = s.clt := by unfold State.count; split <;> rfl
@[simp] theorem State.count_fxe (s : State) (b i e n : Nat) : (s.count b i e n).fxe = s.fxe := by unfold State.count; split <;> rfl
@[simp] theorem State.count_sch (s : State) (b i e n : Nat) : (s.count b i e n).sch = s.sch := by unfold State.count; split <;> rfl
@[simp] theorem State.count_krb (s : State) (b i e n : Nat) : (s.count b i e n).krb = s.krb := by unfold State.count; split <;> rfl
@[simp] theorem State.count_met (s : State) (b i e n : Nat) : (s.count b i e n).met = s.met := by unfold State.count; split <;> rfl
@[simp] theorem State.count_cal (s : State) (b i e n : Nat) : (s.count b i e n).cal = s.cal := by unfold State.count; split <;> rfl
@[simp] theorem State.count_ckg (s : State) (b i e n : Nat) : (s.count b i e n).ckg = s.ckg := by unfold State.count; split <;> rfl
@[simp] theorem State.count_csw (s : State) (b i e n : Nat) : (s.count b i e n).csw = s.csw := by unfold State.count; split <;> rfl
@[simp] theorem State.count_lcs (s : State) (b i e n : Nat) : (s.count b i e n).lcs = s.lcs := by unfold State.count; split <;> rfl
@[simp] theorem State.count_therm (s : State) (b i e n : Nat) : (s.count b i e n).therm = s.therm := by unfold State.count; split <;> rfl
@[simp] theorem State.count_free (s : State) (b i e n : Nat) : (s.count b i e n).free = s.free := by unfold State.count; split <;> rfl
@[simp] theorem State.count_out (s : State) (b i e n : Nat) : (s.count b i e n).out = s.out := by unfold State.count; split <;> rfl
@[simp] theorem State.count_resp (s : State) (b i e n : Nat) : (s.count b i e n).resp = s.resp := by unfold State.count; split <;> rfl
@[simp] theorem State.count_pending (s : State) (b i e n : Nat) : (s.count b i e n).pending = s.pending := by unfold State.count; split <;> rfl

@[simp] theorem State.sendMsix_now (s : State) (d v : Nat) : (s.sendMsix d v).now = s.now := rfl
@[simp] theorem State.sendMsix_regs (s : State) (d v : Nat) : (s.sendMsix d v).regs = s.regs := rfl
@[simp] theorem State.sendMsix_hiLatch (s : State) (d v : Nat) : (s.sendMsix d v).hiLatch = s.hiLatch := rfl
@[simp] theorem State.sendMsix_hiStage (s : State) (d v : Nat) : (s.sendMsix d v).hiStage = s.hiStage := rfl
@[simp] theorem State.sendMsix_nv (s : State) (d v : Nat) : (s.sendMsix d v).nv = s.nv := rfl
@[simp] theorem State.sendMsix_mode (s : State) (d v : Nat) : (s.sendMsix d v).mode = s.mode := rfl
@[simp] theorem State.sendMsix_plan (s : State) (d v : Nat) : (s.sendMsix d v).plan = s.plan := rfl
@[simp] theorem State.sendMsix_tpl (s : State) (d v : Nat) : (s.sendMsix d v).tpl = s.tpl := rfl
@[simp] theorem State.sendMsix_hist (s : State) (d v : Nat) : (s.sendMsix d v).hist = s.hist := rfl
@[simp] theorem State.sendMsix_lot (s : State) (d v : Nat) : (s.sendMsix d v).lot = s.lot := rfl
@[simp] theorem State.sendMsix_mem (s : State) (d v : Nat) : (s.sendMsix d v).mem = s.mem := rfl
@[simp] theorem State.sendMsix_err (s : State) (d v : Nat) : (s.sendMsix d v).err = s.err := rfl
@[simp] theorem State.sendMsix_pmc (s : State) (d v : Nat) : (s.sendMsix d v).pmc = s.pmc := rfl
@[simp] theorem State.sendMsix_que (s : State) (d v : Nat) : (s.sendMsix d v).que = s.que := rfl
@[simp] theorem State.sendMsix_rings (s : State) (d v : Nat) : (s.sendMsix d v).rings = s.rings := rfl
@[simp] theorem State.sendMsix_dma (s : State) (d v : Nat) : (s.sendMsix d v).dma = s.dma := rfl
@[simp] theorem State.sendMsix_xng (s : State) (d v : Nat) : (s.sendMsix d v).xng = s.xng := rfl
@[simp] theorem State.sendMsix_ports (s : State) (d v : Nat) : (s.sendMsix d v).ports = s.ports := rfl
@[simp] theorem State.sendMsix_ing (s : State) (d v : Nat) : (s.sendMsix d v).ing = s.ing := rfl
@[simp] theorem State.sendMsix_plz (s : State) (d v : Nat) : (s.sendMsix d v).plz = s.plz := rfl
@[simp] theorem State.sendMsix_wit (s : State) (d v : Nat) : (s.sendMsix d v).wit = s.wit := rfl
@[simp] theorem State.sendMsix_blv (s : State) (d v : Nat) : (s.sendMsix d v).blv = s.blv := rfl
@[simp] theorem State.sendMsix_ave (s : State) (d v : Nat) : (s.sendMsix d v).ave = s.ave := rfl
@[simp] theorem State.sendMsix_lms (s : State) (d v : Nat) : (s.sendMsix d v).lms = s.lms := rfl
@[simp] theorem State.sendMsix_clt (s : State) (d v : Nat) : (s.sendMsix d v).clt = s.clt := rfl
@[simp] theorem State.sendMsix_fxe (s : State) (d v : Nat) : (s.sendMsix d v).fxe = s.fxe := rfl
@[simp] theorem State.sendMsix_sch (s : State) (d v : Nat) : (s.sendMsix d v).sch = s.sch := rfl
@[simp] theorem State.sendMsix_krb (s : State) (d v : Nat) : (s.sendMsix d v).krb = s.krb := rfl
@[simp] theorem State.sendMsix_met (s : State) (d v : Nat) : (s.sendMsix d v).met = s.met := rfl
@[simp] theorem State.sendMsix_cal (s : State) (d v : Nat) : (s.sendMsix d v).cal = s.cal := rfl
@[simp] theorem State.sendMsix_ckg (s : State) (d v : Nat) : (s.sendMsix d v).ckg = s.ckg := rfl
@[simp] theorem State.sendMsix_csw (s : State) (d v : Nat) : (s.sendMsix d v).csw = s.csw := rfl
@[simp] theorem State.sendMsix_lcs (s : State) (d v : Nat) : (s.sendMsix d v).lcs = s.lcs := rfl
@[simp] theorem State.sendMsix_therm (s : State) (d v : Nat) : (s.sendMsix d v).therm = s.therm := rfl
@[simp] theorem State.sendMsix_free (s : State) (d v : Nat) : (s.sendMsix d v).free = s.free := rfl
@[simp] theorem State.sendMsix_resp (s : State) (d v : Nat) : (s.sendMsix d v).resp = s.resp := rfl
@[simp] theorem State.sendMsix_pending (s : State) (d v : Nat) : (s.sendMsix d v).pending = s.pending := rfl

@[simp] theorem State.raiseVec_now (s : State) (d v : Nat) : (s.raiseVec d v).now = s.now := by
  simp only [State.raiseVec]; repeat' split
  all_goals rfl
@[simp] theorem State.raiseVec_hiLatch (s : State) (d v : Nat) : (s.raiseVec d v).hiLatch = s.hiLatch := by
  simp only [State.raiseVec]; repeat' split
  all_goals rfl
@[simp] theorem State.raiseVec_hiStage (s : State) (d v : Nat) : (s.raiseVec d v).hiStage = s.hiStage := by
  simp only [State.raiseVec]; repeat' split
  all_goals rfl
@[simp] theorem State.raiseVec_nv (s : State) (d v : Nat) : (s.raiseVec d v).nv = s.nv := by
  simp only [State.raiseVec]; repeat' split
  all_goals rfl
@[simp] theorem State.raiseVec_mode (s : State) (d v : Nat) : (s.raiseVec d v).mode = s.mode := by
  simp only [State.raiseVec]; repeat' split
  all_goals rfl
@[simp] theorem State.raiseVec_plan (s : State) (d v : Nat) : (s.raiseVec d v).plan = s.plan := by
  simp only [State.raiseVec]; repeat' split
  all_goals rfl
@[simp] theorem State.raiseVec_tpl (s : State) (d v : Nat) : (s.raiseVec d v).tpl = s.tpl := by
  simp only [State.raiseVec]; repeat' split
  all_goals rfl
@[simp] theorem State.raiseVec_hist (s : State) (d v : Nat) : (s.raiseVec d v).hist = s.hist := by
  simp only [State.raiseVec]; repeat' split
  all_goals rfl
@[simp] theorem State.raiseVec_lot (s : State) (d v : Nat) : (s.raiseVec d v).lot = s.lot := by
  simp only [State.raiseVec]; repeat' split
  all_goals rfl
@[simp] theorem State.raiseVec_mem (s : State) (d v : Nat) : (s.raiseVec d v).mem = s.mem := by
  simp only [State.raiseVec]; repeat' split
  all_goals rfl
@[simp] theorem State.raiseVec_err (s : State) (d v : Nat) : (s.raiseVec d v).err = s.err := by
  simp only [State.raiseVec]; repeat' split
  all_goals rfl
@[simp] theorem State.raiseVec_pmc (s : State) (d v : Nat) : (s.raiseVec d v).pmc = s.pmc := by
  simp only [State.raiseVec]; repeat' split
  all_goals rfl
@[simp] theorem State.raiseVec_que (s : State) (d v : Nat) : (s.raiseVec d v).que = s.que := by
  simp only [State.raiseVec]; repeat' split
  all_goals rfl
@[simp] theorem State.raiseVec_rings (s : State) (d v : Nat) : (s.raiseVec d v).rings = s.rings := by
  simp only [State.raiseVec]; repeat' split
  all_goals rfl
@[simp] theorem State.raiseVec_dma (s : State) (d v : Nat) : (s.raiseVec d v).dma = s.dma := by
  simp only [State.raiseVec]; repeat' split
  all_goals rfl
@[simp] theorem State.raiseVec_xng (s : State) (d v : Nat) : (s.raiseVec d v).xng = s.xng := by
  simp only [State.raiseVec]; repeat' split
  all_goals rfl
@[simp] theorem State.raiseVec_ports (s : State) (d v : Nat) : (s.raiseVec d v).ports = s.ports := by
  simp only [State.raiseVec]; repeat' split
  all_goals rfl
@[simp] theorem State.raiseVec_ing (s : State) (d v : Nat) : (s.raiseVec d v).ing = s.ing := by
  simp only [State.raiseVec]; repeat' split
  all_goals rfl
@[simp] theorem State.raiseVec_plz (s : State) (d v : Nat) : (s.raiseVec d v).plz = s.plz := by
  simp only [State.raiseVec]; repeat' split
  all_goals rfl
@[simp] theorem State.raiseVec_wit (s : State) (d v : Nat) : (s.raiseVec d v).wit = s.wit := by
  simp only [State.raiseVec]; repeat' split
  all_goals rfl
@[simp] theorem State.raiseVec_blv (s : State) (d v : Nat) : (s.raiseVec d v).blv = s.blv := by
  simp only [State.raiseVec]; repeat' split
  all_goals rfl
@[simp] theorem State.raiseVec_ave (s : State) (d v : Nat) : (s.raiseVec d v).ave = s.ave := by
  simp only [State.raiseVec]; repeat' split
  all_goals rfl
@[simp] theorem State.raiseVec_lms (s : State) (d v : Nat) : (s.raiseVec d v).lms = s.lms := by
  simp only [State.raiseVec]; repeat' split
  all_goals rfl
@[simp] theorem State.raiseVec_clt (s : State) (d v : Nat) : (s.raiseVec d v).clt = s.clt := by
  simp only [State.raiseVec]; repeat' split
  all_goals rfl
@[simp] theorem State.raiseVec_fxe (s : State) (d v : Nat) : (s.raiseVec d v).fxe = s.fxe := by
  simp only [State.raiseVec]; repeat' split
  all_goals rfl
@[simp] theorem State.raiseVec_sch (s : State) (d v : Nat) : (s.raiseVec d v).sch = s.sch := by
  simp only [State.raiseVec]; repeat' split
  all_goals rfl
@[simp] theorem State.raiseVec_krb (s : State) (d v : Nat) : (s.raiseVec d v).krb = s.krb := by
  simp only [State.raiseVec]; repeat' split
  all_goals rfl
@[simp] theorem State.raiseVec_met (s : State) (d v : Nat) : (s.raiseVec d v).met = s.met := by
  simp only [State.raiseVec]; repeat' split
  all_goals rfl
@[simp] theorem State.raiseVec_cal (s : State) (d v : Nat) : (s.raiseVec d v).cal = s.cal := by
  simp only [State.raiseVec]; repeat' split
  all_goals rfl
@[simp] theorem State.raiseVec_ckg (s : State) (d v : Nat) : (s.raiseVec d v).ckg = s.ckg := by
  simp only [State.raiseVec]; repeat' split
  all_goals rfl
@[simp] theorem State.raiseVec_csw (s : State) (d v : Nat) : (s.raiseVec d v).csw = s.csw := by
  simp only [State.raiseVec]; repeat' split
  all_goals rfl
@[simp] theorem State.raiseVec_lcs (s : State) (d v : Nat) : (s.raiseVec d v).lcs = s.lcs := by
  simp only [State.raiseVec]; repeat' split
  all_goals rfl
@[simp] theorem State.raiseVec_therm (s : State) (d v : Nat) : (s.raiseVec d v).therm = s.therm := by
  simp only [State.raiseVec]; repeat' split
  all_goals rfl
@[simp] theorem State.raiseVec_free (s : State) (d v : Nat) : (s.raiseVec d v).free = s.free := by
  simp only [State.raiseVec]; repeat' split
  all_goals rfl
@[simp] theorem State.raiseVec_resp (s : State) (d v : Nat) : (s.raiseVec d v).resp = s.resp := by
  simp only [State.raiseVec]; repeat' split
  all_goals rfl
@[simp] theorem State.raiseVec_pending (s : State) (d v : Nat) : (s.raiseVec d v).pending = s.pending := by
  simp only [State.raiseVec]; repeat' split
  all_goals rfl

@[simp] theorem State.raise_now (s : State) (d v b : Nat) : (s.raise d v b).now = s.now := by
  simp only [State.raise]; repeat' split
  all_goals simp
@[simp] theorem State.raise_hiLatch (s : State) (d v b : Nat) : (s.raise d v b).hiLatch = s.hiLatch := by
  simp only [State.raise]; repeat' split
  all_goals simp
@[simp] theorem State.raise_hiStage (s : State) (d v b : Nat) : (s.raise d v b).hiStage = s.hiStage := by
  simp only [State.raise]; repeat' split
  all_goals simp
@[simp] theorem State.raise_nv (s : State) (d v b : Nat) : (s.raise d v b).nv = s.nv := by
  simp only [State.raise]; repeat' split
  all_goals simp
@[simp] theorem State.raise_mode (s : State) (d v b : Nat) : (s.raise d v b).mode = s.mode := by
  simp only [State.raise]; repeat' split
  all_goals simp
@[simp] theorem State.raise_plan (s : State) (d v b : Nat) : (s.raise d v b).plan = s.plan := by
  simp only [State.raise]; repeat' split
  all_goals simp
@[simp] theorem State.raise_tpl (s : State) (d v b : Nat) : (s.raise d v b).tpl = s.tpl := by
  simp only [State.raise]; repeat' split
  all_goals simp
@[simp] theorem State.raise_hist (s : State) (d v b : Nat) : (s.raise d v b).hist = s.hist := by
  simp only [State.raise]; repeat' split
  all_goals simp
@[simp] theorem State.raise_lot (s : State) (d v b : Nat) : (s.raise d v b).lot = s.lot := by
  simp only [State.raise]; repeat' split
  all_goals simp
@[simp] theorem State.raise_mem (s : State) (d v b : Nat) : (s.raise d v b).mem = s.mem := by
  simp only [State.raise]; repeat' split
  all_goals simp
@[simp] theorem State.raise_err (s : State) (d v b : Nat) : (s.raise d v b).err = s.err := by
  simp only [State.raise]; repeat' split
  all_goals simp
@[simp] theorem State.raise_pmc (s : State) (d v b : Nat) : (s.raise d v b).pmc = s.pmc := by
  simp only [State.raise]; repeat' split
  all_goals simp
@[simp] theorem State.raise_que (s : State) (d v b : Nat) : (s.raise d v b).que = s.que := by
  simp only [State.raise]; repeat' split
  all_goals simp
@[simp] theorem State.raise_rings (s : State) (d v b : Nat) : (s.raise d v b).rings = s.rings := by
  simp only [State.raise]; repeat' split
  all_goals simp
@[simp] theorem State.raise_dma (s : State) (d v b : Nat) : (s.raise d v b).dma = s.dma := by
  simp only [State.raise]; repeat' split
  all_goals simp
@[simp] theorem State.raise_xng (s : State) (d v b : Nat) : (s.raise d v b).xng = s.xng := by
  simp only [State.raise]; repeat' split
  all_goals simp
@[simp] theorem State.raise_ports (s : State) (d v b : Nat) : (s.raise d v b).ports = s.ports := by
  simp only [State.raise]; repeat' split
  all_goals simp
@[simp] theorem State.raise_ing (s : State) (d v b : Nat) : (s.raise d v b).ing = s.ing := by
  simp only [State.raise]; repeat' split
  all_goals simp
@[simp] theorem State.raise_plz (s : State) (d v b : Nat) : (s.raise d v b).plz = s.plz := by
  simp only [State.raise]; repeat' split
  all_goals simp
@[simp] theorem State.raise_wit (s : State) (d v b : Nat) : (s.raise d v b).wit = s.wit := by
  simp only [State.raise]; repeat' split
  all_goals simp
@[simp] theorem State.raise_blv (s : State) (d v b : Nat) : (s.raise d v b).blv = s.blv := by
  simp only [State.raise]; repeat' split
  all_goals simp
@[simp] theorem State.raise_ave (s : State) (d v b : Nat) : (s.raise d v b).ave = s.ave := by
  simp only [State.raise]; repeat' split
  all_goals simp
@[simp] theorem State.raise_lms (s : State) (d v b : Nat) : (s.raise d v b).lms = s.lms := by
  simp only [State.raise]; repeat' split
  all_goals simp
@[simp] theorem State.raise_clt (s : State) (d v b : Nat) : (s.raise d v b).clt = s.clt := by
  simp only [State.raise]; repeat' split
  all_goals simp
@[simp] theorem State.raise_fxe (s : State) (d v b : Nat) : (s.raise d v b).fxe = s.fxe := by
  simp only [State.raise]; repeat' split
  all_goals simp
@[simp] theorem State.raise_sch (s : State) (d v b : Nat) : (s.raise d v b).sch = s.sch := by
  simp only [State.raise]; repeat' split
  all_goals simp
@[simp] theorem State.raise_krb (s : State) (d v b : Nat) : (s.raise d v b).krb = s.krb := by
  simp only [State.raise]; repeat' split
  all_goals simp
@[simp] theorem State.raise_met (s : State) (d v b : Nat) : (s.raise d v b).met = s.met := by
  simp only [State.raise]; repeat' split
  all_goals simp
@[simp] theorem State.raise_cal (s : State) (d v b : Nat) : (s.raise d v b).cal = s.cal := by
  simp only [State.raise]; repeat' split
  all_goals simp
@[simp] theorem State.raise_ckg (s : State) (d v b : Nat) : (s.raise d v b).ckg = s.ckg := by
  simp only [State.raise]; repeat' split
  all_goals simp
@[simp] theorem State.raise_csw (s : State) (d v b : Nat) : (s.raise d v b).csw = s.csw := by
  simp only [State.raise]; repeat' split
  all_goals simp
@[simp] theorem State.raise_lcs (s : State) (d v b : Nat) : (s.raise d v b).lcs = s.lcs := by
  simp only [State.raise]; repeat' split
  all_goals simp
@[simp] theorem State.raise_therm (s : State) (d v b : Nat) : (s.raise d v b).therm = s.therm := by
  simp only [State.raise]; repeat' split
  all_goals simp
@[simp] theorem State.raise_free (s : State) (d v b : Nat) : (s.raise d v b).free = s.free := by
  simp only [State.raise]; repeat' split
  all_goals simp
@[simp] theorem State.raise_resp (s : State) (d v b : Nat) : (s.raise d v b).resp = s.resp := by
  simp only [State.raise]; repeat' split
  all_goals simp
@[simp] theorem State.raise_pending (s : State) (d v b : Nat) : (s.raise d v b).pending = s.pending := by
  simp only [State.raise]; repeat' split
  all_goals simp

@[simp] theorem State.report_now (s : State) (r : ErrRec) : (s.report r).now = s.now := by
  simp only [State.report]; repeat' split
  all_goals simp
@[simp] theorem State.report_regs (s : State) (r : ErrRec) : (s.report r).regs = s.regs := by
  simp only [State.report]; repeat' split
  all_goals simp
@[simp] theorem State.report_hiLatch (s : State) (r : ErrRec) : (s.report r).hiLatch = s.hiLatch := by
  simp only [State.report]; repeat' split
  all_goals simp
@[simp] theorem State.report_hiStage (s : State) (r : ErrRec) : (s.report r).hiStage = s.hiStage := by
  simp only [State.report]; repeat' split
  all_goals simp
@[simp] theorem State.report_nv (s : State) (r : ErrRec) : (s.report r).nv = s.nv := by
  simp only [State.report]; repeat' split
  all_goals simp
@[simp] theorem State.report_mode (s : State) (r : ErrRec) : (s.report r).mode = s.mode := by
  simp only [State.report]; repeat' split
  all_goals simp
@[simp] theorem State.report_plan (s : State) (r : ErrRec) : (s.report r).plan = s.plan := by
  simp only [State.report]; repeat' split
  all_goals simp
@[simp] theorem State.report_tpl (s : State) (r : ErrRec) : (s.report r).tpl = s.tpl := by
  simp only [State.report]; repeat' split
  all_goals simp
@[simp] theorem State.report_hist (s : State) (r : ErrRec) : (s.report r).hist = s.hist := by
  simp only [State.report]; repeat' split
  all_goals simp
@[simp] theorem State.report_lot (s : State) (r : ErrRec) : (s.report r).lot = s.lot := by
  simp only [State.report]; repeat' split
  all_goals simp
@[simp] theorem State.report_mem (s : State) (r : ErrRec) : (s.report r).mem = s.mem := by
  simp only [State.report]; repeat' split
  all_goals simp
@[simp] theorem State.report_que (s : State) (r : ErrRec) : (s.report r).que = s.que := by
  simp only [State.report]; repeat' split
  all_goals simp
@[simp] theorem State.report_host (s : State) (r : ErrRec) : (s.report r).host = s.host := by
  simp only [State.report]; repeat' split
  all_goals simp
@[simp] theorem State.report_rings (s : State) (r : ErrRec) : (s.report r).rings = s.rings := by
  simp only [State.report]; repeat' split
  all_goals simp
@[simp] theorem State.report_dma (s : State) (r : ErrRec) : (s.report r).dma = s.dma := by
  simp only [State.report]; repeat' split
  all_goals simp
@[simp] theorem State.report_xng (s : State) (r : ErrRec) : (s.report r).xng = s.xng := by
  simp only [State.report]; repeat' split
  all_goals simp
@[simp] theorem State.report_ports (s : State) (r : ErrRec) : (s.report r).ports = s.ports := by
  simp only [State.report]; repeat' split
  all_goals simp
@[simp] theorem State.report_ing (s : State) (r : ErrRec) : (s.report r).ing = s.ing := by
  simp only [State.report]; repeat' split
  all_goals simp
@[simp] theorem State.report_plz (s : State) (r : ErrRec) : (s.report r).plz = s.plz := by
  simp only [State.report]; repeat' split
  all_goals simp
@[simp] theorem State.report_wit (s : State) (r : ErrRec) : (s.report r).wit = s.wit := by
  simp only [State.report]; repeat' split
  all_goals simp
@[simp] theorem State.report_blv (s : State) (r : ErrRec) : (s.report r).blv = s.blv := by
  simp only [State.report]; repeat' split
  all_goals simp
@[simp] theorem State.report_ave (s : State) (r : ErrRec) : (s.report r).ave = s.ave := by
  simp only [State.report]; repeat' split
  all_goals simp
@[simp] theorem State.report_lms (s : State) (r : ErrRec) : (s.report r).lms = s.lms := by
  simp only [State.report]; repeat' split
  all_goals simp
@[simp] theorem State.report_clt (s : State) (r : ErrRec) : (s.report r).clt = s.clt := by
  simp only [State.report]; repeat' split
  all_goals simp
@[simp] theorem State.report_fxe (s : State) (r : ErrRec) : (s.report r).fxe = s.fxe := by
  simp only [State.report]; repeat' split
  all_goals simp
@[simp] theorem State.report_sch (s : State) (r : ErrRec) : (s.report r).sch = s.sch := by
  simp only [State.report]; repeat' split
  all_goals simp
@[simp] theorem State.report_krb (s : State) (r : ErrRec) : (s.report r).krb = s.krb := by
  simp only [State.report]; repeat' split
  all_goals simp
@[simp] theorem State.report_met (s : State) (r : ErrRec) : (s.report r).met = s.met := by
  simp only [State.report]; repeat' split
  all_goals simp
@[simp] theorem State.report_cal (s : State) (r : ErrRec) : (s.report r).cal = s.cal := by
  simp only [State.report]; repeat' split
  all_goals simp
@[simp] theorem State.report_ckg (s : State) (r : ErrRec) : (s.report r).ckg = s.ckg := by
  simp only [State.report]; repeat' split
  all_goals simp
@[simp] theorem State.report_lcs (s : State) (r : ErrRec) : (s.report r).lcs = s.lcs := by
  simp only [State.report]; repeat' split
  all_goals simp
@[simp] theorem State.report_therm (s : State) (r : ErrRec) : (s.report r).therm = s.therm := by
  simp only [State.report]; repeat' split
  all_goals simp
@[simp] theorem State.report_free (s : State) (r : ErrRec) : (s.report r).free = s.free := by
  simp only [State.report]; repeat' split
  all_goals simp
@[simp] theorem State.report_out (s : State) (r : ErrRec) : (s.report r).out = s.out := by
  simp only [State.report]; repeat' split
  all_goals simp
@[simp] theorem State.report_resp (s : State) (r : ErrRec) : (s.report r).resp = s.resp := by
  simp only [State.report]; repeat' split
  all_goals simp
@[simp] theorem State.report_pending (s : State) (r : ErrRec) : (s.report r).pending = s.pending := by
  simp only [State.report]; repeat' split
  all_goals simp

/-! ### Register words -/

/-- The word just written reads back. -/
@[simp] theorem State.rd_wr (s : State) (k : Nat) (v : Word32) : (s.wr k v).rd k = v := by
  simp [State.rd, State.wr]

/-- Every other word reads as before. -/
theorem State.rd_wr_ne (s : State) {k j : Nat} (v : Word32) (h : j ≠ k) : (s.wr k v).rd j = s.rd j := by
  simp [State.rd, State.wr, Tab.find_set_ne s.regs v h]

theorem State.rd_setF_ne (s : State) {k j : Nat} (lo w x : Nat) (h : j ≠ k) : (s.setF k lo w x).rd j = s.rd j :=
  s.rd_wr_ne _ h

theorem State.rd_bump_ne (s : State) {k j : Nat} (n : Nat) (h : j ≠ k) : (s.bump k n).rd j = s.rd j :=
  s.rd_wr_ne _ h

@[simp] theorem State.rd_bump (s : State) (k n : Nat) : (s.bump k n).rd k = s.rd k + w32 n := s.rd_wr k _
@[simp] theorem State.rd_begin (s : State) (k : Nat) : s.begin.rd k = s.rd k := rfl
@[simp] theorem State.rd_emit (s : State) (o : Out) (k : Nat) : (s.emit o).rd k = s.rd k := rfl
@[simp] theorem State.rd_reply (s : State) (r : Resp) (k : Nat) : (s.reply r).rd k = s.rd k := rfl
@[simp] theorem State.rd_count (s : State) (b i e n k : Nat) : (s.count b i e n).rd k = s.rd k := by
  simp [State.rd]
@[simp] theorem State.rd_report (s : State) (r : ErrRec) (k : Nat) : (s.report r).rd k = s.rd k := by
  simp [State.rd]

/-- An operation over a list leaves alone what each of its steps leaves alone. -/
theorem foldl_keeps {α β : Type} (g : State → β) (f : State → α → State) (h : ∀ s a, g (f s a) = g s) (l : List α)
    (s : State) : g (l.foldl f s) = g s := by
  induction l generalizing s with
  | nil => rfl
  | cons a l ih => exact (ih (f s a)).trans (h s a)

end Sys2Proof.Machine
end

