-- ==== Sys2Proof/Laws/Access.lean ====
section
/-! SUPPORT. What an access does: admitted it has its effect, otherwise it is turned away (R17, R23, R33, R34, R488). -/

namespace Sys2Proof.Machine

@[simp] theorem State.begin_arrives (s : State) (i : InitId) : s.begin.arrives i = s.arrives i := rfl
@[simp] theorem State.begin_granted (s : State) (d n : Nat) (w : Bool) : s.begin.granted d n w = s.granted d n w := rfl
@[simp] theorem State.begin_role (s : State) : s.begin.role = s.role := rfl
@[simp] theorem State.begin_mirrorLocked (s : State) (d : Nat) : s.begin.mirrorLocked d = s.mirrorLocked d := rfl
@[simp] theorem State.begin_frame (s : State) : s.begin.frame = s.frame := rfl
@[simp] theorem State.begin_pl (s : State) : s.begin.pl = s.pl := rfl
@[simp] theorem State.begin_auth (s : State) (p : Bool) (m : SysRec → Nat) (d : Nat) : s.begin.auth p m d = s.auth p m d := rfl
@[simp] theorem State.begin_fld (s : State) (k lo w : Nat) : s.begin.fld k lo w = s.fld k lo w := rfl
@[simp] theorem State.begin_bitOf (s : State) (k i : Nat) : s.begin.bitOf k i = s.bitOf k i := rfl

/-- An admitted access has its effect. -/
theorem State.access_admitted {s : State} {init : InitId} {n : Nat} {w : Bool} (h : Admits s init n w)
    (f : State → State) : s.access init n f w = f s := by
  obtain ⟨h1, h2, h3⟩ := h
  unfold State.access
  rw [h1, h2, h3]
  rfl

/-- An access that does not arrive has no effect. -/
theorem State.access_absent {s : State} {init : InitId} (h : s.arrives init = false) (n : Nat) (f : State → State)
    (w : Bool) : s.access init n f w = s := by
  unfold State.access
  rw [h]
  rfl

/-- An access to a block that is not granted is answered with Unsupported Request. -/
theorem State.access_foreign {s : State} {init : InitId} {n : Nat} {w : Bool} (h : s.arrives init = true)
    (hg : s.granted (distOf init) n w = false) (f : State → State) : s.access init n f w = s.reply .unsupported := by
  unfold State.access
  rw [h, hg]
  rfl

/-- In Reset no access arrives. -/
theorem State.arrives_reset {s : State} (h : s.mode.mode = .reset) (init : InitId) : s.arrives init = false := by
  unfold State.arrives
  rw [h]
  rfl

theorem distOf_core {init : InitId} (h : isCore init = true) : distOf init = houseDist := by
  have hn : init.toNat < 0x10 := by simpa [isCore] using h
  have h1 : ¬ (16 ≤ init.toNat) := by omega
  have h2 : ¬ (32 ≤ init.toNat) := by omega
  simp [distOf, isHost, h1, h2]

/-- A control core is admitted to every block out of Reset. -/
theorem State.house_admitted {s : State} {init : InitId} (h : ByHouse s init) (n : Nat) (w : Bool) :
    Admits s init n w := by
  obtain ⟨hc, hm⟩ := h
  have hn : init.toNat < 0x10 := by simpa [isCore] using hc
  have h1 : ¬ (16 ≤ init.toNat) := by omega
  refine ⟨?_, ?_, ?_⟩
  · simp [State.arrives, hc, hm]
  · simp [State.granted, distOf_core hc]
  · simp [isHost, h1]

theorem isHouse_core {init : InitId} (h : isCore init = true) : isHouse init = true := by
  simp [isHouse, distOf_core h]

end Sys2Proof.Machine
end

