-- ==== Sys2Proof/Laws/Bytes.lean ====
section
/-! SUPPORT. Byte strings and the numbers they write: lengths, and reading back what was written. -/

namespace Sys2Proof.Machine

@[simp] theorem leBytes_length (n v : Nat) : (leBytes n v).length = n := by
  induction n generalizing v with
  | zero => rfl
  | succ n ih => simp [leBytes, ih]

@[simp] theorem beBytes_length (n v : Nat) : (beBytes n v).length = n := by simp [beBytes]

theorem ofLe_leBytes (n v : Nat) : ofLe (leBytes n v) = v % 256 ^ n := by
  induction n generalizing v with
  | zero => simp [leBytes, ofLe, Nat.mod_one]
  | succ n ih =>
    have h : (b8 v).toNat = v % 256 := by simp [b8]
    rw [leBytes, ofLe, ih, h, Nat.pow_succ, Nat.mul_comm (256 ^ n), Nat.mod_mul]

theorem ofBe_beBytes (n v : Nat) : ofBe (beBytes n v) = v % 256 ^ n := by simp [ofBe, beBytes, ofLe_leBytes]

/-- A network-order field written after a prefix reads back. -/
theorem beAt_append (p q : List Byte) (n v : Nat) : beAt (p ++ (beBytes n v ++ q)) p.length n = v % 256 ^ n := by
  simp [beAt, slice, ofBe_beBytes]

end Sys2Proof.Machine
end

