-- ==== Sys2Proof/Laws/Fields.lean ====
section
/-! SUPPORT. Reading back register words and their fields (R10, R21). -/

namespace Sys2Proof.Machine

/-- A bit of the word with ones in one field. -/
theorem fieldMask_bit (lo w i : Nat) : (fieldMask lo w).getLsbD i = (decide (i < 32) && decide (lo ≤ i) && decide (i < lo + w)) := by
  simp only [fieldMask, BitVec.getLsbD_ofNat, Nat.testBit_shiftLeft, Nat.testBit_two_pow_sub_one, ge_iff_le]
  by_cases h1 : i < 32 <;> by_cases h2 : lo ≤ i <;> simp [h1, h2]
  omega

/-- A bit of the word after one field is set. -/
theorem putField_bit (v : Word32) (lo w x i : Nat) (hi : i < 32) :
    (putField v lo w x).getLsbD i = if lo ≤ i ∧ i < lo + w then x.testBit (i - lo) else v.getLsbD i := by
  have hm := fieldMask_bit lo w i
  simp only [putField, BitVec.getLsbD_or, BitVec.getLsbD_and, BitVec.getLsbD_not, BitVec.getLsbD_ofNat, hm,
    Nat.testBit_shiftLeft, Nat.testBit_mod_two_pow, ge_iff_le]
  by_cases h1 : lo ≤ i <;> by_cases h2 : i < lo + w
  · have h3 : i - lo < w := by omega
    simp [hi, h1, h2, h3]
  · have h3 : ¬ (i - lo < w) := by omega
    simp [hi, h1, h2, h3]
  · simp [hi, h1]
  · simp [hi, h1]

/-- A bit of a field. -/
theorem field_bit (v : Word32) (lo w j : Nat) : (field v lo w).testBit j = (decide (j < w) && v.getLsbD (lo + j)) := by
  simp [field, Nat.testBit_mod_two_pow, Nat.testBit_shiftRight, BitVec.getLsbD]

/-- The field just set holds the value set, modulo its range. -/
@[simp] theorem field_putField_same {v : Word32} {lo w x : Nat} (h : lo + w ≤ 32) :
    field (putField v lo w x) lo w = x % 2 ^ w := by
  apply Nat.eq_of_testBit_eq
  intro j
  rw [field_bit, Nat.testBit_mod_two_pow]
  by_cases hj : j < w
  · rw [putField_bit _ _ _ _ _ (by omega)]
    have : lo + j - lo = j := by omega
    simp [hj, this]
  · simp [hj]

/-- A field apart from the one set holds what it held. -/
theorem field_putField_ne {v : Word32} {lo w x lo' w' : Nat} (h : lo' + w' ≤ lo ∨ lo + w ≤ lo') :
    field (putField v lo w x) lo' w' = field v lo' w' := by
  apply Nat.eq_of_testBit_eq
  intro j
  rw [field_bit, field_bit]
  by_cases hj : j < w'
  · by_cases hi : lo' + j < 32
    · rw [putField_bit _ _ _ _ _ hi, if_neg (by omega)]
    · rw [BitVec.getLsbD_of_ge _ _ (by omega), BitVec.getLsbD_of_ge _ _ (by omega)]
  · simp [hj]

/-- A bit apart from the field set holds what it held. -/
theorem bit_putField_ne {v : Word32} {lo w x i : Nat} (h : i < lo ∨ lo + w ≤ i) :
    (putField v lo w x).getLsbD i = v.getLsbD i := by
  by_cases hi : i < 32
  · rw [putField_bit _ _ _ _ _ hi, if_neg (by omega)]
  · rw [BitVec.getLsbD_of_ge _ _ (by omega), BitVec.getLsbD_of_ge _ _ (by omega)]

/-! ### Register words -/

/-- The field just set reads the value set. -/
theorem State.fld_setF_same (s : State) {k lo w x : Nat} (h : lo + w ≤ 32) :
    (s.setF k lo w x).fld k lo w = x % 2 ^ w := by
  simp [State.fld, State.setF, h]

/-- A field of the same register apart from the one set reads what it read. -/
theorem State.fld_setF_apart (s : State) {k lo w x lo' w' : Nat} (h : lo' + w' ≤ lo ∨ lo + w ≤ lo') :
    (s.setF k lo w x).fld k lo' w' = s.fld k lo' w' := by
  simp [State.fld, State.setF, field_putField_ne h]

/-- A bit set to a truth value reads it. -/
theorem State.bitOf_setF_same (s : State) {k i : Nat} (b : Bool) (h : i < 32) : (s.setF k i 1 (bit b)).bitOf k i = b := by
  simp only [State.bitOf, State.setF, State.rd_wr]
  rw [putField_bit _ _ _ _ _ h, if_pos ⟨Nat.le_refl i, by omega⟩]
  cases b <;> simp [bit]

end Sys2Proof.Machine
end

