-- ==== Sys2Proof/Laws/Memory.lean ====
section
/-! SUPPORT. Memory: what a byte reads as after a write, and that every operation keeps the canonical form (R104). -/

namespace Sys2Proof.Machine

/-- All addresses of a memory lie above `a`. -/
abbrev Mem.above (a : Nat) (m : List Host.Cell) : Prop := ∀ c ∈ m, a < c.1

theorem Memory.wf_cons (a : Nat) (b : Byte) (m : List Host.Cell) :
    Memory.wf ((a, b) :: m) = true ↔ b ≠ 0 ∧ Mem.above a m ∧ Memory.wf m = true := by
  induction m generalizing a b with
  | nil => simp [Memory.wf, Mem.above]
  | cons c m ih =>
    obtain ⟨a', b'⟩ := c
    simp only [Memory.wf, Bool.and_eq_true, bne_iff_ne, ne_eq, decide_eq_true_eq, Mem.above, List.forall_mem_cons]
    rw [ih a' b']
    constructor
    · rintro ⟨⟨h1, h2⟩, h3, h4, h5⟩
      exact ⟨h1, ⟨h2, fun c hc => Nat.lt_trans h2 (h4 c hc)⟩, h3, h4, h5⟩
    · rintro ⟨h1, ⟨h2, _⟩, h3, h4, h5⟩
      exact ⟨⟨h1, h2⟩, h3, h4, h5⟩

theorem Mem.above_write {a a' : Nat} {b : Byte} {m : List Host.Cell} (h : Mem.above a m) (ha : a < a') :
    Mem.above a (Mem.write m a' b) := by
  induction m with
  | nil =>
    unfold Mem.write
    split
    · simp [Mem.above]
    · simpa [Mem.above] using ha
  | cons c m ih =>
    obtain ⟨k, v⟩ := c
    have hk : a < k := h (k, v) (by simp)
    have hm : Mem.above a m := fun c hc => h c (by simp [hc])
    unfold Mem.write
    split
    · split
      · exact hm
      · intro c hc
        rcases List.mem_cons.mp hc with rfl | hc
        · exact ha
        · exact hm c hc
    · split
      · split
        · exact h
        · intro c hc
          rcases List.mem_cons.mp hc with rfl | hc
          · exact ha
          · exact h c hc
      · intro c hc
        rcases List.mem_cons.mp hc with rfl | hc
        · exact hk
        · exact ih hm c hc

/-- A write of one byte keeps the canonical form. -/
theorem Memory.wf_write {m : List Host.Cell} (h : Memory.wf m = true) (a : Nat) (b : Byte) :
    Memory.wf (Mem.write m a b) = true := by
  induction m with
  | nil =>
    unfold Mem.write
    split
    · rfl
    · rename_i hb
      simpa [Memory.wf] using hb
  | cons c m ih =>
    obtain ⟨k, v⟩ := c
    obtain ⟨hv, hab, hm⟩ := (Memory.wf_cons k v m).mp h
    unfold Mem.write
    split
    · rename_i hk
      subst hk
      split
      · exact hm
      · rename_i hb
        exact (Memory.wf_cons a b m).mpr ⟨hb, hab, hm⟩
    · split
      · rename_i hlt
        split
        · exact h
        · rename_i hb
          refine (Memory.wf_cons a b _).mpr ⟨hb, ?_, h⟩
          intro c hc
          rcases List.mem_cons.mp hc with rfl | hc
          · exact hlt
          · exact Nat.lt_trans hlt (hab c hc)
      · rename_i hne hnlt
        refine (Memory.wf_cons k v _).mpr ⟨hv, Mem.above_write hab (by omega), ih hm⟩

/-- Writing bytes one after another keeps the canonical form. -/
theorem Memory.wf_writeAll {m : List Host.Cell} (h : Memory.wf m = true) (a : Nat) (l : List Byte) :
    Memory.wf (Mem.writeAll m a l) = true := by
  induction l generalizing m a with
  | nil => exact h
  | cons b l ih => exact ih (Memory.wf_write h a b) (a + 1)

/-- Clearing addresses keeps the canonical form. -/
theorem Memory.wf_clear {m : List Host.Cell} (h : Memory.wf m = true) (p : Nat → Bool) :
    Memory.wf (Mem.clear m p) = true := by
  induction m with
  | nil => rfl
  | cons c m ih =>
    obtain ⟨k, v⟩ := c
    obtain ⟨hv, hab, hm⟩ := (Memory.wf_cons k v m).mp h
    simp only [Mem.clear, List.filter_cons] at ih ⊢
    split
    · refine (Memory.wf_cons k v _).mpr ⟨hv, ?_, ih hm⟩
      intro c hc
      exact hab c (List.mem_filter.mp hc).1
    · exact ih hm

/-- No entry of a memory above `a` is at an address up to `a`. -/
theorem Mem.read_above {m : List Host.Cell} {a k : Nat} (h : Mem.above a m) (hk : k ≤ a) : Mem.read m k = 0 := by
  unfold Mem.read Tab.get
  induction m with
  | nil => rfl
  | cons c m ih =>
    obtain ⟨k', v⟩ := c
    have h' : a < k' := h (k', v) (by simp)
    simp only [Tab.find?]
    split
    · omega
    · exact ih (fun c hc => h c (by simp [hc]))

/-- The byte written reads back. -/
theorem Mem.read_write_same {m : List Host.Cell} (h : Memory.wf m = true) (a : Nat) (b : Byte) :
    Mem.read (Mem.write m a b) a = b := by
  induction m with
  | nil =>
    unfold Mem.write
    split
    · rename_i hb
      simp [hb, Mem.read, Tab.get, Tab.find?]
    · simp [Mem.read, Tab.get, Tab.find?]
  | cons c m ih =>
    obtain ⟨k, v⟩ := c
    obtain ⟨_, hab, hm⟩ := (Memory.wf_cons k v m).mp h
    unfold Mem.write
    split
    · rename_i hk
      subst hk
      split
      · rename_i hb
        rw [Mem.read_above hab (Nat.le_refl _), hb]
      · simp [Mem.read, Tab.get, Tab.find?]
    · split
      · rename_i hne hlt
        split
        · rename_i hb
          have : Mem.above a ((k, v) :: m) := by
            intro c hc
            rcases List.mem_cons.mp hc with rfl | hc
            · exact hlt
            · exact Nat.lt_trans hlt (hab c hc)
          rw [Mem.read_above this (Nat.le_refl _), hb]
        · simp [Mem.read, Tab.get, Tab.find?]
      · rename_i hne _
        have := ih hm
        simpa [Mem.read, Tab.get, Tab.find?, hne] using this

/-- Every other byte reads as before. -/
theorem Mem.read_write_ne (m : List Host.Cell) {a k : Nat} (b : Byte) (h : k ≠ a) :
    Mem.read (Mem.write m a b) k = Mem.read m k := by
  induction m with
  | nil =>
    unfold Mem.write
    split <;> simp [Mem.read, Tab.get, Tab.find?, h]
  | cons c m ih =>
    obtain ⟨k', v⟩ := c
    unfold Mem.write
    split
    · rename_i hk
      subst hk
      split <;> simp [Mem.read, Tab.get, Tab.find?, h]
    · split
      · split <;> simp [Mem.read, Tab.get, Tab.find?, h]
      · simp only [Mem.read, Tab.get, Tab.find?] at ih ⊢
        split
        · rfl
        · exact ih

/-- A byte outside the bytes written reads as before. -/
theorem Mem.read_writeAll_ne (m : List Host.Cell) (a k : Nat) (l : List Byte) (h : k < a ∨ a + l.length ≤ k) :
    Mem.read (Mem.writeAll m a l) k = Mem.read m k := by
  induction l generalizing m a with
  | nil => rfl
  | cons b l ih =>
    have hl : (b :: l).length = l.length + 1 := rfl
    rw [hl] at h
    unfold Mem.writeAll
    rw [ih (Mem.write m a b) (a + 1) (by omega), Mem.read_write_ne m b (by omega)]

/-- Reset memory has the canonical form. -/
theorem Memory.wf_reset : Memory.wf State.reset.mem = true := rfl

end Sys2Proof.Machine
end

