-- ==== Sys2Proof/Laws/Time.lean ====
section
/-! SUPPORT. What the passage of time does: it advances the time and the Clocktower counter, and of the registers it may
change CLT_STATUS alone (R15, R289, R291). -/

namespace Sys2Proof.Machine

/-- The state with another time, Clocktower and register file. -/
def State.timed (s : State) (now : Nat) (c : CltState) (g : Tab Word32) : State := { s with now := now, clt := c, regs := g }

/-- The register files agree but for CLT_STATUS. -/
def SameButCltStatus (g h : Tab Word32) : Prop := ∀ k, k ≠ Reg.cltStatus → h.find? k = g.find? k

theorem SameButCltStatus.refl (g : Tab Word32) : SameButCltStatus g g := fun _ _ => rfl
theorem SameButCltStatus.trans {f g h : Tab Word32} (a : SameButCltStatus f g) (b : SameButCltStatus g h) :
    SameButCltStatus f h := fun k hk => (b k hk).trans (a k hk)

/-- The counter runs: it alone moves, and CLT_STATUS shows whether a slew is left. -/
theorem State.runClock_shape (s : State) (n : Nat) :
    ∃ c g, s.runClock n = s.timed s.now c g ∧ SameButCltStatus s.regs g := by
  unfold State.runClock
  generalize s.clt.setUnits (s.clt.units + s.advanceBy n) = c'
  generalize slewUsed s.clt.slew n = used
  dsimp only
  split
  · exact ⟨_, s.regs, rfl, SameButCltStatus.refl _⟩
  · exact ⟨_, _, rfl, fun k h => Tab.find_set_ne _ _ h⟩

/-- Ticks pass: only the Clocktower and CLT_STATUS move. -/
theorem State.ticks_shape (s : State) (n : Nat) :
    ∃ c g, s.ticks n = s.timed s.now c g ∧ SameButCltStatus s.regs g := by
  unfold State.ticks
  generalize s.pMin = m
  dsimp only
  split
  · exact s.runClock_shape n
  · obtain ⟨c1, g1, h1, w1⟩ := s.runClock_shape (m - s.clt.elapsed)
    rw [h1]
    generalize State.gridFrom (s.timed s.now c1 g1) (s.timed s.now c1 g1).clt.units = k
    generalize State.foffset (s.timed s.now c1 g1) = o
    obtain ⟨c2, g2, h2, w2⟩ := State.runClock_shape
      (s.timed s.now { c1 with armed := some k, off := o } g1) (n - (m - s.clt.elapsed))
    exact ⟨c2, g2, h2, w1.trans w2⟩

/-- ROOT cycles pass: the time advances by them, and only the Clocktower and CLT_STATUS move beside it. -/
theorem State.elapse_shape (s : State) (r : Nat) :
    ∃ c g, s.elapse r = s.timed (s.now + r) c g ∧ SameButCltStatus s.regs g := by
  unfold State.elapse
  generalize (s.now + r) / 24 - s.now / 24 = n
  dsimp only
  split
  · exact ⟨s.clt, s.regs, rfl, SameButCltStatus.refl _⟩
  · exact State.ticks_shape (s.timed (s.now + r) s.clt s.regs) n

/-- Time moves to an instant that lies ahead, and only the Clocktower and CLT_STATUS move with it. -/
theorem State.at_shape (s : State) (t : Nat) :
    ∃ c g, s.at_ t = s.timed (max s.now t) c g ∧ SameButCltStatus s.regs g := by
  unfold State.at_
  split
  · rename_i h
    obtain ⟨c, g, e, w⟩ := s.elapse_shape (t - s.now)
    have : s.now + (t - s.now) = max s.now t := by omega
    exact ⟨c, g, by rw [e, this], w⟩
  · rename_i h
    have : max s.now t = s.now := by omega
    exact ⟨s.clt, s.regs, by rw [this]; rfl, SameButCltStatus.refl _⟩

/-- Whole ticks pass, and only the time, the Clocktower and CLT_STATUS move. -/
theorem State.passTicks_shape (s : State) (n : Nat) :
    ∃ t c g, s.passTicks n = s.timed t c g ∧ s.now ≤ t ∧ SameButCltStatus s.regs g := by
  unfold State.passTicks
  split
  · exact ⟨s.now, s.clt, s.regs, rfl, Nat.le_refl _, SameButCltStatus.refl _⟩
  · obtain ⟨c, g, e, w⟩ := s.elapse_shape (24 * n - s.now % 24)
    exact ⟨_, c, g, e, by omega, w⟩

/-- Every register but CLT_STATUS reads the same after time has passed. -/
theorem State.rd_timed (s : State) {t : Nat} {c : CltState} {g : Tab Word32} (h : SameButCltStatus s.regs g) {k : Nat}
    (hk : k ≠ Reg.cltStatus) : (s.timed t c g).rd k = s.rd k := by
  unfold State.rd
  show (g.find? k).getD _ = _
  rw [h k hk]

theorem State.rd_at (s : State) (t : Nat) {k : Nat} (hk : k ≠ Reg.cltStatus) : (s.at_ t).rd k = s.rd k := by
  obtain ⟨c, g, e, w⟩ := s.at_shape t
  rw [e]; exact s.rd_timed w hk
theorem State.rd_passTicks (s : State) (n : Nat) {k : Nat} (hk : k ≠ Reg.cltStatus) : (s.passTicks n).rd k = s.rd k := by
  obtain ⟨t, c, g, e, _, w⟩ := s.passTicks_shape n
  rw [e]; exact s.rd_timed w hk

/-! ### Every other field -/

@[simp] theorem State.at_now (s : State) (t : Nat) : (s.at_ t).now = max s.now t := by
  obtain ⟨c, g, e, _⟩ := s.at_shape t; rw [e]; rfl
@[simp] theorem State.at_hiLatch (s : State) (t : Nat) : (s.at_ t).hiLatch = s.hiLatch := by
  obtain ⟨c, g, e, _⟩ := s.at_shape t; rw [e]; rfl
@[simp] theorem State.at_hiStage (s : State) (t : Nat) : (s.at_ t).hiStage = s.hiStage := by
  obtain ⟨c, g, e, _⟩ := s.at_shape t; rw [e]; rfl
@[simp] theorem State.at_nv (s : State) (t : Nat) : (s.at_ t).nv = s.nv := by
  obtain ⟨c, g, e, _⟩ := s.at_shape t; rw [e]; rfl
@[simp] theorem State.at_mode (s : State) (t : Nat) : (s.at_ t).mode = s.mode := by
  obtain ⟨c, g, e, _⟩ := s.at_shape t; rw [e]; rfl
@[simp] theorem State.at_plan (s : State) (t : Nat) : (s.at_ t).plan = s.plan := by
  obtain ⟨c, g, e, _⟩ := s.at_shape t; rw [e]; rfl
@[simp] theorem State.at_tpl (s : State) (t : Nat) : (s.at_ t).tpl = s.tpl := by
  obtain ⟨c, g, e, _⟩ := s.at_shape t; rw [e]; rfl
@[simp] theorem State.at_hist (s : State) (t : Nat) : (s.at_ t).hist = s.hist := by
  obtain ⟨c, g, e, _⟩ := s.at_shape t; rw [e]; rfl
@[simp] theorem State.at_lot (s : State) (t : Nat) : (s.at_ t).lot = s.lot := by
  obtain ⟨c, g, e, _⟩ := s.at_shape t; rw [e]; rfl
@[simp] theorem State.at_mem (s : State) (t : Nat) : (s.at_ t).mem = s.mem := by
  obtain ⟨c, g, e, _⟩ := s.at_shape t; rw [e]; rfl
@[simp] theorem State.at_err (s : State) (t : Nat) : (s.at_ t).err = s.err := by
  obtain ⟨c, g, e, _⟩ := s.at_shape t; rw [e]; rfl
@[simp] theorem State.at_pmc (s : State) (t : Nat) : (s.at_ t).pmc = s.pmc := by
  obtain ⟨c, g, e, _⟩ := s.at_shape t; rw [e]; rfl
@[simp] theorem State.at_que (s : State) (t : Nat) : (s.at_ t).que = s.que := by
  obtain ⟨c, g, e, _⟩ := s.at_shape t; rw [e]; rfl
@[simp] theorem State.at_host (s : State) (t : Nat) : (s.at_ t).host = s.host := by
  obtain ⟨c, g, e, _⟩ := s.at_shape t; rw [e]; rfl
@[simp] theorem State.at_rings (s : State) (t : Nat) : (s.at_ t).rings = s.rings := by
  obtain ⟨c, g, e, _⟩ := s.at_shape t; rw [e]; rfl
@[simp] theorem State.at_dma (s : State) (t : Nat) : (s.at_ t).dma = s.dma := by
  obtain ⟨c, g, e, _⟩ := s.at_shape t; rw [e]; rfl
@[simp] theorem State.at_xng (s : State) (t : Nat) : (s.at_ t).xng = s.xng := by
  obtain ⟨c, g, e, _⟩ := s.at_shape t; rw [e]; rfl
@[simp] theorem State.at_ports (s : State) (t : Nat) : (s.at_ t).ports = s.ports := by
  obtain ⟨c, g, e, _⟩ := s.at_shape t; rw [e]; rfl
@[simp] theorem State.at_ing (s : State) (t : Nat) : (s.at_ t).ing = s.ing := by
  obtain ⟨c, g, e, _⟩ := s.at_shape t; rw [e]; rfl
@[simp] theorem State.at_plz (s : State) (t : Nat) : (s.at_ t).plz = s.plz := by
  obtain ⟨c, g, e, _⟩ := s.at_shape t; rw [e]; rfl
@[simp] theorem State.at_wit (s : State) (t : Nat) : (s.at_ t).wit = s.wit := by
  obtain ⟨c, g, e, _⟩ := s.at_shape t; rw [e]; rfl
@[simp] theorem State.at_blv (s : State) (t : Nat) : (s.at_ t).blv = s.blv := by
  obtain ⟨c, g, e, _⟩ := s.at_shape t; rw [e]; rfl
@[simp] theorem State.at_ave (s : State) (t : Nat) : (s.at_ t).ave = s.ave := by
  obtain ⟨c, g, e, _⟩ := s.at_shape t; rw [e]; rfl
@[simp] theorem State.at_lms (s : State) (t : Nat) : (s.at_ t).lms = s.lms := by
  obtain ⟨c, g, e, _⟩ := s.at_shape t; rw [e]; rfl
@[simp] theorem State.at_fxe (s : State) (t : Nat) : (s.at_ t).fxe = s.fxe := by
  obtain ⟨c, g, e, _⟩ := s.at_shape t; rw [e]; rfl
@[simp] theorem State.at_sch (s : State) (t : Nat) : (s.at_ t).sch = s.sch := by
  obtain ⟨c, g, e, _⟩ := s.at_shape t; rw [e]; rfl
@[simp] theorem State.at_krb (s : State) (t : Nat) : (s.at_ t).krb = s.krb := by
  obtain ⟨c, g, e, _⟩ := s.at_shape t; rw [e]; rfl
@[simp] theorem State.at_met (s : State) (t : Nat) : (s.at_ t).met = s.met := by
  obtain ⟨c, g, e, _⟩ := s.at_shape t; rw [e]; rfl
@[simp] theorem State.at_cal (s : State) (t : Nat) : (s.at_ t).cal = s.cal := by
  obtain ⟨c, g, e, _⟩ := s.at_shape t; rw [e]; rfl
@[simp] theorem State.at_ckg (s : State) (t : Nat) : (s.at_ t).ckg = s.ckg := by
  obtain ⟨c, g, e, _⟩ := s.at_shape t; rw [e]; rfl
@[simp] theorem State.at_csw (s : State) (t : Nat) : (s.at_ t).csw = s.csw := by
  obtain ⟨c, g, e, _⟩ := s.at_shape t; rw [e]; rfl
@[simp] theorem State.at_lcs (s : State) (t : Nat) : (s.at_ t).lcs = s.lcs := by
  obtain ⟨c, g, e, _⟩ := s.at_shape t; rw [e]; rfl
@[simp] theorem State.at_therm (s : State) (t : Nat) : (s.at_ t).therm = s.therm := by
  obtain ⟨c, g, e, _⟩ := s.at_shape t; rw [e]; rfl
@[simp] theorem State.at_free (s : State) (t : Nat) : (s.at_ t).free = s.free := by
  obtain ⟨c, g, e, _⟩ := s.at_shape t; rw [e]; rfl
@[simp] theorem State.at_out (s : State) (t : Nat) : (s.at_ t).out = s.out := by
  obtain ⟨c, g, e, _⟩ := s.at_shape t; rw [e]; rfl
@[simp] theorem State.at_resp (s : State) (t : Nat) : (s.at_ t).resp = s.resp := by
  obtain ⟨c, g, e, _⟩ := s.at_shape t; rw [e]; rfl
@[simp] theorem State.at_pending (s : State) (t : Nat) : (s.at_ t).pending = s.pending := by
  obtain ⟨c, g, e, _⟩ := s.at_shape t; rw [e]; rfl
@[simp] theorem State.passTicks_hiLatch (s : State) (n : Nat) : (s.passTicks n).hiLatch = s.hiLatch := by
  obtain ⟨t, c, g, e, _⟩ := s.passTicks_shape n; rw [e]; rfl
@[simp] theorem State.passTicks_hiStage (s : State) (n : Nat) : (s.passTicks n).hiStage = s.hiStage := by
  obtain ⟨t, c, g, e, _⟩ := s.passTicks_shape n; rw [e]; rfl
@[simp] theorem State.passTicks_nv (s : State) (n : Nat) : (s.passTicks n).nv = s.nv := by
  obtain ⟨t, c, g, e, _⟩ := s.passTicks_shape n; rw [e]; rfl
@[simp] theorem State.passTicks_mode (s : State) (n : Nat) : (s.passTicks n).mode = s.mode := by
  obtain ⟨t, c, g, e, _⟩ := s.passTicks_shape n; rw [e]; rfl
@[simp] theorem State.passTicks_plan (s : State) (n : Nat) : (s.passTicks n).plan = s.plan := by
  obtain ⟨t, c, g, e, _⟩ := s.passTicks_shape n; rw [e]; rfl
@[simp] theorem State.passTicks_tpl (s : State) (n : Nat) : (s.passTicks n).tpl = s.tpl := by
  obtain ⟨t, c, g, e, _⟩ := s.passTicks_shape n; rw [e]; rfl
@[simp] theorem State.passTicks_hist (s : State) (n : Nat) : (s.passTicks n).hist = s.hist := by
  obtain ⟨t, c, g, e, _⟩ := s.passTicks_shape n; rw [e]; rfl
@[simp] theorem State.passTicks_lot (s : State) (n : Nat) : (s.passTicks n).lot = s.lot := by
  obtain ⟨t, c, g, e, _⟩ := s.passTicks_shape n; rw [e]; rfl
@[simp] theorem State.passTicks_mem (s : State) (n : Nat) : (s.passTicks n).mem = s.mem := by
  obtain ⟨t, c, g, e, _⟩ := s.passTicks_shape n; rw [e]; rfl
@[simp] theorem State.passTicks_err (s : State) (n : Nat) : (s.passTicks n).err = s.err := by
  obtain ⟨t, c, g, e, _⟩ := s.passTicks_shape n; rw [e]; rfl
@[simp] theorem State.passTicks_pmc (s : State) (n : Nat) : (s.passTicks n).pmc = s.pmc := by
  obtain ⟨t, c, g, e, _⟩ := s.passTicks_shape n; rw [e]; rfl
@[simp] theorem State.passTicks_que (s : State) (n : Nat) : (s.passTicks n).que = s.que := by
  obtain ⟨t, c, g, e, _⟩ := s.passTicks_shape n; rw [e]; rfl
@[simp] theorem State.passTicks_host (s : State) (n : Nat) : (s.passTicks n).host = s.host := by
  obtain ⟨t, c, g, e, _⟩ := s.passTicks_shape n; rw [e]; rfl
@[simp] theorem State.passTicks_rings (s : State) (n : Nat) : (s.passTicks n).rings = s.rings := by
  obtain ⟨t, c, g, e, _⟩ := s.passTicks_shape n; rw [e]; rfl
@[simp] theorem State.passTicks_dma (s : State) (n : Nat) : (s.passTicks n).dma = s.dma := by
  obtain ⟨t, c, g, e, _⟩ := s.passTicks_shape n; rw [e]; rfl
@[simp] theorem State.passTicks_xng (s : State) (n : Nat) : (s.passTicks n).xng = s.xng := by
  obtain ⟨t, c, g, e, _⟩ := s.passTicks_shape n; rw [e]; rfl
@[simp] theorem State.passTicks_ports (s : State) (n : Nat) : (s.passTicks n).ports = s.ports := by
  obtain ⟨t, c, g, e, _⟩ := s.passTicks_shape n; rw [e]; rfl
@[simp] theorem State.passTicks_ing (s : State) (n : Nat) : (s.passTicks n).ing = s.ing := by
  obtain ⟨t, c, g, e, _⟩ := s.passTicks_shape n; rw [e]; rfl
@[simp] theorem State.passTicks_plz (s : State) (n : Nat) : (s.passTicks n).plz = s.plz := by
  obtain ⟨t, c, g, e, _⟩ := s.passTicks_shape n; rw [e]; rfl
@[simp] theorem State.passTicks_wit (s : State) (n : Nat) : (s.passTicks n).wit = s.wit := by
  obtain ⟨t, c, g, e, _⟩ := s.passTicks_shape n; rw [e]; rfl
@[simp] theorem State.passTicks_blv (s : State) (n : Nat) : (s.passTicks n).blv = s.blv := by
  obtain ⟨t, c, g, e, _⟩ := s.passTicks_shape n; rw [e]; rfl
@[simp] theorem State.passTicks_ave (s : State) (n : Nat) : (s.passTicks n).ave = s.ave := by
  obtain ⟨t, c, g, e, _⟩ := s.passTicks_shape n; rw [e]; rfl
@[simp] theorem State.passTicks_lms (s : State) (n : Nat) : (s.passTicks n).lms = s.lms := by
  obtain ⟨t, c, g, e, _⟩ := s.passTicks_shape n; rw [e]; rfl
@[simp] theorem State.passTicks_fxe (s : State) (n : Nat) : (s.passTicks n).fxe = s.fxe := by
  obtain ⟨t, c, g, e, _⟩ := s.passTicks_shape n; rw [e]; rfl
@[simp] theorem State.passTicks_sch (s : State) (n : Nat) : (s.passTicks n).sch = s.sch := by
  obtain ⟨t, c, g, e, _⟩ := s.passTicks_shape n; rw [e]; rfl
@[simp] theorem State.passTicks_krb (s : State) (n : Nat) : (s.passTicks n).krb = s.krb := by
  obtain ⟨t, c, g, e, _⟩ := s.passTicks_shape n; rw [e]; rfl
@[simp] theorem State.passTicks_met (s : State) (n : Nat) : (s.passTicks n).met = s.met := by
  obtain ⟨t, c, g, e, _⟩ := s.passTicks_shape n; rw [e]; rfl
@[simp] theorem State.passTicks_cal (s : State) (n : Nat) : (s.passTicks n).cal = s.cal := by
  obtain ⟨t, c, g, e, _⟩ := s.passTicks_shape n; rw [e]; rfl
@[simp] theorem State.passTicks_ckg (s : State) (n : Nat) : (s.passTicks n).ckg = s.ckg := by
  obtain ⟨t, c, g, e, _⟩ := s.passTicks_shape n; rw [e]; rfl
@[simp] theorem State.passTicks_csw (s : State) (n : Nat) : (s.passTicks n).csw = s.csw := by
  obtain ⟨t, c, g, e, _⟩ := s.passTicks_shape n; rw [e]; rfl
@[simp] theorem State.passTicks_lcs (s : State) (n : Nat) : (s.passTicks n).lcs = s.lcs := by
  obtain ⟨t, c, g, e, _⟩ := s.passTicks_shape n; rw [e]; rfl
@[simp] theorem State.passTicks_therm (s : State) (n : Nat) : (s.passTicks n).therm = s.therm := by
  obtain ⟨t, c, g, e, _⟩ := s.passTicks_shape n; rw [e]; rfl
@[simp] theorem State.passTicks_free (s : State) (n : Nat) : (s.passTicks n).free = s.free := by
  obtain ⟨t, c, g, e, _⟩ := s.passTicks_shape n; rw [e]; rfl
@[simp] theorem State.passTicks_out (s : State) (n : Nat) : (s.passTicks n).out = s.out := by
  obtain ⟨t, c, g, e, _⟩ := s.passTicks_shape n; rw [e]; rfl
@[simp] theorem State.passTicks_resp (s : State) (n : Nat) : (s.passTicks n).resp = s.resp := by
  obtain ⟨t, c, g, e, _⟩ := s.passTicks_shape n; rw [e]; rfl
@[simp] theorem State.passTicks_pending (s : State) (n : Nat) : (s.passTicks n).pending = s.pending := by
  obtain ⟨t, c, g, e, _⟩ := s.passTicks_shape n; rw [e]; rfl

end Sys2Proof.Machine
end

