-- ==== Sys2Proof/Tests/Slice0.lean ====
section
/-! SUPPORT. The model's own tests: ill-formed commands that the check refuses; for every statement with hypotheses, states
and operands that meet them, clause by clause; worked examples of the specification. -/

set_option Elab.async false

namespace Sys2Proof.Tests

open Sys2Proof.Machine

/-! ### Small states -/

/-- The device in a mode, everything else as after reset. -/
def inMode (m : Mode) : State := { State.reset with mode := { mode := m } }
def core0 : InitId := 0x00
def host0 : InitId := 0x10
def host1 : InitId := 0x11

/-- A plan with one record of each kind: district 0 is granted every block and holds every authority. -/
def plan0 : Plan := {
  sys := { modeAuth := 1, fireAuth := 1, planAuth := 1 },
  districts := [⟨0, 16, 8, 8, 0, 0xFFFFFF, 1⟩],
  sets := [⟨1, 0, 1, 3, 0⟩, ⟨2, 0, 1, 1, 0⟩, ⟨3, 0, 1, 1, 0⟩],
  inputs := [⟨0, 0, 0, 0, 8, 2, 1, 255, 0, 0, 0xEF000001, 5004, 1, 60, 1⟩, ⟨1, 2, 0, 0, 8, 2, 255, 255, 0, 0, 0, 0, 1, 60, 1⟩],
  canvases := [⟨0, 0, 0, 1, 64, 4, 2, 0, 2, 0, 0, 0, 3⟩],
  layouts := [⟨0, 0, 3, 4, 1, 4, 0, 0⟩],
  tiles := [⟨0, 0, 0, 0, 0, 0, 0, 256, 256, 0, 0, 0x1000, 0, 0x0A0000000001⟩],
  ports := [⟨0, 1, 0, 0, 9600, 1, 0x020000000001, 0, 100⟩, ⟨1, 1, 0, 0, 9600, 2, 0x020000000002, 0, 100⟩],
  scheds := [⟨0, 0, 0, 4⟩],
  universes := [⟨1, 0, 100, 0, 512, 0, 1⟩],
  kerbs := [⟨0, 0, 0, 0, 100, 0⟩, ⟨1, 1, 0, 0, 100, 0⟩],
  signs := [⟨0, 0, 100, 0⟩],
  classes := [⟨0, 7, 4, 100⟩],
  wits := [⟨0, 0, 0, true, 0, 0, 4, 4, 0⟩] }

/-- A device in a mode with that plan in force and host port 0 trained and mastering the bus. -/
def town (m : Mode) : State := { inMode m with plan := some plan0, host := [(0, { link := true, bme := true, msixEn := true })] }
/-- The same device as one of a pair. -/
def twins (m : Mode) : State := { town m with plan := some { plan0 with cw := some ⟨100, 10, 0, 1, 0x1234⟩ } }
/-- One or more register words set. -/
def withRegs (s : State) (l : List (Nat × Word32)) : State := l.foldl (fun s e => s.wr e.1 e.2) s

/-! ### Well-formed commands: one ill-formed term for each check -/

theorem test_wf_refuses : [Instr.brownOut 11 0 0, .bar2Read 0 0 0, .ctrlResp 0 [], .fxeMergeDone 64000,
    .submissionPost 0 0 0 15 [0, 0], .crossingRead 0 0xD00000, .farSideResponse true (.data []), .deviceFatalEvent 3 0 0,
    .memoryErrorDetected 0 8288 0 true, .canvasRowCompose 0 16384 [] false, .blvRunDone 0 0 16, .refmonWindowEnd 65536 false,
    .rdmResponse 0 (List.replicate 258 0), .dimmingPeriodStart [⟨1, 0, 0⟩, ⟨1, 0, 0⟩],
    .meterSample [] 0, .unitWake 40, .cwLeaseFrame ⟨0, 0, 65536⟩, .mirrorRecord (.lotWrite 65536 0 []),
    .frameRecord { frame := 0, levels := [(48, 0)] }, .blackRecord true 0 4, .reg64LoRead 0 ⟨0x4000000, .whole⟩,
    .registerWrite 0 0x4000000 ⟨0, [], .whole, []⟩, .registerWrite 0 0 ⟨0, [], .whole, [⟨0, 0x4000000, false, 0⟩]⟩, .hostLinkUp ⟨0, 3, 5⟩,
    .hostDistrictReset 0 ⟨true, [⟨0x10, 0x4000000, false, 0⟩], []⟩, .hostDistrictReset 0 ⟨true, [], [64]⟩,
    .runLimitStop 0 [1, 1]].all (fun c => !c.wf) = true := by decide +kernel

theorem test_wf_accepts : [Instr.brownOut 10 0 0, .bar2Read 0 0 1, .fxeMergeDone 63999, .submissionPost 0 0 0 15 [0],
    .crossingRead 0 0xE00000, .farSideResponse true (.data [0]), .deviceFatalEvent 2 0 0, .memoryErrorDetected 0 8287 32767 true,
    .reg64LoRead 0 ⟨0x3FFFFFC, .whole⟩, .registerWrite 0 0x90000008 ⟨0, [], .whole, [⟨0, 4, true, 1⟩]⟩, .hostLinkUp ⟨3, 8, 5⟩].all Instr.wf = true := by decide +kernel

/-! ### Witnesses: 00, 01, 02 -/

theorem witness_StepRunsTheFrontCommand : State.reset.pending = [] := by decide +kernel
theorem witness_EveryStepKeepsMemoryCanonical : Inv { State.reset with mem := [(1, 7)] } := by unfold Inv; decide +kernel
theorem witness_EveryCommandLeavesTheQueue : ∃ t, exec .powerOn { State.reset with pending := [.powerOn] } = .next t := ⟨_, rfl⟩
theorem witness_ModesChangeOnlyByTheTable : ∃ t, exec .powerOn (inMode .active) = .next t := ⟨_, rfl⟩
theorem witness_ResetHearsNoAccess : State.reset.mode.mode = .reset := by decide +kernel

theorem witness_EveryResetHasItsCause : rails[0]? = some (750, 3) ∧ 100 * 712 < 750 * (98 - 3) ∧
    ¬ ((inMode .standby).mode.mode = .reset ∧ (inMode .standby).mode.cause = 0x01) ∧
    { inMode .standby with ckg := { wd := some 0 } }.ckg.wd = some 0 ∧ (inMode .standby).mode.mode ≠ .reset ∧
    isCore core0 = true ∧ field 0x8E570000#32 16 16 = 0x8E57 ∧ { inMode .standby with err := { fatalAt := some 0 } }.err.fatalAt = some 0 ∧
    (inMode .boot).mode.mode = .boot ∧ (inMode .boot).lcs.state ≠ 5 := by decide +kernel
theorem witness_WhatDoesNotReset : rails[0]? = some (750, 3) ∧ 750 * (98 - 3) ≤ 100 * 713 ∧ ByHouse (inMode .standby) core0 ∧
    field 0#32 16 16 ≠ 0x8E57 ∧ isHost host0 = true ∧ Admits (town .standby) host0 18 := by decide +kernel
def booted (strap ver : Word32) : State :=
  withRegs { inMode .boot with lcs := { running := 0 } } [(Reg.ckgStrap, strap), (Reg.updMismatch, ver)]
theorem witness_BootDoneEndsTheStart : (booted 0 0).mode.mode = .boot ∧ (booted 0 0).lcs.running ≤ 1 ∧
    (booted 0 0x01000000).versionsAgree = false ∧ (booted 1 0).versionsAgree = true ∧ (booted 1 0).bitOf Reg.ckgStrap 0 = true ∧
    (booted 0 0).versionsAgree = true ∧ (booted 0 0).bitOf Reg.ckgStrap 0 = false := by decide +kernel
theorem witness_ResetReleaseStartsTheDevice : { State.reset with ckg := { ok := true } }.mode.mode = .reset ∧
    { State.reset with ckg := { ok := true } }.ckg.ok = true ∧ (inMode .boot).mode.mode ≠ .reset ∧ State.reset.ckg.ok = false ∧
    State.reset.lcs.fused ≠ 5 ∧
    (let r := LcsState.select (LcsState.trialStart { State.reset.lcs with state := State.reset.lcs.fused, big := false })
     r.1 = some 0 ∧ (r.2.trialEnds 0).slotGood 0 = true) := by
  decide +kernel
theorem witness_WatchdogKickAndTimeout : ByHouse (inMode .standby) core0 ∧ field 0x3D060000#32 16 16 = 0x3D06 ∧
    { inMode .standby with ckg := { wd := some 5 } }.ckg.wd = some 5 ∧ (inMode .standby).ckg.wd = none ∧
    10 ≤ field 10#32 0 16 ∧ field 60000#32 0 16 ≤ 60000 ∧ field 9#32 0 16 < 10 ∧ 60000 < field 60001#32 0 16 ∧
    isHost host0 = true ∧ Admits (town .standby) host0 18 := by decide +kernel

def pends (s : State) (t : Mode) (b : Nat) (a : Bool) : State :=
  { s with mode := { s.mode with pend := some { target := t, cause := 0x20, bounds := b, afterApply := a } } }
theorem witness_ModeRequestsAreCheckedInOrder : Admits (town .standby) host0 0 ∧
    (town .standby).auth false (·.modeAuth) 0 = true ∧ (inMode .standby).auth false (·.modeAuth) 0 = false ∧
    Admits { inMode .standby with host := [(0, { link := true })] } host0 0 ∧
    (pends (town .standby) .active 1 false).mode.pend.isSome = true ∧ (town .standby).requestable .standby = false ∧
    (town .active).requestable .active = false ∧ (town .maintenance).requestable .maintenance = false := by decide +kernel
theorem witness_AcceptedModeRequests : Admits (town .standby) host0 0 ∧ (town .standby).mode.pend = none ∧
    (town .standby).pl.cw = none ∧ Admits (twins .standby) host0 0 ∧ (twins .standby).pl.cw.isSome = true ∧
    (twins .standby).auth false (·.modeAuth) 0 = true ∧ Admits (town .active) host0 0 ∧
    Admits (town .maintenance) host0 0 ∧ (town .maintenance).versionsAgree = true := by decide +kernel
theorem witness_TransitionsTakeEffectAtTheirBoundary : (pends (town .standby) .active 0 false).mode.mode = .standby ∧
    (pends (town .active) .maintenance 0 false).mode.mode = .active ∧ (pends (town .active) .standby 1 false).mode.pend ≠ none ∧
    (pends (town .standby) .active 0 true).mode.pend.any (·.afterApply) = true ∧ (town .active).mode.pend = none := by decide +kernel
theorem witness_FrameTickTakesTheGridPoint : Runs (pends (town .standby) .active 1 false) ∧
    (pends (town .standby) .active 1 false).mode.pend.any (!·.afterApply) = true ∧ State.reset.mode.mode = .reset := by decide +kernel

/-! ### Witnesses: 03 -/

theorem witness_TownPlanCommandsAreCheckedInOrder :
    Admits (town .standby) host0 1 ∧ (town .standby).auth true (·.planAuth) 0 = true ∧
    Admits { town .standby with host := [(1, { link := true })] } host1 1 = false ∧
    Admits { town .standby with plan := some { plan0 with sys := {} } } host0 1 ∧
    ({ town .standby with plan := some { plan0 with sys := {} } } : State).auth true (·.planAuth) 0 = false ∧
    (withRegs (town .standby) [(Reg.cswStatus, 2)]).role = 2 ∧
    ({ town .standby with tpl := { zeroFill := true } } : State).tpl.zeroFill = true ∧
    (town .standby).tplAccepts .validate = false ∧ (town .standby).tplAccepts .apply = false ∧
    (town .standby).tplAccepts .abort = false ∧
    ({ town .standby with tpl := { st := .opened } } : State).tplAccepts .open_ = false := by
  decide +kernel

/-- The town with a staging set in a state: owned by district 0, with a checked plan and an apply. -/
def staged (m : Mode) (st : TplSt) (k : Option Checked := none) (p : Option PendApply := none) : State :=
  { town m with tpl := { st := st, owner := some 0, checked := k, pend := p } }
/-- A full plan that wants a set, and one that wants more lots than there are. -/
def chk0 : Checked := { plan := plan0 }
def chkBig : Checked := { plan := { sets := [⟨1, 0, 1, 0x2000, 0⟩] } }
def chkLive : Checked := { plan := plan0, live := true, touched := [0] }
def applyOf (k : Checked) (a : Bool) (b : Nat) : PendApply := { chk := k, dist := 0, allocated := a, bounds := b }

theorem witness_AcceptedTownPlanCommands :
    (Admits (staged .standby .valid) host0 1 ∧ (staged .standby .valid).auth true (·.planAuth) 0 = true) ∧
    ((town .standby).tpl.owner = none ∧ (town .standby).role = 0 ∧ (town .standby).tpl.st = .idle ∧
      (town .standby).tpl.zeroFill = false ∧ (town .standby).tpl.houseHold = false) ∧
    ((staged .standby .valid).tpl.owner = some (distOf host0) ∧ (staged .standby .valid (some chk0)).tpl.checked = some chk0) ∧
    chk0.live = false ∧ (town .active).mode.mode ≠ .standby ∧ Admits (staged .active .valid) host0 1 ∧
    ((staged .standby .valid).lotsThere (wantParts ((staged .standby .valid).planWants chkBig)) &&
      (staged .standby .valid).fullQuotaOk chkBig.plan ((staged .standby .valid).planWants chkBig)) = false ∧
    ((staged .standby .valid).lotsThere (wantParts ((staged .standby .valid).planWants chk0)) &&
      (staged .standby .valid).fullQuotaOk plan0 ((staged .standby .valid).planWants chk0)) = true ∧
    chkLive.live = true ∧ (staged .standby .valid).planWants { chkLive with plan := {} } = [] ∧ Admits (staged .safe .valid) host0 1 ∧ (staged .standby .valid).tpl.pend = none := by
  decide +kernel
theorem witness_ValidationEndsInItsVerdict : (staged .standby .validating).tpl.st = .validating ∧
    (validate (town .standby).planKeys (town .standby).plan [] 0).res.toOption = none ∧ (town .standby).tpl.st ≠ .validating := by
  decide +kernel
theorem witness_StagingZeroFillClearsTheStagingSet :
    ({ town .standby with tpl := { zeroFill := true } } : State).tpl.zeroFill = true ∧ (town .standby).tpl.zeroFill = false := by
  decide +kernel
theorem witness_AppliesTakeEffectAtTheirBoundary :
    (∃ p, (staged .standby .applying none (some (applyOf chk0 true 0))).tpl.pend = some p ∧ p.chk.live = false ∧ p.allocated = true ∧
      p.moves = [] ∧ p.bounds = 0 ∧ (staged .standby .applying none (some (applyOf chk0 true 0))).mode.mode = .standby) ∧
    (∃ p, (staged .active .applying none (some (applyOf chkLive true 0))).tpl.pend = some p ∧ p.chk.live = true ∧ p.allocated = true ∧
      p.moves = [] ∧ p.bounds = 0 ∧ (staged .active .applying none (some (applyOf chkLive true 0))).mode.mode = .active) ∧ (applyOf chk0 true 1).bounds ≠ 0 ∧ (applyOf chkLive false 0).allocated = false ∧ (town .active).tpl.pend = none :=
  ⟨⟨_, rfl, by decide, by decide, by decide, by decide, by decide⟩, ⟨_, rfl, by decide, by decide, by decide, by decide, by decide⟩, by decide, by decide, by decide⟩

/-! ### Witnesses: 04 -/

/-- The town with lot sets. -/
def lots (m : Mode) (l : LotState) : State := { town m with lot := l }
def set0 : LotSet := { id := 0x1000, dist := 0, cls := 1, place := 0, inSq := false, handles := [5, 6], base := 16384 }
/-- LOT_REQ words: lots, Square, window base. -/
def req (n : Nat) (sq : Bool) (base : Nat) : Word32 := pack [(0, n), (14, if sq then 1 else 0), (16, base)]
def withSets (n : Nat) : State :=
  lots .active { sets := (List.range n).map (fun i => { set0 with id := 0x1000 + i, handles := [], base := 0xFFFF }) }

theorem witness_LotRequestsAreCheckedInOrder : Admits (town .active) host0 2 ∧ 8188 < field (req 8189 false 0) 0 14 ∧
    64 < field (req 65 true 0) 0 14 ∧ (req 65 true 0).getLsbD 14 = true ∧ ¬ 8188 < field (req 8188 false 16384) 0 14 ∧
    (withRegs (town .active) ((List.range 4).map (fun k => (rstatKey 0 k, 1)))).freeSlot 0 = none ∧
    (town .active).freeSlot 0 ≠ none ∧ 4096 ≤ ((withSets 4096).lot.sets.filter (·.id ≥ 0x1000)).length ∧
    (town .active).held 0 false + 25 > (town .active).guar 0 false + (town .active).borrow 0 false ∧
    ¬ (town .active).held 0 false + 24 > (town .active).guar 0 false + (town .active).borrow 0 false ∧
    field (req 1 false 16383) 16 16 < 16384 ∧ 32767 + 2 > 32768 ∧
    (lots .active { sets := [set0] }).windowTaken 0 16385 1 = true := by decide +kernel
theorem witness_LotRequestsWithoutNeedAreGranted : Admits (town .active) host0 2 ∧ (town .active).freeSlot 0 = some 0 ∧
    (town .active).promotedLots 0 = 0 ∧ (town .active).held 0 false + 16 ≤ (town .active).guar 0 false + (town .active).borrow 0 false ∧
    (town .active).needOf [(0, false, 16)] = 0 ∧ (town .active).needOf [(0, false, 0)] = 0 ∧
    16384 ≤ field (req 16 false 32752) 16 16 ∧ 32752 + 16 ≤ 32768 ∧ (town .active).windowTaken 0 32752 16 = false ∧
    (town .active).quotaOk [(0, false, 16)] = true ∧ (town .active).lotsThere [(0, false, 16)] = true ∧
    16 ≤ (town .active).freeLots false ∧ (lots .active { freeD := [(0, 15)] }).lotsThere [(0, false, 16)] = false ∧
    (lots .active { freeD := [(0, 15)] }).needOf [(0, false, 16)] = 0 ∧ (req 16 false 32752).getLsbD 15 = false := by decide +kernel
theorem witness_FreesAcknowledgesAndCountReads : Admits (town .active) host0 2 ∧ field 0xF4EE1000#32 16 16 = 0xF4EE ∧
    field 0#32 16 16 ≠ 0xF4EE ∧ (town .active).set? (field 0xF4EE1000#32 0 16) = none ∧
    (lots .active { sets := [set0] }).set? 0x1000 = some set0 ∧ set0.dist = distOf host0 ∧ set0.dist ≠ distOf host1 ∧
    { set0 with id := 0xFFF }.id < 0x1000 ∧ 0x1000 ≤ set0.id ∧ (0x8#32).getLsbD 3 = true ∧
    (withRegs (town .active) [(rstatKey 0 3, 8)]).bitOf (rstatKey 0 3) 3 = true ∧ (town .active).bitOf (rstatKey 0 3) 3 = false ∧
    Admits (town .active) host0 2 false := by decide +kernel
theorem witness_ZeroFillClearsTheFreedLots : (lots .active { scrub := [5] }).lot.scrub ≠ [] ∧
    (lots .active { scrub := [5] }).lot.waiting = [] ∧ (town .active).lot.scrub = [] := by decide +kernel

def evaluating (l : LotState) : State := withRegs (lots .active { l with sinceEval := 3 }) [(Reg.lotCtl, 3)]
def copying (k : CopyKind) (done ready : Bool) : State :=
  lots .active { sets := [set0], copy := some { kind := k, setId := 0x1000, newHandles := [0x8000, 0x8001], done := done, ready := ready } }
theorem witness_MigrationEvaluatesCopiesAndSwitches :
    (withRegs (town .active) [(Reg.lotCtl, 1)]).lot.sinceEval < (withRegs (town .active) [(Reg.lotCtl, 1)]).fld Reg.lotCtl 0 16 ∧
    (evaluating {}).fld Reg.lotCtl 0 16 = 3 ∧ 3 ≤ (evaluating {}).lot.sinceEval ∧ (evaluating { retireQ := [0] }).lot.retireQ ≠ [] ∧
    (evaluating { sets := [set0] }).candidates 0 ≠ [] ∧
    (copying (.retire 5 8192) false false).lot.copy.isSome = true ∧ 8192 ≠ (copying (.retire 5 8192) false false).frameOf 5 ∧
    Memory.wf (copying (.retire 5 8192) false false).mem = true ∧
    (copying .promote true true).lot.copy.all (fun c => c.done && c.ready) = true ∧ (copying .promote true true).lot.retireQ = [] ∧
    (copying .demote true true).set? 0x1000 = some set0 ∧ 5 < 0x8000 ∧
    (copying (.retire 5 8192) true true).lot.copy.all (fun c => c.done && c.ready) = true := by decide +kernel
theorem witness_MemoryErrorsRefreshAndPowerDown : Runs (town .active) ∧ 8287 < 8288 ∧ 32767 < 32768 ∧
    (withRegs (town .active) [(Reg.lotLtcfg, 0)]).ltAtLeast 0 = true ∧
    ({ withRegs (town .active) [(Reg.lotLtcfg, 0xFFFFFFFF)] with lot := {} } : State).fld Reg.lotLtcfg 16 16 = 0xFFFF := by decide +kernel

def hostIn (l : LotState) : State := { lots .active l with host := [(0, { link := true })] }
def set8 : LotSet := { set0 with base := 4 }
def set9 : LotSet := { set0 with id := 0x1001, base := 6, handles := [7] }
def aperture (st : TplSt) : State := { hostIn {} with tpl := { st := st, owner := some 0 } }
theorem witness_Bar2ReachesTheSetsOfItsDistrict : (hostIn { sets := [set8] }).arrives (BitVec.ofNat 8 (0x10 + 0)) = true ∧
    (hostIn { sets := [set8] }).windowSet 0 (8388608 / 2097152) = some set8 ∧ 4194304 ≤ set8.bytes ∧
    (hostIn { sets := [set8] }).mirrorLocked set8.dist = false ∧ set8.bytes < 4194304 + 1 ∧
    (hostIn { sets := [set8] }).windowSet 0 6 = none ∧ (hostIn { sets := [set8] }).windowRun 0 4 8388608 (4194304 + 1) = none ∧
    (hostIn { sets := [set8, set9] }).windowRun 0 2 12582911 2 = some [(set8, 4194303, 1), (set9, 0, 1)] ∧ (aperture .opened).stagingOpen 0 true = true ∧
    (aperture .valid).stagingOpen 0 false = true ∧ (aperture .valid).stagingOpen 0 true = false ∧
    (hostIn {}).stagingOpen 0 false = false ∧ (hostIn {}).arrives (BitVec.ofNat 8 (0x10 + 0)) = true := by decide +kernel

/-- R148: HLG V = 0.75 gives 1.0, PQ 203 cd/m² (V about 0.58068888) gives 1.0, each stored as 0x1000 before the residue of R150. -/
theorem test_linearise : (linearise 3 3 4 + 2 ^ 19) / 2 ^ 20 = 0x1000 ∧
    (linearise 2 5806888810 10000000000 + 2 ^ 19) / 2 ^ 20 = 0x1000 := by decide +kernel

/-! ### Witnesses: 05 -/

/-- A video packet for input 0: version byte, RTP sequence and timestamp, SSRC, row, and one pixel group. -/
def video (ver seq ts ssrc row : Nat) : List Byte :=
  udpFrame (groupMac 0xEF000001) 0x020000000099 0 64 0x0A000002 0xEF000001 5000 5004
    ([b8 ver, 96] ++ beBytes 2 seq ++ beBytes 4 ts ++ beBytes 4 ssrc ++ beBytes 2 0 ++ beBytes 2 5 ++ beBytes 2 row ++ beBytes 2 6 ++
      [1, 2, 3, 4, 5])
def goodFor (r : InRec) (bytes : List Byte) : Bool :=
  let ip := etherBody bytes
  let u := ipPayload ip
  let rtp := (u.take (beAt u 4 2)).drop 8
  ipv4Ok ip 17 && udpSumOk ip u && 14 ≤ rtp.length && byteAt rtp 0 == 128 && (payloadSegs r ((rtp.drop 12).drop 2)).isSome
def in0 : InRec := ⟨0, 0, 0, 0, 8, 2, 1, 255, 0, 0, 0xEF000001, 5004, 1, 60, 1⟩
def in1 : InRec := ⟨1, 2, 0, 0, 8, 2, 255, 255, 0, 0, 0, 0, 1, 60, 1⟩
/-- Input 0 in the middle of a frame. -/
def filming : State := ((town .active).setInp 0 { next := some 7, ts := some 9 }).setF (Reg.ingStatus 0) 7 1 1

theorem witness_IngressPacketsAreCheckedCountedOrTaken : (town .active).inputOf 0 (video 128 7 9 0 1) = none ∧
    filming.inputOf 1 (video 128 7 9 0 1) = some in0 ∧ (filming.pl.port? 1).isSome = true ∧ (filming.inp 0).fresh = false ∧
    filming.ingressOn = true ∧ (plan0.port? 1).any (fun r => vlanOk r (video 128 7 9 0 1)) = true ∧ (town .boot).ingressOn = false ∧
    goodFor in0 (video 128 7 9 0 1) = true ∧ goodFor in0 (video 128 7 9 0 2) = false ∧ goodFor in0 (video 0 7 9 0 1) = false ∧
    filming.bitOf (Reg.ingStatus 0) 7 = true ∧ (filming.rd (Reg.ingSsrc 0)).toNat ≠ 1 ∧ in0.kind ≠ 1 ∧
    (filming.inp 0).next = some 7 ∧ (filming.inp 0).ts = some 9 ∧ Uncopied filming ∧ in0.receiver = 0 := by decide +kernel
theorem witness_fullBuffers : tsLater 9 7 = true ∧ (9 ≠ 7) ∧ tsLater 5 7 = false ∧ (filming.inp 0).ts = some 9 := by decide +kernel

/-- R138, R140, R156: a packet that finds the buffer full two numbers on is counted, with the two that are missing before it. -/
theorem test_a_full_buffer : (let t := filming.ingPacket 1 (video 128 9 9 0 1) .wide
     (t.rd (Reg.ingCnt 0 7), t.rd (Reg.ingCnt 0 4), (t.inp 0).gap, (t.inp 0).next)) = (1, 2, true, some 10) := by decide +kernel
/-- R135: entering Standby reports membership of the group on the port; leaving for Maintenance leaves it. -/
theorem test_membership : let s := ((town .boot).setMode .standby 0x10)
    let t := s.setMode .maintenance 0x21
    ((s.tx 1).internal.map (fun f => byteAt (ipPayload (etherBody f.bytes)) 8), (s.inp 0).joined, (t.inp 0).joined,
     (t.tx 1).internal.map (fun f => byteAt (ipPayload (etherBody f.bytes)) 8)) = ([4], [(1, 0xEF000001)], [], [4, 3]) := by decide +kernel

def posting (init : InitId) (pitch : Nat) : State := withRegs (lots .active { sets := [set0] })
  [(initKey init (Reg.ingHdSet 1), 0x1000), (initKey init (Reg.ingHdPitch 1), w32 pitch)]
theorem witness_HostWrittenFramesArePostedAndCompleted : Admits (posting host0 64) host0 3 ∧
    (isHost host0 = true ∧ (posting host0 64).mirrorLocked (distOf host0) = false) ∧ (posting host0 64).pl.input? 1 = some in1 ∧
    distOf host0 = in1.dist ∧ distOf core0 ≠ in1.dist ∧ Admits (town .active) core0 3 ∧ in1.kind = 2 ∧ in1.enabled = true ∧
    in0.kind ≠ 2 ∧ ((posting host0 64).inp 1).hd.length < 4 ∧
    ¬ (((town .active).setInp 1 { hd := List.replicate 4 ⟨0, 0, 0, 0⟩ }).inp 1).hd.length < 4 ∧
    (posting host0 64).fld (initKey host0 (Reg.ingHdSet 1)) 0 16 = 0x1000 ∧
    ((posting host0 64).setRange 0 0x1000 0 (64 * 1 + hdLineBytes 0 8)).isSome = true ∧
    ((posting host0 64).setRange 0 0x1000 (4194304 - 95) (64 * 1 + hdLineBytes 0 8)).isSome = false ∧
    (64 ≠ 0 ∧ 64 % 64 = 0 ∧ hdLineBytes 0 8 ≤ 64) ∧ (posting host0 64).mirroring = false ∧
    (((town .active).setInp 1 { hd := [⟨0x1000, 0, 64, 7⟩] }).inp 1).hd = [⟨0x1000, 0, 64, 7⟩] ∧
    ((lots .active { sets := [set0], poison := [5 * 32768] }).set? 0x1000).any
      (fun x => (lots .active { sets := [set0], poison := [5 * 32768] }).poisoned x 0 96) = true ∧
    (withRegs (town .active) [(Reg.ingCfg 1, 8)]).bitOf (Reg.ingCfg 1) 3 = true := by decide +kernel
theorem witness_IngressControl :
    ({ town .active with plan := some { plan0 with inputs := [in0] } } : State).pl.inputs = [in0] ∧
    in0.enabled = true ∧ in0.kind ≠ 2 ∧ (town .active).ingressOn = true ∧ in0.paths.contains 1 = true ∧ (0#32 == 0) = true ∧
    in0.paths.contains 0 = false ∧ Admits (town .active) host0 3 ∧ (town .active).pl.input? 0 = some in0 ∧
    Admits { town .active with host := [(1, { link := true })], plan := some { plan0 with districts := [⟨1, 1, 1, 0, 0, 8, 1⟩] } } host1 3 ∧
    distOf host1 ≠ in0.dist ∧ (withRegs (town .active) [(Reg.ingStatus 0, 0x62)]).inState 0 = 2 ∧ (town .active).inState 0 ≠ 2 ∧
    (withRegs (town .active) [(Reg.ingStatus 0, 0x62)]).bitOf (Reg.ingStatus 0) 5 = true ∧
    (withRegs (town .active) [(Reg.ingStatus 0, 0x62)]).bitOf (Reg.ingStatus 0) 6 = true ∧ (town .safe).ingressOn = false := by
  decide +kernel

/-! ### Witnesses: 06, 07 -/

def can0 : CanRec := ⟨0, 0, 0, 1, 64, 4, 2, 0, 2, 0, 0, 0, 3⟩
def tile0 : TileRec := ⟨0, 0, 0, 0, 0, 0, 0, 256, 256, 0, 0, 0x1000, 0, 0x0A0000000001⟩
/-- The shadow of layer 15: input, crop, size and level. -/
def shadow (i cw ch dw dh al : Nat) : State := withRegs (town .active)
  (List.zip ((List.range 6).map (fun k => Reg.plzLsrc 0 15 + 4 * k))
    [w32 i, 0, pack [(16, ch), (0, cw)], 0, pack [(16, dh), (0, dw)], w32 al])
theorem witness_PlazaCommitsAreCheckedAndPended : Admits (town .active) host0 4 ∧ Admits (town .active) host0 4 false ∧
    (town .active).canvas? 0 = some can0 ∧ (town .active).canvas? 3 = none ∧
    (town .active).pl.canvas? 0 = some can0 ∧ can0.dist = distOf host0 ∧ can0.dist ≠ distOf host1 ∧
    Admits { town .active with host := [(1, { link := true })], plan := some { plan0 with districts := [⟨1, 1, 1, 0, 0, 16, 1⟩] } } host1 4 ∧
    (shadow 0 8 2 8 2 0x1001).commitCode 0 15 = 0x0D ∧ (shadow 0xFF 0 0 0 0 0x1000).commitCode 0 15 = 0 ∧
    (shadow 7 8 2 8 2 0).commitCode 0 15 = 0x06 ∧ (shadow 0 9 2 8 2 0).commitCode 0 15 = 0x01 ∧
    (shadow 0 8 2 513 2 0).commitCode 0 15 = 0x02 ∧ (shadow 0 8 2 512 2 0x1000).commitCode 0 15 = 0 := by decide +kernel

def drawing (row : Nat) : State :=
  { town .active with plz := [(0, { composing := true, next := row })], lot := { sets := [{ set0 with id := 2 }] } }
theorem witness_PlazasLatchComposeAndComplete : (town .active).canvas? 0 = some can0 ∧ (town .active).plazaOn = true ∧
    (((town .active).setPz 0 { pend := [(15, List.replicate 6 0)] }).pz 0).pend = [(15, List.replicate 6 0)] ∧
    (town .safe).plazaOn = false ∧ ((drawing 3).pz 0).composing = true ∧ 3 = ((drawing 3).pz 0).next ∧ 3 < can0.height ∧
    can0.cut = false ∧ ((drawing 3).pz 0).wbOn = false ∧ (drawing 3).lot.poison = [] ∧ Uncopied (drawing 3) ∧
    ((drawing 3).set? 2).any (fun x => (64 * 4 * 8 + 3 * 64 * 8) + 64 * 8 ≤ x.bytes) = true ∧
    ((drawing 4).pz 0).next = can0.height ∧ ((drawing 3).pz 0).next ≠ can0.height ∧ ((town .active).pz 0).composing = false := by
  decide +kernel

def tset (m wg sel : Nat) : State := withRegs (town .active)
  [(Reg.blvTmaster 0, w32 m), (Reg.blvTwhite 0, w32 wg), (Reg.blvTsel 0, w32 sel)]
theorem witness_BoulevardSettingsAndRuns : Admits (town .active) host0 5 ∧ (town .active).pl.tile? 4095 = none ∧
    (town .active).pl.tile? 0 = some tile0 ∧ (town .active).blvMay 0 0 = true ∧ (town .active).blvMay 1 0 = false ∧
    ({ town .active with plan := some { plan0 with canvases := [{ can0 with width := 0 }] } } : State).canvas? 0 = none ∧
    (tset 0x1001 0 0).tileCommitCode tile0 = 0x03 ∧ (tset 0x1000 0x1000 1).tileCommitCode tile0 = 0x01 ∧
    (tset 0 0 2).tileCommitCode tile0 = 0x02 ∧ (tset 0x1000 0x10001000 4).tileCommitCode tile0 = 0 ∧
    field 0x1000#32 0 16 ≤ 0x1000 ∧ 0x1000 < field 0x1001#32 0 16 ∧
    ({ town .active with blv := { cur := [(15, ⟨1, 0, 2, 15, 0⟩)] } } : State).blv.cur.find? 15 = some ⟨1, 0, 2, 15, 0⟩ ∧
    (town .active).blv.cur.find? 15 = none ∧ (0 : Nat) < 65536 := by decide +kernel

/-- Port 0 with jobs and frames under way; frame 1's presentation time 5 ms after the epoch. -/
def sending (a : AvePort) (sec : Nat) : State :=
  { town .active with ave := { ports := [(0, a)], canvases := [(0, { pres := [(1, 5000000)] })] },
                      lot := { sets := [{ set0 with id := 3 }], poison := [5 * 32768] }, clt := { sec := sec } }
def job : TileJob := { tile := 0, n := 1, cut := false, total := 1 }
def held : TileJob := { job with held := [{ i := 0, bytes := List.replicate 12 0 }], fetch := 1 }
def cutJob : TileJob := { job with cut := true, held := [{ i := 0, bytes := List.replicate 12 0, go := false }] }
theorem witness_AvenuesFetchStartAndGiveUpSlices : (town .standby).active = false ∧ (sending { jobs := [job] } 0).active = true ∧
    (sending { jobs := [job] } 0).firstJob [job] = some job ∧ ((sending { jobs := [job] } 0).asOf 1).pl.tile? 0 = some tile0 ∧
    ((sending { jobs := [job] } 0).av 0).occupied + (sending { jobs := [job] } 0).sliceBytes tile0 0 ≤ 262144 ∧
    ((sending { jobs := [job] } 0).set? 3).any (fun z => (sending { jobs := [job] } 0).poisoned z 0 12) = true ∧
    (drawing 3).lot.poison = [] ∧ ((sending { jobs := [job] } 0).av 0).bad.contains (0, 1) = false ∧
    (sending { jobs := [job], frames := [{ n := 1, left := [0] }] } 0).awaited 0 0 1 = true ∧
    (sending { jobs := [cutJob] } 0).black = false ∧
    (((sending { jobs := [cutJob] } 0).av 0).jobs.filter (·.cut)).flatMap (fun j => (j.held.filter (!·.go)).map (fun h => (j, h))) =
      [(cutJob, { i := 0, bytes := List.replicate 12 0, go := false })] ∧
    ((sending {} 0).tileLayout tile0).channels * fmtBits ((sending {} 0).tileLayout tile0).format ≠ 0 ∧
    ((sending {} 0).av 0).hold = 0 ∧ (sending {} 0).speed 0 = 1 ∧
    ((sending { frames := [{ n := 1, left := [0] }] } 1).av 0).frames = [{ n := 1, left := [0] }] ∧
    (sending {} 1).dueOf 0 0 1 = some 4900000 ∧ 4900000 ≤ (sending {} 1).ptpNow ∧
    Admits (town .active) host0 6 false ∧ (sending { jobs := [held] } 0).nextSlice 0 = some held := by decide +kernel
theorem oneSlice_occupied (b : List Byte) :
    ((sending { jobs := [{ job with held := [{ i := 0, bytes := b }] }] } 0).av 0).occupied = 0 + (0 + b.length) := rfl
theorem witness_fullSliceBuffer : ∃ b : List Byte,
    262144 < ((sending { jobs := [{ job with held := [{ i := 0, bytes := b }] }] } 0).av 0).occupied + 12 :=
  ⟨List.replicate 262144 0, by rw [oneSlice_occupied, List.length_replicate]; decide⟩

/-! ### Witnesses: 08 -/

/-- A descriptor staged for port 0: operation, tile, segment size, length, set. -/
def desc (op tile seg len set : Nat) : List Word32 :=
  [pack [(16, 0x77), (0, op)], pack [(16, seg), (0, tile)], 0, w32 len, w32 set, 0, 0, 0]
def cq (m : Mode) (d : List Word32) (wp : Nat) : State :=
  let s := withRegs (lots m { sets := [set0] }) (List.zip ((List.range 8).map (fun k => initKey host0 (Reg.lmsCqStage 0 k))) d)
  s.cqSet 0 wp 0
/-- R360: a control queue whose pointer and shadow copy differ, and one that agrees. -/
theorem witness_controlPointers : ((cq .standby [] 5).setLp 0 {}).queMismatch 0x40 = true ∧ (cq .standby [] 5).queMismatch 0x40 = false ∧
    (∀ t ∈ (cq .standby [] 5).pl.tiles, t.id < 4096) := by decide +kernel
theorem witness_ControlQueuesCheckPostAndComplete : Admits (cq .standby (desc 1 0 64 0 0) 0) host0 7 ∧
    Admits (town .standby) core0 7 ∧ (town .standby).pl.port? 0 = plan0.ports.head? ∧
    plan0.ports.all (fun r => r.dist == distOf host0 && r.dist != distOf core0) = true ∧ (1#32).getLsbD 0 = true ∧
    (0#32).getLsbD 0 = false ∧ ((cq .standby [] 256).cqWp 0 + 512 - (cq .standby [] 256).cqRp 0) % 512 = 256 ∧
    ((cq .standby [] 255).cqWp 0 + 512 - (cq .standby [] 255).cqRp 0) % 512 ≠ 256 ∧
    (cq .standby (desc 1 0 64 0 0) 0).cqStaged host0 0 = desc 1 0 64 0 0 ∧ (cq .standby (desc 3 0 64 0 0) 0).cqCheck 0 (desc 3 0 64 0 0) = 0x02 ∧
    (cq .standby [] 0).cqCheck 0 (desc 2 5 64 0 0) = 0x04 ∧ (cq .standby [] 0).cqCheck 0 (desc 1 0 63 0 0) = 0x03 ∧
    (cq .standby [] 0).cqCheck 0 (desc 1 0 9505 0 0) = 0x03 ∧ (cq .standby [] 0).cqCheck 0 (desc 1 0 9504 16777217 0x1000) = 0x0D ∧
    (cq .standby [] 0).cqCheck 0 (desc 1 0 64 16777216 0x1000) = 0x03 ∧ (cq .standby [] 0).cqCheck 0 (desc 1 0 9504 4194305 0x1000) = 0x09 ∧
    (cq .standby [] 0).cqCheck 0 (desc 1 0 9504 4194304 0x1000) = 0 ∧ (cq .standby [] 0).active = false ∧
    ((cq .standby [] 0).ses 0).out = [] ∧ Admits (town .standby) host0 7 false ∧ ((town .standby).lp 0).cpl = [] ∧
    (((town .standby).setLp 0 { cpl := [(1, 2)] }).lp 0).cpl = [(1, 2)] := by decide +kernel

/-- A message of tile 0 to port 0: type, TSN, status, expected TSN. -/
def tileMsg (ty tsn st ex : Nat) : List Byte :=
  etherHeader 0x020000000001 0x0A0000000001 0 0x88B5 ++
    [1, b8 ty] ++ beBytes 2 64 ++ [0, 0] ++ beBytes 2 0 ++ List.replicate 16 0 ++ beBytes 2 tsn ++ [b8 st, 0] ++ beBytes 2 ex ++ List.replicate 34 0
def talking (x : Session) : State :=
  { (withRegs (town .active) [(Reg.prtStatus 0, 1)]).setLp 0 {} with lms := { sess := [(0, x)] }, lot := { sets := [set0] } }
def out1 (op : Nat) : Outst := { tsn := 9, tag := 0x77, qpos := 0, qpos' := 0, desc := desc op 0 64 64 0x1000 }
def heard (s : State) (f : List Byte) : Bool :=
  let h := etherBody f
  s.linkUp 0 && (s.pl.port? 0).any (fun r => natBit r.use 0 && dstMac f == r.mac) && byteAt h 0 == 1 && beAt h 2 2 == 64 &&
    (s.tileOn 0 (beAt h 6 2)).any (fun t => t.mac == srcMac f) && beAt h 8 4 == (s.rd Reg.lmsEpoch).toNat &&
    (byteAt h 1 == 0x11 && (s.ses 0).out.any (·.tsn == beAt h 24 2) || byteAt h 1 == 0x13 && (s.ses 0).base == some (beAt h 24 2))
theorem witness_TileSessionsAcknowledgeReplayAndResync : (town .active).linkUp 0 = false ∧
    heard (talking { st := .up, out := [out1 1] }) (tileMsg 0x11 9 0 0) = true ∧
    heard (talking { st := .up }) (tileMsg 0x11 9 0 0) = false ∧
    heard (talking { st := .resync, base := some 9 }) (tileMsg 0x13 9 0 0) = true ∧
    (talking {}).cqWp 0 = (talking {}).cqRp 0 ∧ ((talking { out := [out1 1] }).ses 0).out = [out1 1] ∧ (out1 1).mute = false ∧
    field ((out1 1).desc.getD 0 0) 0 8 = 1 ∧ ((talking {}).lp 0).cpl.length < 512 ∧
    field ((out1 2).desc.getD 0 0) 0 8 = 2 ∧ descSegs (out1 2).desc = 1 ∧ Uncopied (talking {}) ∧
    byteAt (etherBody (tileMsg 0x11 9 1 9)) 26 = 1 ∧ beAt (etherBody (tileMsg 0x11 9 1 9)) 28 2 = (out1 1).tsn ∧
    0 < (talking {}).lmsRetry ∧ (talking { retries := 15 }).lmsRetry ≤ 15 ∧ ((talking { timer := some 0 }).ses 0).timer = some 0 ∧
    (talking {}).pl.tile? 0 = some tile0 ∧ (talking {}).active = true ∧ tile0.port < 64 ∧ ((talking {}).ses 0).timer = none ∧
    ((talking { st := .down, ticks := 64 }).ses 0).st = .down ∧ 64 ≤ ((talking { st := .down, ticks := 64 }).ses 0).ticks ∧
    63 < 64 := by decide +kernel

/-- Two hosts that may ring, and the same under a blackout. -/
def bells : State := { town .active with
  plan := some { plan0 with sys := { plan0.sys with fireAuth := 3 } }
  host := [(0, { link := true }), (1, { link := true })] }
def blackedOut : State := withRegs bells [(Reg.lmsBlackout, 1)]

theorem witness_BlackoutIsRungAndReleased : field 0xF1AE0000#32 16 16 = 0xF1AE ∧ field 0#32 16 16 ≠ 0xF1AE ∧
    (town .active).auth false (·.fireAuth) 0 = true ∧ (inMode .active).auth false (·.fireAuth) 0 = false ∧
    (town .active).arrives (BitVec.ofNat 8 (0x10 + 0)) = true ∧ (∀ r ∈ (town .active).pl.ports, r.port < 64) ∧
    (inMode .active).arrives (BitVec.ofNat 8 (0x10 + 0)) = false ∧
    ({ talking {} with plan := some { plan0 with ports := plan0.ports.take 1 } } : State).pl.ports = plan0.ports.take 1 ∧
    plan0.ports.take 1 = [⟨0, 1, 0, 0, 9600, 1, 0x020000000001, 0, 100⟩] ∧ natBit 1 0 = true ∧ ((talking {}).tx 0).cur = none ∧
    ByHouse (town .active) core0 ∧ Admits (town .active) host0 7 ∧ field 0xB1AC0000#32 16 16 = 0xB1AC ∧
    (town .active).black = false ∧ (withRegs (town .active) [(Reg.lmsBlackout, 1)]).black = true ∧
    blackedOut.black = true ∧ blackedOut.auth false (·.fireAuth) 1 = true ∧ host1 ≠ host0 ∧ distOf host0 < distOf host1 ∧
    (blackedOut.hp 0).queue = [] ∧ blackedOut.arrives host1 = true ∧ Admits blackedOut host0 7 ∧ blackedOut.lot.waiting = [] ∧
    blackedOut.mode.pend = none := by decide +kernel

/-- R236 and R368 within one FAB cycle: a bell with the release of another district, and the bells of two districts. -/
theorem test_bells_of_one_cycle :
    (let t := blackedOut.accesses [⟨host0, Reg.lmsBlackRel, true, 0xB1AC0000⟩, ⟨host1, Reg.hstFire, true, 0xF1AE0000⟩]
     (t.black, t.bgen, t.fld Reg.lmsBlackcnt 24 8, t.fld Reg.lmsBlackout 16 4)) = (true, 0, 0x0E, 1) ∧
    (let t := bells.accesses [⟨host1, Reg.hstFire, true, 0xF1AE0000⟩, ⟨host0, Reg.hstFire, true, 0xF1AE0000⟩]
     (t.black, t.bgen, t.fld Reg.lmsBlackcnt 0 24, t.fld Reg.lmsBlackout 16 4)) = (true, 1, 2, 0) := by decide +kernel


/-! ### Witnesses: 09 -/

def linked (m : Mode) (p : Nat) (st : Nat) : State := withRegs (town m) [(Reg.prtStatus p, w32 st)]
theorem witness_LinksAndTransmitters : (town .boot).pl.port? 0 = some ⟨0, 1, 0, 0, 9600, 1, 0x020000000001, 0, 100⟩ ∧
    (town .boot).linkUp 0 = false ∧ (town .boot).mode.mode ≠ .reset ∧ natBit 1 0 = true ∧ natBit 2 0 = false ∧
    (town .boot).pl.port? 63 = none ∧ (linked .active 0 1).linkUp 0 = true ∧ Admits (town .active) core0 8 ∧ Admits (town .active) host0 8 ∧
    isHouse core0 = true ∧ isHouse host0 = false ∧ ((town .active).pl.port? 0).any (·.dist == distOf host0) = true ∧
    ((town .active).pl.port? 63).any (·.dist == distOf host0) = false ∧
    (linked .active 0 0x40).fld (Reg.prtStatus 0) 6 2 = 1 ∧ (linked .active 0 0).fld (Reg.prtStatus 0) 6 2 ≠ 1 ∧
    (((town .active).setTx 0 { cur := some ⟨.internal, []⟩ }).tx 0).cur = some ⟨.internal, []⟩ ∧
    ((town .active).tx 0).cur = none ∧ ((town .active).tx 0).expQ = [] ∧ (town .safe).ptpOn = false ∧
    (linked .active 0 1).txNext 0 = none ∧
    (((linked .active 0 1).setAv 0 { items := [.notice 0 0] }).avenueNext 0).isSome = true ∧
    (((linked .active 0 1).setTx 0 { internal := [⟨.internal, []⟩] }).othersNext 0).isSome = true ∧
    (((linked .active 0 1).setTx 0 { internal := [⟨.internal, []⟩] }).txNext 0).isSome = true := by decide +kernel

/-- A frame for port 1: destination, VLAN type or not, EtherType, length. -/
def frame (dst vlan ty n : Nat) : List Byte := etherHeader dst 0x02 vlan ty ++ [0, 1] ++ List.replicate n 0
/-- Port 1 with no USE, and receive ring 0 enabled in set 0x1000 with one descriptor of 64 bytes. -/
def receiving : State :=
  let s := withRegs (lots .active { sets := [set0] }) [(Reg.prtStatus 1, 1), (Reg.rxrCtl 1 0, 0x80000000), (Reg.rxrCtl 1 0 + 4, 0x1000),
    (Reg.rxrCtl 1 0 + 0x10, 16), (Reg.rxrCtl 1 0 + 0x14, 1), (Reg.rxrFilter 1 0, 0x30000)]
  { s with plan := some { plan0 with ports := [⟨1, 1, 0, 0, 100, 0, 0x020000000002, 0, 100⟩] },
           mem := [(5 * 2097152 + 1, 0x10), (5 * 2097152 + 2, 128)] }
theorem witness_ReceivedFramesAreCountedAndDelivered : (town .active).pl.port? 63 = none ∧ (town .active).linkUp 1 = false ∧
    receiving.pl.port? 1 = some ⟨1, 1, 0, 0, 100, 0, 0x020000000002, 0, 100⟩ ∧ receiving.linkUp 1 = true ∧
    (frame 0 0 0 47).length ≤ 63 ∧ 63 < (frame 0 0 0 48).length ∧ 100 < (frame 0 0 0 85).length ∧
    etherType (frame 0 0 0x8808 48) = 0x8808 ∧ beAt (etherBody (frame 0 0 0x8808 48)) 0 2 = 0x0001 ∧
    beAt (etherBody (etherHeader 0 0 0 0x8808 ++ [1, 2])) 0 2 = 0x0102 ∧
    dstMac (frame 0x020000000002 0 0 48) = 0x020000000002 ∧ isMulticast (dstMac (frame 0x020000000003 0 0 48)) = false ∧
    receiving.bitOf (Reg.prtRxcfg 1) 0 = false ∧ vlanOk ⟨1, 1, 0, 0, 100, 0, 0x020000000002, 0, 100⟩ (frame 0x020000000002 5 0 48) = false ∧
    vlanOk ⟨1, 1, 0, 0, 100, 0, 0x020000000002, 0, 100⟩ (frame 0x020000000002 0 0 48) = true ∧ natBit 0 0 = false ∧
    (linked .active 1 1).rxRing 1 (frame 0x020000000002 0 0 48) = none := by decide +kernel
theorem witness_aFrameFitsItsRing : receiving.ringAvail (.rx 1 0) = 1 ∧
    leAt (receiving.ringDesc (.rx 1 0)) 2 2 = 128 ∧ (receiving.ringDesc (.rx 1 0)).length = 32 ∧
    receiving.rxDescOk 0 (receiving.ringDesc (.rx 1 0)) = true ∧ (frame 0 0 0 48).length ≤ 128 ∧ Uncopied receiving ∧
    receiving.rxRing 1 (frame 0x020000000002 0 0 48) = some 0 := by decide +kernel

theorem witness_FaultsVerifiesAndTheServicePort : ((town .active).pl.port? 0).isSome = true ∧ (town .active).ptpOn = true ∧
    (town .active).linkUp 0 = false ∧ (linked .active 0 1).bitOf (Reg.prtStatus 0) 3 = false ∧
    (((linked .active 0 1).setTx 0 { zeros := [{ uni := 1 }] }).zeroNext 0).isSome = true ∧ (linked .active 0 1).zeroNext 0 = none ∧
    ({ town .active with lcs := { link := true } } : State).lcs.link = true ∧ (town .active).lcs.link = false ∧
    (withRegs (town .active) [(Reg.prtPreempt 1, 1)]).bitOf (Reg.prtPreempt 1) 0 = true ∧ (town .active).bitOf (Reg.prtPreempt 1) 0 = false ∧
    natBit 2 0 = false ∧ etherType ((frame 0 0 0x8808 48).take 1518) = 0x8808 ∧ beAt (frame 0 0 0x88B6 48) 12 2 = 0x88B6 ∧
    beAt (frame 0 5 0x88B6 48) 12 2 ≠ 0x88B6 := by decide +kernel

/-- R265, R275 and the worked example: the flags of a truncated frame's buffers are 0x81 and, on its last, 0x96. -/
theorem test_a_truncated_frame :
    let s := withRegs receiving [(Reg.rxrCtl 1 0 + 0x14, 2)]
    let s := { s with mem := s.mem ++ [(5 * 2097152 + 9, 16), (5 * 2097152 + 33, 0x10), (5 * 2097152 + 34, 64), (5 * 2097152 + 41, 16)] }
    let s := { s with plan := some { s.pl with ports := [⟨1, 1, 0, 0, 192, 0, 0x020000000002, 0, 100⟩] } }
    let t := s.portReceive 1 (frame 0x020000000002 0 0x1234 200) { fcsOk := false, pcsOk := true, smdOk := true, express := false, room := .any }
    (Mem.read t.mem (5 * 2097152 + 31), Mem.read t.mem (5 * 2097152 + 63), t.rd (Reg.prtCntLo 1 4)) = (0x81, 0x96, 1) := by decide +kernel

/-- R270: an express frame due at the start of a preemptable frame leaves once 64 bytes have gone, and the frame goes on after it. -/
theorem test_an_express_frame_waits_for_64_bytes :
    let s := (linked .active 0 0x21).setTx 0 { cur := some ⟨.internal, List.replicate 1000 0⟩ }
    let t := (s.express 0 .delayReq).tx 0
    (t.gone, t.since == t.expEnd, t.expEnd, (((s.express 0 .delayReq).express 0 .sync).tx 0).gone) = (64, true, 197 + (64 + 20) * 320 * 96 / 10000, 64) := by
  decide +kernel

/-- Transmit ring 3 of port 0: control word, set, offset, size, TAIL. -/
def ring (m : Mode) (ctl set off size tail : Nat) : State :=
  let b := Reg.txrCtl 0 3
  withRegs (lots m { sets := [set0] })
    [(Reg.prtStatus 0, 1), (b, w32 ctl), (b + 4, w32 set), (b + 8, w32 off), (b + 0x10, w32 size), (b + 0x14, w32 tail)]
theorem witness_RingsAreEnabledFedAndStopped : Admits (town .active) host0 8 ∧ (town .active).ringDist (.tx 0 3) = some (distOf host0) ∧
    (town .active).ringDist (.tx 63 3) = none ∧ Admits (town .active) core0 8 ∧ distOf core0 = houseDist ∧ Admits (town .active) host0 0 ∧
    isHost host0 = true ∧ (ring .active 0x80000000 0 0 0 0).ringOn (.tx 0 3) = true ∧ (ring .active 0 0 0 0 0).ringOn (.tx 0 3) = false ∧
    ((ring .active 0 0x1000 0x3FFE00 16 0).setRange 0 0x1000 0x3FFE00 (32 * 16)).isSome = true ∧
    ((ring .active 0 0x1000 0x3FFE40 16 0).setRange 0 0x1000 0x3FFE40 (32 * 16)).isSome = false ∧
    (ring .active 0 0x1000 0x3FFE00 16 0).ringOff (.tx 0 3) % 64 = 0 ∧ (ring .active 0 0x1000 32 16 0).ringOff (.tx 0 3) % 64 ≠ 0 ∧
    (ring .active 0 0x1000 0 16 0).ringEntries (.tx 0 3) = 2 ^ 4 ∧ (ring .active 0 0x1000 0 24 0).ringEntries (.tx 0 3) = 24 ∧
    (17 + 2 * 16 - 0 % (2 * 16)) % (2 * 16) = 17 ∧ (16 + 2 * 16 - 0 % (2 * 16)) % (2 * 16) = 16 ∧
    (ring .active 0x80000000 0x1000 0 16 1).ringAvail (.tx 0 3) ≠ 0 ∧ (ring .active 0x80000000 0x1000 0 16 0).ringAvail (.tx 0 3) = 0 ∧
    (ring .active 0 0 0 0 0).linkUp 0 = true ∧ (town .safe).mode.mode = .safe ∧
    leAt ((ring .active 0x80000000 0x1000 0 16 1).ringDesc (.tx 0 3)) 4 4 = 0 ∧
    (ring .active 0 0 0 0 0).txrCheck ⟨0, 1, 0, 0, 9600, 1, 0x020000000001, 0, 100⟩ (List.replicate 32 0) = 0x03 ∧
    (ring .active 0 0 0 0 0).txrCheck ⟨0, 1, 0, 0, 9600, 1, 0x020000000001, 0, 100⟩ ([0, 0x20, 0, 0, 14] ++ List.replicate 27 0) = 0x02 ∧
    (ring .active 0 0 0 0 0).txrCheck ⟨0, 1, 0, 0, 9600, 1, 0x020000000001, 0, 100⟩ ([0, 0x10, 0, 0, 14] ++ List.replicate 27 0) = 0 ∧
    (ring .active 0 0 0 0 0).txrClean ([0, 0x10, 0, 0, 14] ++ List.replicate 27 0) 1 = 1 ∧
    ({ town .active with rings := [(259, { evtDue := true })] } : State).ringSt (.tx 0 3) = { evtDue := true } ∧
    ((town .active).ringSt (.tx 0 3)).evtDue = false := by decide +kernel

/-! ### Witnesses: 10 -/

def clk (c : CltState) (l : List (Nat × Word32)) : State := withRegs { town .active with clt := c } l
theorem witness_ClocktowerCountsStepsAndLatches : ByHouse (town .active) core0 ∧
    (town .active).hiStage.get 0 (initKey core0 Reg.cltIncrLo) = 0 ∧ (0 : Nat) < incrMin ∧ incrMin ≤ incrMax ∧
    1000000 < (signed 32 (1000001#32).toNat).natAbs ∧ (signed 32 (1000000#32).toNat).natAbs ≤ 1000000 ∧
    (signed 32 (0xFFF0BDC0#32).toNat).natAbs ≤ 1000000 ∧
    (clk { stepAt := some 0 } []).clt.stepAt = some ((clk {} []).now / 24) ∧ (clk {} []).clt.stepAt ≠ some ((clk {} []).now / 24) ∧ (0#16 : BitVec 16) ≠ 0x57E9 ∧
    999999999 < ((clk {} [(initKey core0 Reg.cltStepNs, 1000000000)]).rd (initKey core0 Reg.cltStepNs)).toNat ∧
    ((clk {} [(initKey core0 Reg.cltStepNs, 999999999)]).rd (initKey core0 Reg.cltStepNs)).toNat ≤ 999999999 ∧
    Admits (town .active) host0 9 ∧ isHouse host0 = false ∧ (clk { slew := 1 } []).clt.slew ≠ 0 ∧ Runs (town .active) ∧
    (town .active).clt.slew = 0 ∧ 0 < (town .active).frameRate.1 ∧ 0 < (town .active).frameRate.2 ∧ Admits (town .active) host0 9 false ∧
    ltcRate 60 1 = some (4, 2, 30, 1) ∧ ltcRate 60000 1001 = some (3, 2, 30000, 1001) ∧ ltcRate 7 1 = none ∧
    (clk {} [(Reg.cltLtcCfg, 1)]).ltcOn = true ∧ (town .active).ltcOn = false ∧
    (dropLabel 1800).2.1 % 10 ≠ 0 ∧ (dropLabel 1800).2.2.1 = 0 ∧ (town .active).bitOf Reg.cltLtcinStat 31 = false ∧
    (clk {} [(Reg.cltLtcinStat, 0x80000000)]).bitOf Reg.cltLtcinStat 31 = true := by decide +kernel

/-- The town with a PTP port 2 whose link is up, in a port state. -/
def ptp (m : Mode) (st : Nat) (c : CltState) : State :=
  withRegs { town m with plan := some { plan0 with ports := [⟨2, 1, 0, 0, 9600, 8, 0x02, 0, 100⟩] }, clt := c }
    [(Reg.prtStatus 2, 1), (Reg.cltPport 2, w32 st)]
/-- A PTP message: type and version, length, source, its bytes from 34 on. -/
def ptpMsg (ty ver src : Nat) (body : List Byte) : List Byte :=
  etherHeader 0x011B19000000 0x03 0 0x88F7 ++ [b8 ty, b8 ver] ++ beBytes 2 (34 + body.length) ++ [0, 0, 0, 8] ++ List.replicate 12 0 ++
    beBytes 10 src ++ [0, 0, 0, 0] ++ body
def foreign : Foreign := { src := 5, prio1 := 1, cls := 6, acc := 0x20, var_ := 0, prio2 := 1, gm := 9, steps := 0 }
theorem witness_PtpHearsAnswersAndDisciplines : (ptp .safe 6 {}).ptpOn = false ∧ (ptp .active 6 {}).ptpOn = true ∧
    2 ∈ (ptp .active 6 {}).ptpPorts ∧ 3 ∉ (ptp .active 6 {}).ptpPorts ∧ (ptp .active 6 {}).linkUp 2 = true ∧
    ((ptp .active 6 {}).ptpOf 2 (ptpMsg 0xB 2 5 (List.replicate 30 0))).any (fun m => byteAt m 0 / 16 == 0 && byteAt m 0 % 16 == 0xB &&
      byteAt m 1 % 16 == 2 && m.length == 64 && byteAt m 4 == plan0.sys.ptpDomain && byteAt m 7 == 8 && beAt m 20 10 == 5) = true ∧
    ((ptp .active 6 {}).ptpOf 2 (ptpMsg 0xB 1 5 [])).any (fun m => byteAt m 1 % 16 != 2) = true ∧
    (ptp .active 6 {}).ptpOf 2 (etherHeader 0 0 0 0x0800) = none ∧ (ptp .active 6 {}).pstate 2 = 6 ∧ (ptp .active 9 {}).pstate 2 = 9 ∧
    (ptp .active 9 { master := some (2, foreign) }).clt.master = some (2, foreign) ∧ foreign.src = 5 ∧
    ((ptp .active 9 {}).ptpOf 2 (ptpMsg 0 2 5 (List.replicate 10 0))).any (fun m => byteAt m 0 % 16 == 0 && m.length == 44 &&
      beAt m 20 10 == 5 && !natBit (byteAt m 6) 1 && signed 8 (byteAt m 33) == 0) = true ∧
    (ptp .active 9 {}).pstate 2 ∈ [9, 8] ∧ (town .active).cltSt ≠ 1 ∧ (town .active).cltSt ≠ 2 ∧ (town .active).clt.stepAt ≠ some ((town .active).now / 24) ∧
    (withRegs (town .active) [(Reg.cltStatus, 4)]).cltSt = 4 ∧ (signed 8 0xF9 = -7 ∧ signed 8 1 = 1) ∧
    (ptp .active 9 { slave := { req := some (7, 0), fresh := true } }).clt.slave.req = some (7, 0) ∧
    (withRegs (town .active) [(Reg.cltStatus, 1)]).cltSt = 1 ∧ (withRegs (town .active) [(Reg.cltStatus, 2)]).cltSt = 2 ∧
    ((1000001 * 65536 : Int) / 65536).natAbs > 1000000 ∧ ((-1000000 * 65536 : Int) / 65536).natAbs ≤ 1000000 ∧
    15 ≤ (clk { slave := { good := 15 } } []).clt.slave.good ∧ 3 ≤ (clk { slave := { bad := 3 } } []).clt.slave.bad ∧
    ((ptp .active 6 {}).tx 2).cur = none ∧ (withRegs (ptp .active 6 {}) [(Reg.prtStatus 2, 0)]).linkUp 2 = false ∧
    (ptp .active 5 {}).pstate 2 = 5 ∧ 1 < ((ptp .active 5 { ptp := [(2, { qual := 2 })] }).pp 2).qual ∧ (town .active).clt.master = none := by
  decide +kernel
/-- A source that is not the device itself, and one that is. -/
theorem witness_announcements : (∃ g : Nat, g ≠ Config.clockIdentity.toNat) ∧ (∃ g : Nat, g = Config.clockIdentity.toNat) :=
  ⟨⟨_, Nat.succ_ne_self _⟩, ⟨_, rfl⟩⟩
theorem witness_theMasterAlone : ∀ q, ∀ g ∈ ((clk { master := some (2, foreign), ptp := [(2, { foreign := [foreign] })] } []).pp q).foreign,
    q = 2 ∧ g.src = foreign.src := by
  intro q g h
  by_cases hq : q = 2
  · subst hq; exact ⟨rfl, by simpa [clk, withRegs, State.pp, Tab.get, Tab.find?] using congrArg Foreign.src (List.mem_singleton.mp h)⟩
  · simp [clk, withRegs, State.pp, Tab.get, Tab.find?, hq] at h
/-- R293: a slew of the TICK cycle of a step is discarded with 0x04. -/
theorem test_slew_in_the_cycle_of_a_step : (match exec (.slewStart core0 5) (clk { stepAt := some 0 } []) with
    | .next t => t.clt.slew == 0 && t.fld Reg.cltStatus 24 8 == 4 | _ => false) = true := by decide +kernel
/-- R454, R300: REFCLK fails and the link of port 2 goes down. -/
theorem test_links_go_down_with_refclk : (match exec (.refclkFail true 0) { ptp .active 6 {} with ckg := { ok := true } } with
    | .next t => !t.linkUp 2 && t.cltSt == 4 && (t.pl.ports.map (·.port)).all (· < 64) | _ => false) = true := by decide +kernel

/-! ### Witnesses: 11, 12, 13 -/

def ckg (m : Mode) (c : CkgState) (l : List (Nat × Word32) := []) : State := withRegs { town m with ckg := c } l
theorem witness_ClocksAreWatchedSwitchedAndGated : (ckg .active { ok := true }).ckg.ok = true ∧
    (ckg .active {}).nearExpect 25856 = true ∧ (ckg .active {}).nearExpect 25857 = false ∧ (ckg .active {}).nearExpect 25344 = true ∧
    (ckg .active {}).nearExpect 25343 = false ∧ (ckg .active { wins := 62 }).ckg.wins + 1 < 64 ∧ Runs (ckg .active {}) ∧
    (ckg .active { switch := some true }).ckg.switch ≠ none ∧ (ckg .active { osc := true, good := 14 }).ckg.good + 1 < 16 ∧
    15 ≤ (ckg .active { osc := true, good := 15 }).ckg.good ∧ (ckg .active { osc := true }).ckg.osc = true ∧
    qualifies (List.replicate 16 24704) = true ∧ qualifies (List.replicate 16 26497) = false ∧
    Admits { town .active with plan := some { plan0 with districts := [⟨0, 1, 1, 0, 0, 0xFFFFFF, 1⟩] } } host0 18 ∧ isHouse host0 = false ∧
    Admits (town .active) core0 18 ∧ isHouse core0 = true ∧ 39 < (40#6).toNat ∧ (39#6).toNat ≤ 39 ∧
    (ckg .active { gate := some (39, 0) }).ckg.gate = some (39, 0) ∧ (ckg .active {} [(Reg.ckgGatedLo + 4, 0x80)]).gated 39 = true ∧
    (ckg .active {}).gated 39 = false ∧ (ckg .active {}).unitUsed 0 = true ∧ (ckg .active {}).unitUsed 39 = false ∧
    (ckg .active { waking := [(5, 0)] }).ckg.waking.find? 5 = some 0 ∧ (ckg .active {}).ckg.waking.find? 5 = none ∧
    Admits (town .active) core0 15 ∧ Admits (town .active) host0 15 ∧ field 0x80055#32 16 3 = 0 ∧ field 0x60005#32 16 3 = 6 ∧
    (town .active).relocking 3 = false ∧ ({ town .active with krb := { relock := [3] } } : State).relocking 3 = true ∧
    (withRegs (town .active) [(Reg.krbCkocfg 3, 1)]).fld (Reg.krbCkocfg 3) 0 31 ≠ 0 := by decide +kernel

def fixture (range : Word32) : State := withRegs (lots .active { sets := [set0] }) [(Reg.fxeDset 0, 0x1000), (Reg.fxeDrange 0, range)]
def uni0 : UniRec := ⟨1, 0, 100, 0, 512, 0, 1⟩
def merging (f : FxeState) : State := withRegs { town .active with fxe := f } [(Reg.prtStatus 0, 1)]
theorem witness_FixtureMergesAreRegisteredAndQueued : Admits (town .active) host0 10 ∧ slotAllowed (distOf host0) 0 = true ∧
    slotAllowed (distOf host0) 4 = false ∧ (fixture 0).set? ((fixture 0).fld (Reg.fxeDset 0) 0 16) = some set0 ∧ set0.dist = slotDist 0 ∧
    (town .active).set? ((town .active).fld (Reg.fxeDset 0) 0 16) = none ∧
    (fixture (pack [(16, 1), (0, 63999)])).fxeCode 0 0 = 0 ∧ (fixture (pack [(16, 2), (0, 63999)])).fxeCode 0 0 = 0x02 ∧
    (fixture (pack [(16, 1), (0, 0)])).fxeCode 0 0 = 0x02 ∧ (fixture (pack [(16, 3855), (0, 1)])).fxeCode 0 1 = 0 ∧
    (fixture (pack [(16, 3856), (0, 1)])).fxeCode 0 1 = 0x02 ∧
    (town .standby).active = false ∧ 1 ∉ (merging {}).fxe.due ∧ 1 ∈ (merging { merged := [1] }).fxe.merged ∧
    (merging { due := [1] }).fxe.due = [1] ∧ (merging { due := [1] }).fxe.due.Nodup ∧ 2 ∉ (merging { due := [1] }).groupOf 1 ∧ (merging { due := [1] }).pl.uni? 1 = some uni0 ∧ uni0.sync = 0 ∧ uni0.out < 64 ∧
    (merging {}).linkUp uni0.out = true ∧ (merging {}).fxeCover 1 = [] ∧
    (⟨0, 1, 5, 2, 1⟩ : FixRec).merge = 1 ∧ (6 : Nat) < 5 + 2 ∧ ¬ (7 : Nat) < 5 + 2 ∧
    (mergeSlot [⟨0, 1, 5, 2, 1⟩] [⟨0, 100, 0, [9, 9, 9, 9, 9, 4]⟩, ⟨1, 100, 0, [1, 1, 1, 1, 1, 7]⟩] 0 6).toNat = 7 ∧
    (mergeSlot [⟨0, 1, 5, 2, 1⟩] [⟨0, 100, 0, [9, 9]⟩, ⟨1, 100, 0, [1, 1]⟩] 1 1).toNat = 1 := by decide +kernel

def dmx (m : Mode) (x : DmxPort) (l : List (Nat × Word32) := []) : State := withRegs { town m with fxe := { dmx := [(3, x)] } } l
/-- R34, R316, R322: a packet that waited carries the merge of its frame; leaving Active stops the packet on the line. -/
theorem test_dmx_waits_and_stops :
    let s := (dmx .active { rdm := some { expect := 1, bytes := [], sent := some 0 }, vals := [7] }).dmxDue 3 ⟨2, 0, 100, 0, 1, 0xF3, 1⟩
    let s := s.setDmx 3 { s.dmxp 3 with got := some [9], awaits := false }
    ((s.dmxp 3).wait, ((s.dmxStart 3 ⟨2, 0, 100, 0, 1, 0xF3, 1⟩).dmxp 3).vals,
     ((s.dmxStart 3 ⟨2, 0, 100, 0, 1, 0xF3, 1⟩).dmxLeave.dmxp 3).since, (s.dmxDue 3 ⟨2, 0, 100, 0, 1, 0xF3, 1⟩).rd (Reg.fxeDmxskip 3)) =
      (true, [9], none, 1) := by decide +kernel

def rdmEx (e : Nat) (t0 : Option Nat) : Rdm := { expect := e, bytes := [0xCC, 1, 24], sent := t0 }
def rdmGood : List Byte := [0xCC, 1, 24] ++ List.replicate 21 0 ++ beBytes 2 (0xCC + 1 + 24)
def discGood : List Byte := [0xFE, 0xAA] ++ [0xAA, 0x55, 0xAA, 0x55, 0xAA, 0x55, 0xAA, 0x55, 0xAA, 0x55, 0xAA, 0x55] ++ [0xAF, 0x55, 0xFA, 0xFF]
theorem witness_DmxPacketsEndAndRdmExchanges : ((dmx .active {}).dmxp 3).since = none ∧
    ((dmx .active { since := some 0 }).dmxp 3).since = some 0 ∧ ((dmx .active { since := some 0 }).dmxp 3).rdm = none ∧
    ((dmx .active { since := some 0, rdm := some (rdmEx 1 none) }).dmxp 3).rdm = some (rdmEx 1 none) ∧
    Admits (town .active) host0 10 ∧ distOf host0 = (dmx .active {} [(Reg.fxeDmxcfg 3, 0)]).rdmDist 3 ∧ Admits (town .active) core0 10 ∧
    distOf host0 ≠ (dmx .active {} [(Reg.fxeDmxcfg 3, 1)]).rdmDist 3 ∧ (dmx .standby {}).active = false ∧
    byteAt (wordsToBytes ((List.range 64).map (fun i => (dmx .active {} [(rdmReqKey 3 0, 0x1801CC)]).rd (rdmReqKey 3 i)))) 0 = 0xCC ∧
    byteAt (wordsToBytes [0x1801CC#32]) 1 = 0x01 ∧ 24 ≤ byteAt (wordsToBytes [0x1801CC#32]) 2 ∧
    byteAt (wordsToBytes [0x1701CC#32]) 2 < 24 ∧
    ((dmx .active { rdm := some (rdmEx 1 (some 0)) }).dmxp 3).wait = false ∧ (rdmEx 1 (some 0)).discard = false ∧
    rdmValid rdmGood = true ∧ rdmValid [0xCC] = false ∧ (discUid discGood).isSome = true ∧ discUid [0xAA] = none := by decide +kernel

def lane (n : Nat) : Lane := { wp := n, wp' := n }
def work (b : List Word32) : State :=
  { town .active with que := { lanes := [(0 * 8 + 2, { lane 1 with slots := [(0, b)] })] } }
def echo : Item := { dist := 0, handler := 1, level := 3, notify := false, tag := 5, cost := 2, args := [] }
def round (x : Item) (b : Bool) : State := withRegs { town .active with sch := { recs := if b then [(7, x)] else [] } }
  [(Reg.schDdef 0 3, 2), (Reg.schDdef 0 7, 2), (Reg.schDcfg 0, 0x00640704), (Reg.schDage 0, 1)]
def busy : State :=
  let run := fun c => (c, { echo with st := .running c, level := if c == 9 then 2 else 3 })
  withRegs { town .active with sch := { recs := (List.range 16).map run ++ [(16, { echo with level := 7 })] } }
    [(Reg.schDdef 0 7, 2), (Reg.schDcfg 0, 0x00640704)]

theorem witness_ItemsAreAdmittedPickedAndCompleted : Admits (town .active) host0 12 ∧ slotAllowed (distOf host0) 0 = true ∧
    slotAllowed (distOf host0) 4 = false ∧ (town .active).mirrorLocked (distOf host0) = false ∧ (List.replicate 15 0#32).length = 15 ∧
    (town .active).queMismatch 0 = false ∧ (lane 63).level 64 < 64 ∧ 64 ≤ (lane 64).level 64 ∧ 14 + [0#32].length < 16 ∧
    (town .active).admitFrom = none ∧ (town .safe).schOn = false ∧ (work [1]).admitFrom = some 0 ∧ (work [1]).topLane 0 = some 2 ∧
    (work [1]).queMismatch 0 = false ∧ (work [1]).freeRecord 0 = some 0 ∧
    (withRegs (work [1]) [(Reg.schDcfg 0, 0x00640704)]).admitCode 0 ([1, 0, 2, 0, 0, 0, 1, 0] ++ List.replicate 56 0) = 0 ∧
    (work [1]).admitCode 0 ([2, 0, 2, 0, 0, 0, 1, 0] ++ List.replicate 56 0) ≠ 0 := by decide +kernel
theorem witness_ItemsAge : ((round echo true).sch.recs.map (·.1)).Pairwise (· < ·) ∧ Runs (round echo true) ∧
    (round echo true).item? 7 = some echo ∧ echo.level < 6 ∧ { echo with level := 6 }.level = 6 ∧
    ((round echo true).rd (Reg.schDage (slotOf 0))).toNat ≤ (6144 - echo.since) / 24 := by decide +kernel
theorem witness_ItemsAreDispatched : (round echo true).schOn = true ∧ (round echo true).topLevel = some 3 ∧
    (round echo true).parkedAtLevel 3 = none ∧ ((round echo true).begin.pickReady 3).1 = some (7, echo) ∧
    (round echo true).coreFor 1 = some 0 ∧ (round { echo with st := .parked 31 } true).parkedAtLevel 3 = some (7, { echo with st := .parked 31 }) ∧
    (round { echo with st := .parked 31 } true).idleCores ≠ [] ∧ (round { echo with st := .parked 31 } true).topLevel = some 3 ∧
    busy.topLevel = some 7 ∧ busy.idleCores = [] ∧ busy.victim = some (9, { echo with st := .running 9, level := 2 }, 9) ∧
    busy.freeParking = some 0 ∧ (busy.begin.pickReady 7).1 = some (16, { echo with level := 7 }) ∧ (round echo false).topLevel = none := by
  decide +kernel
def ranItem (d : Option (Nat × Nat × Nat)) : Item := { echo with st := .running 15, done := d }
theorem witness_ItemsEnd : (round (ranItem none) true).onCore 15 = some (7, ranItem none) ∧ (round echo true).onCore 15 = none ∧
    (ranItem none).handler < 0x7000 ∧ (ranItem (some (0, 9, 100))).done = some (0, 9, 100) ∧ (ranItem none).orphan = false ∧
    (town .active).queMismatch 8 = false ∧ ((town .active).lane 8 3).level 32 < 32 ∧ { echo with orphan := true }.orphan = true ∧
    (∀ e ∈ (round (ranItem none) true).sch.recs, e.2.st = .ended → e.2.dist = 0 → e.2.lane = 3 → False) ∧
    (round { echo with st := .ended } true).sch.recs.filter (fun e => e.2.st == .ended && e.2.dist == slotDist 0) =
      [(7, { echo with st := .ended })] := by decide +kernel

def args (l : List Nat) (h : Nat) : Item := { ranItem none with handler := h, args := l }
def data (p : Bool) : State := lots .active { sets := [set0], poison := if p then [5 * 32768] else [] }
def traced (ctl set off : Nat) : State := withRegs (lots .active { sets := [set0] })
  [(Reg.schTrcCtl 0, w32 ctl), (Reg.schTrcSet 0, w32 set), (Reg.schTrcOffLo 0, w32 off)]
theorem witness_HandlersDoTheirWork : (round echo true).onCore 15 = none ∧ (round (ranItem none) true).onCore 15 = some (7, ranItem none) ∧
    (ranItem none).handler = 1 ∧ (ranItem none).handler ≠ 0x10 ∧ (round (ranItem none) true).usedTime (ranItem none) ≤ (ranItem none).limit ∧
    (ranItem none).limit < (round (ranItem none) true).usedTime { ranItem none with used := 76801 } ∧
    (args [0x1000, 4194303, 1] 0x10).arg 2 ≠ 0 ∧ (data false).argSet (args [0x1000, 4194303, 1] 0x10) 0 4194303 1 = some set0 ∧
    (data false).argSet (args [0x1000, 4194303, 2] 0x10) 0 4194303 2 = none ∧
    (data false).argSet (args [0x1000, 0, 8, 0x1000, 8] 0x10) 3 8 8 = some set0 ∧ (data false).cleanPrefix set0 0 8 = 8 ∧
    (data true).cleanPrefix set0 0 8 < 8 ∧ 4 % 8 ≠ 0 ∧ (data true).poisoned set0 0 1 = true ∧ (data false).poisoned set0 0 1 = false ∧
    (data false).argSet (args [0x1000, 1, 0] 0x20) 0 8192 8192 = some set0 ∧ 1 < (args [0, 2] 0x20).arg 1 ∧
    (args [3, 0x1000, 0, 4096] 0x40).arg 0 ≤ 3 ∧ (dmx .active {} [(Reg.fxeDmxcfg 3, 0)]).rdmDist 3 = 0 ∧
    (data false).argSet (args [3, 0x1000, 0, 4096] 0x40) 1 0 (8 * 4096) = some set0 ∧
    (data false).argSet (args [1, 0x1000, 0] 0x50) 1 0 512 = some set0 ∧ (data false).pl.uni? 1 = some uni0 ∧ (data false).granted 0 10 = true ∧
    Admits (town .active) host0 11 ∧ slotAllowed (distOf host0) 0 = true ∧ slotAllowed (distOf host0) 4 = false ∧
    (traced 0 0x1000 0).bitOf (Reg.schTrcCtl 0) 31 = false ∧ (traced 0x80000000 0 0).bitOf (Reg.schTrcCtl 0) 31 = true ∧
    (0x80000040#32).getLsbD 31 = true ∧ field 0x80000040#32 0 17 = 2 ^ 6 ∧ field 0x80010000#32 0 17 = 2 ^ 16 ∧
    (traced 0 0x1000 0).rd64 (Reg.schTrcOffLo 0) % 32 = 0 ∧ (traced 0 0x1000 16).rd64 (Reg.schTrcOffLo 0) % 32 ≠ 0 ∧
    ((traced 0 0x1000 0).setRange (slotDist 0) 0x1000 0 (32 * 65536)).isSome = true ∧
    ((traced 0 0x1000 0).setRange (slotDist 0) 0x1000 0 (32 * 100)).isSome = true := by decide +kernel

/-! ### Aging points, house services, discovery -/

/-- An aging point falls into the cycle of this state, and none into that of `round echo true`. -/
theorem witness_agingPoints : { round echo true with now := 6144 }.agingDue = true ∧ (round echo true).agingDue = false ∧
    ({ work [1] with now := 6144 } : State).agingDue = true ∧ ({ work [1] with now := 6144 } : State).admitFrom ≠ none ∧
    (work [1]).agingDue = false ∧ busy.agingDue = false := by decide +kernel
/-- R351: a house firmware service within its core time, on core 15. -/
theorem witness_services : (round { ranItem none with handler := 0x7000 } true).onCore 15 = some (7, { ranItem none with handler := 0x7000 }) ∧
    (round { ranItem none with handler := 0x7000 } true).usedTime { ranItem none with handler := 0x7000 } ≤ (ranItem none).limit := by
  decide +kernel
/-- R346: two responders in the two halves of a branch, and one place for two. -/
theorem test_discovery : (discovery [5, 0x7FFFFFFFFFFF] 4096).2 = [5, 0x7FFFFFFFFFFF] ∧ (discovery [6, 5] 1).2 = [5] ∧
    (discovery [] 1).2 = [] ∧ ([6, 5] : List (BitVec 48)).Nodup := by decide +kernel
/-- R323: the controller is busy with an exchange, or not. -/
theorem witness_discoveryWaits : { round (args [3] 0x40) true with fxe := { dmx := [(3, { rdm := some { expect := 0, bytes := [] } })] } }.discBusy 15 = true ∧
    (round (args [3] 0x40) true).discBusy 15 = false := by decide +kernel
/-- R342: a level-7 count lives until the end of the FAB cycle of the frame boundary. -/
theorem test_level7_counts : ({ town .active with sch := { used7 := [(0, 4)] } } : State).l7Reset.l7Used 0 = 4 ∧
    ({ ({ town .active with sch := { used7 := [(0, 4)] } } : State).l7Reset with now := 8 }).l7Used 0 = 0 := by decide +kernel

/-! ### Witnesses: 14, 15, 16 -/

def queues (m : Mode) (l : List (Nat × Lane)) : State := { town m with que := { lanes := l } }
def marked (v : Bool) : List (Nat × Lane) := (List.range 8).map (fun l => (8 * 8 + l, { markValid := v, markEver := true }))
theorem witness_QueuesAndMailboxesKeepTheirOrder : (127 : Nat) < 2 * 64 ∧ ({ wp := 127, rp := 64 } : Lane).level 64 < 64 ∧
    0 < ({ wp := 127, rp := 64 } : Lane).level 64 ∧ ({ wp := 5, rp := 5 } : Lane).level 64 = 0 ∧ ({ wp := 0, rp := 64 } : Lane).level 64 ≤ 64 ∧
    Admits (queues .active []) host0 12 false ∧ Admits (queues .active []) host0 12 ∧ slotAllowed (distOf host0) 0 = true ∧
    slotAllowed (distOf host0) 4 = false ∧ (queues .active []).queMismatch 8 = false ∧ (queues .active []).topLane 8 = none ∧
    (queues .active [(71, lane 1)]).topLane 8 = some 7 ∧ (queues .active [(71, lane 1)]).queMismatch 8 = false ∧
    ((queues .active []).lane 8 7).markEver = false ∧ (∀ l < 8, ((queues .active (marked false)).lane 8 l).markEver = true) ∧
    ((queues .active (marked false)).lane 8 7).markValid = false ∧
    (∀ l < 8, ((queues .active (marked true)).lane 8 l).markEver = true ∧ ((queues .active (marked true)).lane 8 l).markValid = true) ∧
    Admits (queues .active []) host0 0 ∧ isHost host0 = true ∧ badHeader 0x10000000 = true ∧ badHeader 0x0FFFFFFF = false ∧
    (lane 15).level 16 < 16 ∧ 16 ≤ (lane 16).level 16 ∧ (queues .active [(128, lane 16)]).queMismatch 0x10 = false ∧
    ByHouse (queues .active []) core0 ∧ (queues .active [(192, lane 16)]).queMismatch 0x18 = false ∧ Admits (queues .active []) host0 0 false ∧
    (queues .active []).que.replies.get [] 0 = [] ∧ (queues .active []).queLevel 0x18 = 0 ∧ (queues .active [(192, lane 1)]).queLevel 0x18 ≠ 0 ∧
    (queues .active [(128, lane 1)]).queLevel 0x10 ≠ 0 := by decide +kernel
/-- R360, R365: pointers that differ; one pending reply, and 16 with F2H full. -/
def pendingReplies (n level : Nat) : State :=
  let s := queues .active [(192, lane level)]
  { s with que := { s.que with replies := [(0, List.replicate n (List.replicate 16 0))] } }
theorem witness_guardsAndReplies : (queues .active [(192, { lane 1 with rp' := 9 })]).queMismatch 0x18 = true ∧
    (queues .active [(128, { lane 1 with rp' := 9 })]).queMismatch 0x10 = true ∧ (pendingReplies 1 1).que.replies.get [] 0 = [List.replicate 16 0] ∧
    (pendingReplies 1 16).queLevel 0x18 = 16 ∧ (pendingReplies 16 16).queMismatch 0x18 = false ∧ (pendingReplies 1 1).firmwareRuns = true ∧
    16 ≤ ((pendingReplies 16 16).que.replies.get [] 0).length := by decide +kernel
def asked (h : Word32) : State :=
  { queues .active [(128, { lane 1 with slots := [(0, List.replicate 15 0 ++ [h])] })] with lcs := { running := 0 } }
theorem witness_FirmwareAnswers : (asked 0x0E000000).firmwareRuns = true ∧ (asked 0).queLevel 0x10 ≠ 0 ∧
    ((asked 0).que.replies.get [] 0).length < 16 ∧ field ((((asked 0x0E000000).lane 0x10 0).head 16).getD 15 0) 16 8 = 0 ∧
    field 0x0E000000#32 24 4 < 15 ∧ field ((((asked 0x10000).lane 0x10 0).head 16).getD 15 0) 16 8 = 1 ∧ field 0xFF0000#32 16 8 = 255 ∧
    (asked 0).queMismatch 0x10 = false ∧ (asked 0).queMismatch 0x18 = false ∧ (asked 0).queLevel 0x18 < 16 ∧
    (town .safe).firmwareRuns = false := by decide +kernel

def hosted (m : Mode) (h : HostPort) : State := { town m with host := [(3, h)] }
/-- Engine 3 of host port 3: its ring of 16 descriptors in set 0x1000, the first one's bytes in memory, and its progress. -/
def engine (d : List Byte) (x : DmaState) (bme : Bool) : State :=
  let b := ringBase (.dma 3 3)
  let s := withRegs { lots .active { sets := [{ set0 with dist := 3 }] } with host := [(3, { link := true, bme := bme })], dma := [(15, x)] }
    [(b, 0x80000000), (b + 4, 0x1000), (b + 0x10, 16), (b + 0x14, 1)]
  { s with mem := (List.zip ((List.range 32).map (· + 5 * 2097152)) d).filter (fun c => c.2 != 0) }
def dmaBytes (dir len : Nat) : List Byte :=
  leBytes 2 0x1000 ++ [b8 dir, 0] ++ leBytes 4 len ++ leBytes 8 64 ++ leBytes 8 0x1000 ++ List.replicate 8 0
theorem witness_HostPortsMasterTheBusAndReset : (hosted .reset {}).mode.mode = .reset ∧ (hosted .boot {}).mode.mode ≠ .safe ∧
    ((hosted .active {}).hp 3).link = false ∧ ((hosted .active { link := true }).hp 3).bme = false ∧
    ((hosted .active { link := true, d3 := true }).hp 3).d3 = true ∧
    ((hosted .active { link := true, bme := true, msixEn := true, unmasked := [(255, true)], pend := [(255, true)] }).hp 3).pend =
      [(255, true)] ∧ ((hosted .active { unmasked := [(255, true)] }).hp 3).unmasked.get false 255 = true ∧
    (∀ k < 4, ((hosted .active {}).dmaOf 3 k).busy = true →
      dmaLen ((hosted .active {}).dmaOf 3 k).desc ≤ ((hosted .active {}).dmaOf 3 k).asked) ∧ Runs (hosted .active {}) ∧
    (hosted .active {}).bitOf (Reg.schTrcCtl 4) 28 = false := by decide +kernel
theorem witness_EnginesStart : (engine (dmaBytes 0 64) {} true).dmaRuns = true ∧ (engine (dmaBytes 0 64) {} true).ringOn (.dma 3 3) = true ∧
    (engine (dmaBytes 0 64) {} true).ringAvail (.dma 3 3) = 1 ∧ ((engine (dmaBytes 0 64) {} true).dmaOf 3 3).busy = false ∧
    ((engine [] { busy := true } true).dmaOf 3 3).busy = true ∧ (engine (dmaBytes 0 64) {} true).ringDesc (.dma 3 3) = dmaBytes 0 64 ∧
    dmaLen (dmaBytes 0 64) = 64 ∧ dmaLen (dmaBytes 0 0) = 0 ∧ dmaDir (dmaBytes 1 64) ≤ 1 ∧ 1 < dmaDir (dmaBytes 2 64) ∧
    byteAt (dmaBytes 0 64) 3 = 0 ∧ (∀ y ∈ slice (dmaBytes 0 64) 0x1A 6, y = 0) ∧
    ((engine (dmaBytes 0 64) {} true).setRange 3 (dmaSet (dmaBytes 0 64)) (dmaOff (dmaBytes 0 64)) 64).isSome = true ∧
    ((engine [] {} false).hp 3).bme = false ∧ 64 ≤ ((engine [] {} true).hp 3).mrrs ∧ dmaAddr (dmaBytes 0 64) % 4096 + 64 ≤ 4096 := by
  decide +kernel
def dmaAt (moved : Nat) (due : List (Nat × Bool)) : DmaState := { busy := true, desc := dmaBytes 0 64, asked := 64, moved := moved, due := due }
theorem witness_EnginesMoveData : ((engine [] (dmaAt 63 [(1, false)]) true).dmaOf 3 3).due = [(1, false)] ∧
    ((engine [] (dmaAt 0 [(64, true)]) true).dmaOf 3 3).due = [(64, true)] ∧ (dmaAt 63 []).moved < dmaLen (dmaAt 63 []).desc ∧
    dmaDir (dmaAt 0 []).desc = 0 ∧ dmaLen (dmaAt 64 []).desc ≤ (dmaAt 64 []).moved ∧ ((engine [] {} true).dmaOf 3 3).due = [] ∧
    ((engine [] {} true).dmaOf 3 3).busy = false ∧ ((engine [] {} true).set? (dmaSet (dmaAt 0 []).desc)).isSome = true ∧
    (∀ j < 4, ((engine [] (dmaAt 0 []) true).dmaOf 3 j).busy = true → dmaLen ((engine [] (dmaAt 0 []) true).dmaOf 3 j).desc ≤
      ((engine [] (dmaAt 0 []) true).dmaOf 3 j).asked) ∧ (engine (dmaBytes 0 64) {} true).dmaOutstanding 3 < 256 ∧
    { dmaAt 64 [] with poison := true }.poison = true := by decide +kernel

/-- R382: two engines in turn, 4,096 bytes at a time. -/
theorem test_engines_take_turns :
    let b := ringBase (.dma 3 2)
    let s := withRegs (engine (dmaBytes 0 64) { busy := true, desc := dmaBytes 0 8192 } false) [(b, 0x80000000)]
    let s := (s.setHp 3 { s.hp 3 with bme := true, mrrs := 4096 }).setDma 3 2 { busy := true, desc := dmaBytes 0 64 }
    ((s.dmaGo 3).out.map (fun o => match o with | .hostRead _ a n => (a.toNat, n) | _ => (0, 0))) =
      [(0x1000, 64), (0x1000, 4096), (0x2000, 4096)] := by decide +kernel

def crossing (x : XSlot) (kerb : List FarReq) (l : List (Nat × Word32) := []) : State :=
  withRegs { town .active with host := [(0, { link := true })], xng := { slots := [(0, x), (21, x)], kerb := kerb } } l
def far (w : Bool) : FarReq := { input := 0, write := w, addr := 0xF00000 }
theorem witness_CrossingCarriesReadsAndWrites : crossAddr 0xDFFFFF = false ∧ crossAddr 0xE00000 = true ∧ crossAddr 0x1200000 = false ∧
    Admits (crossing {} []) (inputInit 16) (xngBlock 0xE80000) false ∧ Admits (crossing {} []) (inputInit 16) (xngBlock 0xF00000) ∧
    toEsb 0xEFFFFC = true ∧ isHouse (inputInit 16) = false ∧ isHouse (inputInit 0) = true ∧ toKerb 0xF00000 = true ∧
    Admits (crossing {} []) (inputInit 0) (xngBlock 0xE80000) false ∧ Admits (crossing {} []) (inputInit 0) (xngBlock 0xF00000) ∧
    ((crossing {} []).xslot 0).st = .empty ∧ farDepth true ≤ ((crossing {} (List.replicate 32 (far true))).xng.queue true).length ∧
    ((crossing {} (List.replicate 31 (far true))).xng.queue true).length < farDepth true ∧ (crossing {} []).prefetchable 0xF00000 = false ∧
    (crossing {} [] [(Reg.xngRgnLo 15, 0xC003C000), (Reg.xngRgnHi 15, 0x3C000)]).prefetchable 0xF00000 = true ∧
    ((crossing { st := .waiting } []).xslot 0).st = .waiting ∧ ((crossing { st := .failed 2 } []).xslot 0).st = .failed 2 ∧
    ((crossing { st := .held, addr := 0xF00000 } []).xslot 0).addr = 0xF00000 ∧ (0xF00000 : Nat) / 64 = 0xF0003C / 64 ∧
    ((crossing { st := .held, line := true, addr := 0xF00000 } []).xslot 0).answered = false ∧
    true ∈ ({ crossing {} [] with xng := { stoppedSide := [(0, [true])] } } : State).xng.stoppedSide.get [] 0 ∧
    true ∉ (crossing {} []).xng.stoppedSide.get [] 0 ∧ (crossing {} []).xng.queue true = [] ∧
    (crossing {} [far true]).xng.queue true = [far true] ∧ (far false).write = false ∧ (far false).orphan = false ∧ (far false).line = false ∧
    ({ crossing {} [] with xng := { esb := [{ far false with addr := 0xE80000 }] } } : State).xng.queue false = [{ far false with addr := 0xE80000 }] ∧
    (crossing {} []).bitOf Reg.xngCtl 0 = false ∧ ((crossing {} []).xng.logs.get [] 4).length < 16 ∧
    ((crossing { st := .held, line := true, used := List.replicate 16 true } []).xslot 21).st = .held ∧
    (∀ k < 16, ((crossing { used := List.replicate 16 true } []).xslot 21).used.getD k false = true) ∧
    ((crossing { used := List.replicate 15 true } []).xslot 21).used.getD 15 false = false := by decide +kernel
theorem witness_SemaphoresAndLogs : Admits (crossing {} []) host0 14 false ∧ Admits (crossing {} []) host0 14 ∧
    (crossing {} []).xng.sems.find? 63 = none ∧
    ({ crossing {} [] with xng := { sems := [(63, host0)] } } : State).xng.sems.find? 63 = some host0 ∧
    w32 host0.toNat = 0x10 ∧ (0x11#32 : Word32) ≠ w32 host0.toNat ∧ slotAllowed (distOf host0) 4 = false ∧ slotAllowed (distOf host0) 0 = true := by
  decide +kernel

/-! ### Witnesses: 17, 18 -/

/-- A second host whose district is granted everything. -/
def visited (m : Mode) : State :=
  { town m with host := [(1, { link := true })], plan := some { plan0 with districts := [⟨1, 1, 1, 0, 0, 0xFFFFFF, 1⟩] } }
def krb (k : KrbState) (l : List (Nat × Word32) := []) : State := withRegs { town .active with krb := k } l
def ch0 : KerbRec := ⟨0, 0, 0, 0, 100, 0⟩
def ch1 : KerbRec := ⟨1, 1, 0, 0, 100, 0⟩
theorem witness_KerbDrivesChannelsAndGroups : Admits (town .active) host0 15 ∧ (town .active).kerbRec 47 = none ∧
    (town .active).kerbRec 0 = some ch0 ∧ (town .active).kerbRec 1 = some ch1 ∧ distOf host0 = ch0.dist ∧ Admits (visited .active) host1 15 ∧
    distOf host1 ≠ ch0.dist ∧ distOf host1 ≠ houseDist ∧ ch1.kind = 1 ∧ ch0.kind ≠ 1 ∧ 0x1000 < (0x1001#32).toNat ∧
    field 0xC1EA0000#32 16 16 = 0xC1EA ∧ (krb { faultAt := [(0, 0)] }).faultNow 0 = true ∧ (krb {}).faultNow 0 = false ∧
    ({ krb { faultAt := [(0, 0)] } with now := 96 } : State).faultNow 0 = false ∧ (krb {} [(Reg.krbChstat 0, 0x40000)]).chFault 0 = 4 ∧
    (krb {}).chFault 0 ≠ 4 ∧ (krb {}).signRec 15 = none ∧ (krb {}).signRec 0 = some ⟨0, 0, 100, 0⟩ ∧ field 0x516E0003#32 16 16 = 0x516E ∧
    (krb { faultAt := [(64, 0)] }).faultNow 64 = true ∧ (krb {} [(Reg.krbGstat 0, 0x80)]).faulted 0 = true ∧ (krb {}).faulted 0 = false ∧
    (∀ k ∈ (krb {}).pl.kerbs, k.ch < 48) ∧ (town .reset).mode.mode = .reset ∧ Runs (krb {}) ∧
    ({ krb {} with plan := some { plan0 with kerbs := [ch0] } } : State).pl.kerbs = [ch0] ∧ 8 ≤ (krb {} [(Reg.krbChderate 0, 0xF0000)]).kerbNtc ch0 ∧
    (krb { driving := true }).krb.driving = true ∧ (16383 : Nat) < 16384 ∧ ntcTemp 0 3950 10000 = none ∧
    ntcTemp 10000 3950 1000 = some (400, false) ∧ (⟨400, false, 0, 25⟩ : NtcMeas).hot = true ∧ (⟨400, false, 0, 26⟩ : NtcMeas).hot = false ∧
    (krb {}).pl.signs = [⟨0, 0, 100, 0⟩] ∧ ((krb {}).groupChans 0).head? = some ch1 := by decide +kernel

def met (m : Mode) (x : MetState) (l : List (Nat × Word32) := []) : State := withRegs { town m with met := x } l
def cal (st cfg ref : Nat) (p : Option CalProc) (m : Mode) : State :=
  withRegs { town m with cal := { proc := p } } [(Reg.calStatus, w32 st), (initKey host0 Reg.calCfg, w32 cfg), (initKey host0 Reg.calRef, w32 ref),
    (Reg.metVfs 0, 4000)]
def proc0 (d : Nat) : CalProc := { dist := d, target := 0, step := 1, blocks := 1, ref := 0, opid := 0 }
theorem witness_MeteringAndCalibration : (met .safe {}).metering = false ∧ (met .standby { n := 399 }).metering = true ∧
    (List.replicate 12 (0 : Int)).length = 12 ∧ (met .standby { n := 399 }).met.n < 400 ∧ ¬ (met .standby { n := 400 }).met.n < 400 ∧
    pairOn 0x01000000 0 = true ∧ pairOn 0 0 = false ∧ (∀ k < 8, pairOn 0x80000000 k = (k == 7)) ∧ (16 : Nat) ≤ 16 ∧
    (met .standby { n := 400 } [(Reg.metStart, 1)]).metLoaded {} = false ∧ (met .standby {} [(Reg.metStart, 0)]).metLoaded {} = true ∧ Runs (met .standby {}) ∧
    (met .standby {}).mode.mode ≠ .boot ∧ (met .boot {}).mode.mode = .boot ∧ Admits (town .standby) host0 16 ∧ isHouse host0 = false ∧
    Admits (town .standby) core0 16 ∧ isHouse core0 = true ∧ field 0x3E7C0000#32 16 16 = 0x3E7C ∧ slotAllowed (distOf host0) 0 = true ∧
    slotAllowed (distOf host0) 4 = false ∧ (met .standby { pulse := .low 0 }).met.pulse = .low 0 ∧
    (met .standby { pulse := .gap 0 }).met.pulse = .gap 0 ∧ (met .standby { pulse := .gap 0 }).fld Reg.metPstat 0 16 = 0 ∧
    0 < (met .standby {} [(Reg.metPstat, 1)]).fld Reg.metPstat 0 16 ∧ (met .standby {} [(Reg.metPcfg, 0x20000)]).bitOf Reg.metPcfg 17 = true ∧
    (∀ t0, (met .standby {}).met.pulse ≠ .low t0) := by
  refine ⟨?_, ?_, ?_, ?_, ?_, ?_, ?_, ?_, ?_, ?_, ?_, ?_, ?_, ?_, ?_, ?_, ?_, ?_, ?_, ?_, ?_, ?_, ?_, ?_, ?_, ?_, ?_⟩
  all_goals first | decide +kernel | (intro t0 h; cases h)
theorem witness_CalibrationStarts : Admits (cal 0 0x2000A 283000 none .standby) host0 17 ∧ field 0xCA1B0003#32 0 2 = 3 ∧
    field 0xCA1B0001#32 16 16 = 0xCA1B ∧ field 0xCA1B0001#32 0 2 = 1 ∧ (cal 1 0 0 none .standby).calSt ≠ 0 ∧ (cal 0 0 0 none .standby).calSt = 0 ∧
    (town .active).mode.mode ≠ .standby ∧ calTarget 0x6F = true ∧ calTarget 0x70 = false ∧ calCurrent 0x17 = true ∧ calCurrent 0 = false ∧
    (cal 0 0x20001 0 none .standby).calFull 0 = 400000 ∧ 400000 ^ 2 ≤ 200 * 28285 ^ 2 ∧ ¬ 400000 ^ 2 ≤ 200 * 28284 ^ 2 ∧
    2 * 282842 ^ 2 ≤ 400000 ^ 2 ∧ ¬ 2 * 282843 ^ 2 ≤ 400000 ^ 2 ∧ (0xFFFEA070#32 : Word32).toInt = -90000 ∧ (90000#32).toInt ≤ 90000 ∧
    field 0xCA1B0002#32 0 2 = 2 ∧ (cal 3 0 0 (some (proc0 0)) .standby).cal.proc = some (proc0 0) ∧ distOf host0 = (proc0 0).dist ∧
    distOf host0 ≠ (proc0 1).dist ∧ (cal 3 0 0 (some (proc0 0)) .standby).calSt ≤ 3 ∧ 3 < (cal 4 0 0 none .standby).calSt ∧
    (cal 4 0 0 (some (proc0 0)) .standby).calSt = 4 ∧ (cal 0 0 0 none .standby).cal.proc = none := by decide +kernel

/-! ### Witnesses: 19 -/

def cwRec : CwRec := ⟨100, 10, 0, 1, 0x1234⟩
def twin (m : Mode) (c : CswState) (st : Nat) (sync : Nat := 0) : State :=
  withRegs { twins m with csw := c } [(Reg.cswStatus, w32 st), (Reg.cswSync, w32 sync)]
def status0 (role : Fin 8) : StatusFrame :=
  { role := role, pairId := 0x1234, major := 0, minor := 0, epoch := 7, frame := 0, down := 0, armed := true }
def hand (holder : Bool) : Handover := { holder := holder, grid := 1, frame := 5 }

theorem witness_LeaseIsHeldAndClaimed : (town .active).twin = none ∧ (twins .active).twin = some cwRec ∧ (twins .safe).twin = none ∧
    (0x1235#64 : BitVec 64).toNat ≠ cwRec.pairId ∧ (0x1234#64 : BitVec 64).toNat = cwRec.pairId ∧
    (twin .standby { claim := .waiting 3 0 } 0).csw.claim = .waiting 3 0 ∧ (twin .active { held := true } 0).csw.held = true ∧
    cwRec.lease = 960000000 ∧ ({ twin .active { held := true } 0 with now := 960000000 } : State).csw.renewed + cwRec.lease ≤ 960000000 ∧
    msRoot cwRec.renewMs < 0 + cwRec.lease ∧ (twin .active { peer := some (status0 3) } 0).csw.peer = some (status0 3) ∧
    (status0 3).role = 3 ∧ (status0 3).armed = true ∧ (twin .active {} 0).csw.handover = none ∧ (twin .active { fatal := true } 0).csw.fatal = true ∧
    (withRegs (twins .active) [(Reg.cswDiag, 4)]).bitOf Reg.cswDiag 2 = true ∧ (twin .active {} 0).mode.pend = none ∧
    Admits (town .active) core0 19 ∧ isHouse core0 = true ∧ Admits (town .active) host0 19 ∧ isHouse host0 = false ∧
    field 0x1EA50000#32 16 16 = 0x1EA5 ∧ (twin .active { inHigh := true } 0).csw.inHigh ≠ false ∧
    (twin .standby { inHigh := true, handover := some (hand false) } 0).csw.handover = some (hand false) ∧
    (twin .standby {} 0).isBefore 1 100000 = true ∧ (twin .standby {} 0x41).mayClaim = true ∧ (twin .active {} 0x41).mayClaim = false ∧
    (twin .standby { claim := .guard 6 0 } 0x41).csw.claim = .guard 6 0 ∧ (twin .standby { inHigh := true } 0x80).bitOf Reg.cswStatus 7 = true ∧
    (twin .standby {} 0).bitOf Reg.cswStatus 7 = false ∧ (twin .standby { lowLease := some 5, leaseAt := some 9 } 0).csw.lowLease = some 5 ∧
    max (twin .standby {} 0).now (5 + cwRec.lease) ≤ 9 + cwRec.lease ∧ (twin .standby {} 0).csw.pinSince = none ∧ (twin .standby {} 0).ckg.osc = false ∧
    (withRegs (twins .standby) [(Reg.lcsSerialLo, 1)]).rd64 Reg.lcsSerialLo ≠ (twins .standby).rd64 Reg.lcsSerialLo := by decide +kernel

theorem witness_TwinsSyncAndHandOver : (twins .standby).twin = some cwRec ∧ (status0 2).role = 2 ∧
    (twin .standby { held := true, peer := some (status0 3) } 4).csw.held = true ∧ (twins .maintenance).mode.mode = .maintenance ∧
    (twin .standby {} 2).role = 2 ∧ (twin .standby {} 3).role = 3 ∧ (twin .standby { peer := none } 0).csw.peer = none ∧
    (twin .standby { held := true } 0).csw.statusAt = (twin .standby { held := true } 0).now ∧ Admits (twins .active) host0 19 ∧
    (twins .active).auth false (·.modeAuth) (distOf host0) = true ∧ (inMode .active).auth false (·.modeAuth) (distOf host0) = false ∧
    Admits { inMode .active with host := [(0, { link := true })], plan := some { plan0 with sys := {} } } host0 19 ∧
    (twin .active { held := true } 4).role = 4 ∧ (twin .active { handover := some (hand true) } 4).csw.handover ≠ none ∧
    (twin .standby {} 0x43).armed = true ∧ (twin .standby {} 0x43).role = 3 ∧
    (twin .active { held := true, handover := some (hand true) } 4).csw.handover = some (hand true) ∧ (hand true).frame = 5 ∧
    (twin .active {} 4).isBefore 1 1000000 = true ∧ (hand false).holder = false ∧ (twin .standby {} 2 0x300).fld Reg.cswSync 8 2 = 3 ∧
    (twin .standby {} 2 0x100).fld Reg.cswSync 8 2 = 1 ∧ (withRegs (twin .standby {} 2 0x100) [(Reg.cltStatus, 3)]).cltSt = 3 ∧
    ({ frame := 0 } : FrameRec).frame = (twin .standby {} 3).frame ∧ ({ frame := 1 } : FrameRec).frame ≠ (twin .standby {} 3).frame ∧
    (twin .standby { frameRec := some 0 } 3).csw.frameRec = some (twin .standby {} 3).frame ∧
    (twin .standby {} 3).pl.input? 15 = none ∧
    (withRegs (twin .standby { rang := some 0 } 3) [(Reg.lmsBlackout, 1)]).bothRang 0 = true ∧ (twin .standby {} 3).bothRang 0 = false ∧ (∀ r ∈ (twins .active).pl.ports, r.port < 64) ∧ (511 : Nat) < 512 := by decide +kernel

/-! ### Witnesses: 20 -/

/-- A request of session 9 from a host, its CRC right. -/
def ask (k : UpdKind) (a0 a1 : Word32) (pay : List Byte) (ver : Byte := 1) : UpdReq :=
  let r : UpdReq := { dst := 0x42, src := 0x43, good := true, ver := ver, session := 9, seq := 1, arg0 := a0, arg1 := a1, crc := 0,
                      payload := pay, io := .ok }
  { r with crc := w32 (crc32 (updHead ver.toNat (updType k) pay.length 9 1 a0 a1 0 ++ pay)) }
/-- A device served on its service port, in session 9. -/
def served (m : Mode) (l : LcsState) : State := { town m with lcs := { l with link := true, mac := 0x42, session := some ⟨9, 0x43, 0⟩ } }
/-- A manifest: class, form, security version, length of its payload. -/
def manifest (cls form svn len : Nat) : List Byte :=
  beBytes 4 0x5658494D ++ [b8 cls, b8 form, 0, 0] ++ beBytes 4 1 ++ List.replicate 12 0 ++ beBytes 4 svn ++ beBytes 4 len ++ beBytes 4 len ++
    List.replicate 476 0

theorem witness_UpdatesAreServedInTurn : (served .maintenance {}).lcs.link = true ∧ (town .active).lcs.link = false ∧
    (ask .status 0 0 []).good = true ∧ (ask .status 0 0 []).dst = (served .maintenance {}).lcs.mac ∧ updCrcOk (ask .status 0 0 []) .status = true ∧
    updCrcOk (ask .status 0 0 []) .close = false ∧ (ask .status 0 0 [] 2).ver ≠ 1 ∧ (0x44#48 : BitVec 48) ≠ (served .maintenance {}).lcs.mac ∧
    (served .safe { state := 5 }).lcs.state = 5 ∧ (served .safe { prog := some (ask .block 0 0 []) }).lcs.prog ≠ none ∧
    (served .maintenance {}).sessionCode .status (ask .status 0 0 []) = 0 ∧ (served .maintenance {}).sessionCode .open_ (ask .open_ 0 0 []) = 0x01 ∧
    ({ town .standby with lcs := { link := true, mac := 0x42 } } : State).sessionCode .open_ (ask .open_ 0 0 []) = 0 ∧
    Mode.standby.takes .begin_ = false ∧ Mode.maintenance.takes .begin_ = true ∧ stageTakes 3 .begin_ = false ∧ stageTakes 0 .begin_ = true ∧
    (2#32 : Word32).toNat > 1 ∧ (served .maintenance {}).beginCheck false 1 (manifest 3 0 0 64) = 0 ∧
    (served .maintenance {}).beginCheck false 1 (manifest 3 0 64 64) = 0x06 ∧ (served .maintenance {}).beginCheck false 1 (manifest 3 0 0 0) = 0x15 ∧
    (served .maintenance { ptr := [{ trial := true }, {}] }).lcs.boot.trial = true ∧
    (served .maintenance { stage := 1, manifest := manifest 3 0 0 64 }).beginCheck true 1 (manifest 3 0 0 64) = 0 ∧
    stageTakes 1 .block = true ∧ 0 < blocksOf 1024 ∧ ¬ 1 < blocksOf 1024 ∧ blocksOf 1025 = 2 ∧
    (served .maintenance { manifest := manifest 3 0 0 1025 }).lcs.blockLen 1 = 1 ∧ stageTakes 1 .bitmap = true ∧ (8192#32 : Word32).toNat % 8192 = 0 ∧
    stageTakes 2 .verify = true ∧ (served .maintenance { stage := 3 }).lcs.stage = 3 ∧ mfClass (manifest 1 0 0 64) ≤ 2 ∧
    mfSvn (manifest 1 0 0 64) < (served .maintenance { svn := [(0, 1)] }).lcs.counter 0 ∧ stageTakes 4 .activate = true ∧
    ((served .maintenance {}).lcs.region 0).verified = true ∧ ((served .maintenance {}).lcs.region 1).verified = true ∧
    ((served .maintenance {}).lcs.region 2).verified = false ∧ stageTakes 0 .confirm = true ∧
    (served .maintenance { ptr := [{ trial := true }, {}], running := 0 }).lcs.boot.slot = 0 ∧
    (withRegs (served .maintenance {}) [(Reg.updMismatch, 0)]).fld Reg.updMismatch 24 8 = 0 ∧ (served .maintenance {}).lcs.boot.trial = false ∧
    stageTakes 4 .abort = true ∧ stageTakes 3 .close = true ∧ (served .maintenance {}).tokenCheck [] ≠ 0 ∧
    (served .maintenance {}).tokenCheck (beBytes 4 0x56584C43 ++ [3] ++ List.replicate 203 0) = 0 ∧
    ({ state := 4 } : LcsState).transition 5 = some (false, false) ∧ (served .standby {}).lcs.session = some ⟨9, 0x43, 0⟩ ∧
    (town .standby).lcs.session = none := by decide +kernel

/-- A bad frame of the largest length that is not truncated, and a longer one. -/
theorem witness_frameLengths : updLen { ask .block 0 0 (List.replicate 1468 0) with good := false } ≤ 1518 ∧
    1518 < updLen { ask .block 0 0 (List.replicate 1469 0) with good := false } := by decide +kernel

/-- A KEYS package of one byte whose hashes are those of its payload, and the device that holds it. -/
def keysHead : List Byte :=
  beBytes 4 0x5658494D ++ [4, 0, 0, 0] ++ beBytes 4 1 ++ List.replicate 16 0 ++ beBytes 4 1 ++ beBytes 4 1 ++ List.replicate 32 0
def keysHash : List Byte := beBytes 48 (sha384 [7])
def keysManifest : List Byte := keysHead ++ (keysHash ++ (List.replicate 48 0 ++ (keysHash ++ List.replicate 300 0)))
def holding : State := served .maintenance { stage := 3, manifest := keysManifest, flash := [(7, { blocks := [(0, [7])] })] }
theorem witness_aPackageVerifies : holding.lcs.stage = 3 ∧ holding.verifyResult = .ok [7] := by
  have h : holding.verifyResult.toOption = some [7] := by decide +kernel
  refine ⟨rfl, ?_⟩
  revert h
  cases holding.verifyResult <;> simp [Except.toOption]
/-- FIPS 180-4's example "abc". -/
theorem test_sha384 : sha384 [0x61, 0x62, 0x63] =
    0xcb00753f45a35e8bb5a03d699ac65007272c32ab0eded1631a8b605a43ff5bed8086072ba1e7cc2358baeca134c825a7 := by decide +kernel
/-- Test case 14 of the GCM specification: key, IV and plaintext all 0. -/
theorem test_gcm : gcmOpen (List.replicate 32 0) (List.replicate 12 0) [] (beBytes 16 0xcea7403d4d606b6e074ec5d3baf39d18)
    (beBytes 16 0xd0d1c8a799996bf0265b98b5d48ab919) = some (List.replicate 16 0) := by decide +kernel


/-! ### Witnesses: 21, 22 -/

def errs (b : Tab (List ErrRec)) (l : Tab (List ErrRec)) : State := { town .active with err := { bufs := b, logs := l } }
def err1 (d : Nat) : ErrRec := { block := 3, code := 1, dist := d, sev := 1 }
theorem witness_EventsAreCountedAndRecorded : Runs (town .active) ∧ inCatalogue 8 63 0 = true ∧ inCatalogue 8 64 0 = false ∧
    selOf (pack [(24, 8), (16, 63), (0, 0)]) = (8, 63, 0) ∧ (town .active).evOwner 23 5 = .device ∧ inCatalogue 23 5 0 = true ∧
    (0 : Nat) ≠ houseDist ∧ (town .active).bitOf Reg.pmcPerm 0 = false ∧ (town .active).evOwner 8 0 = .district 0 ∧
    Admits (town .active) host0 22 ∧ slotAllowed (distOf host0) 0 = true ∧ slotAllowed (distOf host0) 4 = false ∧
    (town .active).selCode (slotDist 0) (0x88000000#32 &&& 0x9F7F00FF#32) = 0 ∧ (town .active).selCode (slotDist 0) 0x80000000 ≠ 0 ∧
    ({ town .active with pmc := { cfg := 0x80000000 } } : State).pmc.cfg.getLsbD 31 = true ∧
    ({ town .active with pmc := { winFrame := 1 } } : State).pmc.winFrame ≠ (town .active).frame ∧ (town .active).nextBlock = none ∧
    (errs [(3, [err1 0])] []).nextBlock = some 3 ∧ (errs [(3, [err1 0])] []).err.bufs.get [] 3 = [err1 0] ∧ (errs [] []).err.last < 64 ∧
    ((errs [] [(0, List.replicate 63 (err1 0))]).err.logs.get [] 0).length < 64 ∧ (err1 0).dist = 0 ∧ (err1 0).sev ≠ 2 ∧
    Admits (town .active) host0 23 false ∧ (errs [] [(0, [err1 0])]).err.logs.get [] 0 = [err1 0] ∧ Admits (town .active) host0 23 ∧
    Admits (town .active) core0 23 ∧ isHouse host0 = false ∧ isHouse core0 = true ∧ field 0xE1A40301#32 20 12 = 0xE1A ∧
    field 0xE1A40301#32 18 2 = 1 ∧ field 0xE1A40301#32 8 6 = 3 ∧ ((errs [(3, [err1 0, err1 0])] []).err.bufs.get [] 3).length < 3 ∧
    3 ≤ (((errs [(3, List.replicate 3 (err1 0))] []).err.bufs.get [] 3).filter (·.sev != 2)).length ∧
    (town .active).mode.mode ≠ .reset := by decide +kernel
theorem witness_thermalLimits : (110000 : Int) ≤ 110000 ∧ (∀ e ∈ ([(0, 104999)] : Tab Int), e.2 < 105000) ∧ (125000 : Int) ≤ 125000 ∧
    (∀ e ∈ ([(0, 99999)] : Tab Int), e.2 < 100000) ∧ (∀ e ∈ ([(0, 105000), (7, 109999)] : Tab Int), e.2 < 110000) := by decide +kernel

/-- Some bit of some register of the map is of a kind. -/
def rowBits (p : RegDef → Nat → Bool) : Bool :=
  (List.range 24).any (fun n => (blockRegs n).any (fun d => (List.range 32).any (p d)))
theorem witness_RegistersAreAccessedByTheirTypes : (inMode .standby).plan = none ∧ (3 : Nat) < 4 ∧ (inMode .standby).mode.mode ≠ .maintenance ∧
    rowBits (fun d i => natBit d.rw i && !natBit d.w1s i && !natBit d.w1c i) = true ∧
    rowBits (fun d i => !natBit d.rw i && !natBit d.w1s i && natBit d.w1c i) = true ∧
    rowBits (fun d i => !natBit d.rw i && !natBit d.w1c i && natBit d.w1s i) = true ∧
    (inMode .standby).arrives host0 = false ∧ (town .standby).arrives host0 = true ∧ isHost host0 = true ∧ 0x17FFFFF % 4 ≠ 0 ∧
    crossAddr 0x1200000 = false ∧ (visited .standby).granted (distOf host0) (0x200000 / 0x100000) false = false ∧
    (readRow host0 0x200000).isNone = true ∧ (writeRow host0 0x200000 0).isNone = true ∧ ByHouse (town .standby) core0 ∧
    (readRow core0 Reg.cltIncrLo).isNone = true ∧ isPairLo Reg.cltIncrLo = true ∧ Reg.cltIncrLo ≠ Reg.pmcValLo ∧
    isPairLo Reg.lotCtl = false ∧ (readRow core0 Reg.lotCtl).isNone = true ∧
    (0x3FFFFC : Nat) / 0x100000 ∈ [2, 3, 20, 21, 23] ∧ regAt 0x3FFFFC = none ∧ (writeRow core0 0x3FFFFC 0).isNone = true ∧
    isPairLo (0x3FFFFC - 4) = false ∧ (regAt (Reg.ingHdPitch 15)).any (fun d => !d.pair) = true ∧ isPairLo (Reg.ingHdPitch 15 - 4) = false ∧
    (writeRow core0 (Reg.ingHdPitch 15) 0).isNone = true ∧ isPairLo (Reg.ingHdOffLo 15) = true ∧ isPairLo (Reg.ingHdOffLo 15 + 4) = false ∧
    (regAt (Reg.ingHdOffLo 15)).any (fun e => e.rw != 0) = true ∧ (regAt (Reg.ingHdOffLo 15 + 4)).isSome = true ∧
    (writeRow core0 (Reg.ingHdOffLo 15) 0).isNone = true ∧ (writeRow core0 (Reg.ingHdOffLo 15 + 4) 0).isNone = true ∧
    isHost core0 = false ∧ Runs (town .standby) ∧ ((town .standby).hp 0).link = true := by decide +kernel
/-- Two writes of core 0 in one FAB cycle: a freed lot and a W1C bit of an input. -/
theorem witness_writesOfOneCycle : let a : Acc := ⟨core0, Reg.lotFree, true, 0⟩
    let b : Acc := ⟨core0, Reg.ingStatus 15, true, 0⟩
    accGroup a ≠ accGroup b ∧ (crossAddr a.addr = false ∨ crossAddr b.addr = false) ∧ a.addr % 4 = 0 ∧ b.addr % 4 = 0 ∧
    a.addr < 0x80000000 ∧ b.addr < 0x80000000 ∧ (16 : Nat) ≤ (List.replicate 16 (0 : Word32)).length ∧
    (0x20003C : Nat) / 64 ≠ (0x20003C + 4 * 1 + 3) / 64 := by decide +kernel
theorem witness_DistrictResetLeavesThePlazas : ∀ r ∈ (town .active).pl.inputs, r.id < 16 := by decide +kernel

/-! ### Worked examples of the specification -/

/-- Frame numbers wrap: 3 is later than 0xFFFFFFFE, not the other way round (R13). -/
theorem test_frame_numbers_wrap : (frameLater 3 0xFFFFFFFE, frameLater 0xFFFFFFFE 3) = (true, false) := by decide +kernel

/-- The mailbox chapter's ECHO of two dwords on token 5. -/
theorem test_mailbox_echo :
    (let l := mbxReply 0x02000405 0 [0x11112222, 0x33334444]; (l.getD 15 0, l.take 3)) =
      (0x03000405#32, [0#32, 0x11112222#32, 0x33334444#32]) := by decide +kernel

/-- The Kerb chapter's dimming example: D = 1,024 and a minimum pulse of 25 units gives 40 pulses, 24 of 26 and 16 of 25. -/
theorem test_kerb_pulses :
    (let l := (kerbPulses 1024 25).map (·.2); (l.length, l.countP (· == 26), l.countP (· == 25))) = (40, 24, 16) := by
  decide +kernel

/-- The derating example: 72.5 degrees between a knee of 60 and a cut of 85 gives k_T = 0.625. -/
theorem test_kerb_derating : ({ fault := false, temp := 1160, knee := 60, cut := 85 } : NtcMeas).kt = 0x0A00 := by decide +kernel

/-- The calibration chapter's gain example. -/
theorem test_calibration_gain :
    (let p : CalProc := { dist := 0, target := 0, step := 2, blocks := 1, ref := 1000000, opid := 0,
                          a := 1004200, b := 1004100, old := 0x400000 }
     (p.result, p.judge p.result)) = (0x3FBC4A, 0) := by decide +kernel

/-- The LTC rate for 240 frames a second: 30 fps, every eighth frame (R304). -/
theorem test_ltc_rate : ltcRate 240 1 = some (4, 8, 30, 1) := by decide +kernel

/-- A data packet of 512 slots is 638 bytes; universe 1,201 goes to 239.255.4.177 (R317). -/
theorem test_sacn : (uniAddr 1201, (sacnData (List.replicate 16 0) 100 0 0 false 1201 (List.replicate 512 0)).length)
    = (0xEFFF04B1, 638) := by decide +kernel

/-- The Lamp Stream chapter's header bytes. -/
theorem test_lamp_stream_header : (lmsHeader 1 7680 3000 0x17 204643 0 1 44 0x42101 []).take 24 =
    [0x01, 0x01, 0x00, 0x40, 0x1E, 0x00, 0x0B, 0xB8, 0x00, 0x00, 0x00, 0x17, 0x00, 0x03, 0x1F, 0x63, 0x00, 0x01, 0x00, 0x2C,
     0x00, 0x04, 0x21, 0x01] := by decide +kernel

/-- The Boulevard chapter's lamp 1,290: matrix, masters and 10-bit quantisation with the dither 32,768. -/
theorem test_lamp_1290 :
    (let e := [0x2800, 0xFC00, 0, 0xFE00, 0x2400, 0, 0, 0xFE00, 0x3000, 0, 0, 0].flatMap (leBytes 2)
     (channels 3 ⟨0x0C00, 0x1000, 0, false, 0, 0⟩ e [0x0900, 0x0500, 0x0200]).map
       (fun x => quantise (drive20 (shape none x) 0x0C00 0x1000) 10 32768)) = [510, 243, 129] := by decide +kernel

/-- The Plaza chapter's blend of one pixel. -/
theorem test_plaza_blend :
    (let l : Lay := ⟨0, false, false, false, 0, 0, 0, 1, 1, 0, 0, 1, 1, 0x0C00⟩
     blend l [0x2000, 0x1000, 0, 0] (2 ^ 28) [0x0800, 0x0800, 0x0800, 0x1000]) = [0x1A00, 0x0E00, 0x0200, 0x1000] := by
  decide +kernel

/-- A pointer write takes the SEQ after the later of the two (R509). -/
theorem test_pointer_write :
    (pointerWrite [{ seq := 0x21 }, { seq := 0x20 }] {}).map (·.seq) = [0x21#32, 0x22#32] := by decide +kernel

/-- Host port 1 reads semaphore 5, which core 3 owns, and then writes 0x11 to it: the Crossing chapter's first example. -/
theorem test_semaphore_ignored :
    (let r := (town .active).semRead 0x03 5
     let q := r.2.semRead host1 5
     let t := q.2.semWrite host1 5 0x11
     (r.1, q.1, t.rd Reg.xngSemlog, t.fld (Reg.xngDstatus 1) 24 8)) = (0#32, 0x80000003#32, 0x80110511#32, 7) := by
  decide +kernel

/-- The pool of the lot example: guarantees of 3,000, 2,000 and 500 leave 2,688 of 8,188 lots. -/
theorem test_lot_pool :
    ({ town .active with plan := some { plan0 with districts := [⟨0, 3000, 5000, 0, 0, 0, 2⟩, ⟨1, 2000, 3100, 0, 0, 0, 1⟩,
      ⟨7, 500, 500, 0, 0, 0, 1⟩] } }).pool false = 2688 := by decide +kernel

/-- A ring of 64 entries with HEAD 0x40 and TAIL 0x43 has three descriptors available (R273). -/
theorem test_ring_available :
    (let r : RingId := .rx 0 0
     let s := withRegs (town .active) [(ringBase r + 0x10, 64), (ringBase r + 0x14, 0x43), (ringBase r + 0x18, 0x40)]
     s.ringAvail r) = 3 := by decide +kernel

/-- The claim wait of PREFER 1, LEASE_MS 20 and serial bits 709 is 22.836 ms (R477). -/
theorem test_claim_wait :
    (let s := { withRegs (twin .standby { claim := .waiting 0 0 } 0x41) [(Reg.lcsSerialLo, 709)] with
                plan := some { plan0 with cw := some ⟨20, 5, 1, 1, 0x1234⟩ } }
     match execClaimWaitExpiry s with
     | .next t => (t.now, t.csw.claim) == (219225600, .guard 0 219225600)
     | _ => false) = true := by decide +kernel

end Sys2Proof.Tests
end

section
/-! PROOFS. Register accesses (R13, R20 to R25, R33, R128, R372 to R375): what a request becomes as an access, what an
access does by its access types, and what a port keeps while its messages and transfers go. -/

namespace Sys2Proof.Machine

/-! ### Frame numbers (R13) -/

/-- A frame number is later exactly when the difference lies in the positive half of the signed range (R13). -/
theorem frameLater_iff (a b : Word32) : frameLater a b = true ↔ (a - b).toNat ≠ 0 ∧ (a - b).toNat < 2 ^ 31 := by
  simp [frameLater]

/-- A word is positive as a signed number exactly when it is not 0 and its top bit is clear (R11). -/
theorem word_toInt_pos_iff (d : Word32) : 0 < d.toInt ↔ d.toNat ≠ 0 ∧ d.toNat < 2 ^ 31 := by
  have hd : d.toNat < 2 ^ 32 := d.isLt
  rw [BitVec.toInt_eq_toNat_cond]
  split <;> omega

/-- Settles O59. -/
theorem frameNumbersCompareSigned : Obligations.FrameNumbersCompareSigned := by
  intro a b
  rw [frameLater_iff, word_toInt_pos_iff]

/-! ### Register words -/

/-- A bit of a register word after a write by its access types (R21). -/
theorem RegDef.written_bit (d : RegDef) (old v : Word32) {i : Nat} (hi : i < 32) :
    (d.written old v).getLsbD i =
      (((if natBit d.rw i then v.getLsbD i else old.getLsbD i) && !(v.getLsbD i && natBit d.w1c i)) ||
        (v.getLsbD i && natBit d.w1s i)) := by
  simp only [RegDef.written, w32, natBit, BitVec.getLsbD_or, BitVec.getLsbD_and, BitVec.getLsbD_not,
    BitVec.getLsbD_ofNat, hi, decide_true, Bool.true_and]
  by_cases h : d.rw.testBit i = true <;> simp [h]

/-- A truth value as a number has one bit. -/
theorem bit_testBit (b : Bool) (k : Nat) : (bit b).testBit k = (decide (k = 0) && b) := by
  cases b
  · simp [bit]
  · rw [Bool.eq_iff_iff]
    simp [bit, Nat.testBit_one_eq_true_iff_self_eq_zero]

/-- A bit packed from a truth value stands at its place and nowhere else. -/
theorem pack_bits_getLsbD (f : Nat → Bool) (l : List Nat) {i : Nat} (hi : i < 32) :
    (pack (l.map (fun j => (j, bit (f j))))).getLsbD i = (l.contains i && f i) := by
  induction l with
  | nil => simp [pack]
  | cons j l ih =>
    have hj : (BitVec.ofNat 32 (bit (f j) <<< j)).getLsbD i = (i == j && f i) := by
      rw [BitVec.getLsbD_ofNat, Nat.testBit_shiftLeft, bit_testBit]
      by_cases h : i = j
      · subst h
        simp [hi]
      · have hp : (decide (j ≤ i) && decide (i - j = 0)) = false := by
          simp only [Bool.and_eq_false_iff, decide_eq_false_iff_not]
          omega
        rw [← Bool.and_assoc (decide (i ≥ j)), hp]
        simp [h]
    rw [List.map_cons, pack, BitVec.getLsbD_or, hj, ih, List.contains_cons]
    cases (i == j) <;> cases f i <;> simp

/-- The upper half of a word packed from two halves. -/
theorem field_pack_upper {x y : Nat} (hx : x < 2 ^ 16) (hy : y < 2 ^ 16) : field (pack [(16, x), (0, y)]) 16 16 = x := by
  apply Nat.eq_of_testBit_eq
  intro j
  rw [field_bit]
  by_cases hj : j < 16
  · have h1 : y.testBit (16 + j) = false :=
      Nat.testBit_lt_two_pow (Nat.lt_of_lt_of_le hy (Nat.pow_le_pow_right (by decide) (by omega)))
    have h2 : 16 + j < 32 := by omega
    simp only [pack, BitVec.getLsbD_or, BitVec.getLsbD_ofNat, Nat.testBit_shiftLeft, Nat.sub_zero, h1, h2, hj]
    simp
  · have h1 : x.testBit j = false :=
      Nat.testBit_lt_two_pow (Nat.lt_of_lt_of_le hx (Nat.pow_le_pow_right (by decide) (by omega)))
    simp [hj, h1]

/-- The key of an initiator's copy of an offset tells the offset. -/
theorem regKey_mod (init : InitId) {a : Nat} (h : a < 0x4000000) : regKey init a % 0x4000000 = a := by
  have hv : ∀ v, viewKey v a % 0x4000000 = a := by
    intro v
    simp only [viewKey]
    omega
  unfold regKey
  cases regAt a with
  | none => exact Nat.mod_eq_of_lt h
  | some d =>
    cases hd : d.view with
    | common => simpa [hd] using h
    | district => simpa [hd, distKey] using hv _
    | initiator => simpa [hd, initKey] using hv _

/-- The copies of different offsets have different keys. -/
theorem regKey_ne (init : InitId) {a b : Nat} (ha : a < 0x4000000) (hb : b < 0x4000000) (h : a ≠ b) :
    regKey init a ≠ regKey init b := by
  intro hk
  have := congrArg (· % 0x4000000) hk
  simp only [regKey_mod init ha, regKey_mod init hb] at this
  exact h this

/-! ### One access (R20, R23, R374, R375) -/

/-- An access of an initiator out of reach does nothing (R17, R34, R372). -/
theorem State.accessOne_absent {s : State} {a : Acc} (h : s.arrives a.init = false) (cyc : Option Bool) :
    s.accessOne cyc a = s := by
  simp [State.accessOne, h]

/-- A whole read of a register is one access. -/
theorem exec_reg64LoRead_whole (s : State) (init : InitId) {a : Nat} (ha : a < 0x80000000) :
    exec (.reg64LoRead init ⟨a, .whole⟩) s = .next (s.begin.accessOne none { init := init, addr := a, write := false }) := by
  have hlow : ¬ a ≥ 0x80000000 := by omega
  show execReg64LoRead init ⟨a, .whole⟩ s = _
  unfold execReg64LoRead
  cases hs : s.begin.arrives init with
  | false =>
    rw [State.accessOne_absent (a := { init := init, addr := a, write := false }) hs]
    simp [hlow, hs]
  | true => simp only [hlow, hs, ↓reduceIte, Bool.not_true, Bool.false_eq_true, beq_iff_eq, Bool.and_eq_true, reduceCtorEq,
      and_false]

/-- A host's write request is malformed: some byte enables clear, not at a dword, of more than 16 dwords, or across 64
bytes (R374). -/
abbrev badWrite (a : Nat) (more : List Word32) (form : Tlp) : Prop :=
  form = .part ∨ a % 4 ≠ 0 ∨ 16 ≤ more.length ∨ a / 64 ≠ (a + 4 * more.length + 3) / 64

/-- A write of one dword is one access of its FAB cycle; a host's stands at a dword. -/
theorem exec_registerWrite_whole (s : State) (init : InitId) {a : Nat} (v : Word32) (also : List Acc) (ha : a < 0x80000000)
    (h4 : isHost init = true → s.arrives init = true → a % 4 = 0) :
    exec (.registerWrite init a ⟨v, [], .whole, also⟩) s =
      .next (s.begin.accesses ({ init := init, addr := a, write := true, value := v } :: also)) := by
  have hlow : ¬ a ≥ 0x80000000 := by omega
  show execRegisterWrite init a ⟨v, [], .whole, also⟩ s = _
  unfold execRegisterWrite
  cases hh : isHost init && s.begin.arrives init with
  | true =>
    have h0 : a % 4 = 0 := by
      rw [Bool.and_eq_true] at hh
      exact h4 hh.1 hh.2
    have h64 : a / 64 = (a + 3) / 64 := by omega
    simp [hlow, h0, ← h64]
  | false => simp only [hlow, hh]; simp

/-- A host's malformed write is discarded and logged in AER (R374). -/
theorem exec_registerWrite_bad {s : State} {init : InitId} {a : Nat} (v : Word32) {more : List Word32} {form : Tlp}
    (hs : s.arrives init = true) (hh : isHost init = true) (ha : a < 0x80000000) (hf : form ≠ .atomic)
    (hb : badWrite a more form) :
    exec (.registerWrite init a ⟨v, more, form, []⟩) s = .next (s.begin.aerAbort (distOf init)) := by
  have hlow : ¬ a ≥ 0x80000000 := by omega
  have hend : a + 4 * (more.length + 1) - 1 = a + 4 * more.length + 3 := by omega
  have hbad : (form == .part || a % 4 != 0 || more.length + 1 > 16 || a / 64 != (a + 4 * (more.length + 1) - 1) / 64) = true := by
    rw [hend]
    simpa [badWrite, Nat.lt_succ_iff, or_assoc] using hb
  show execRegisterWrite init a ⟨v, more, form, []⟩ s = _
  unfold execRegisterWrite
  simp only [List.length_cons, hbad]
  simp [hlow, hf, hh, hs, State.accesses]

/-- An access that stands at a dword, with nothing waiting before it, is performed. -/
theorem State.accessOne_here {s : State} {a : Acc} (h : s.arrives a.init = true) (h4 : a.addr % 4 = 0)
    (hq : isHost a.init = true → (s.hp (distOf a.init)).queue = []) (cyc : Option Bool) :
    s.accessOne cyc a = s.perform cyc a := by
  unfold State.accessOne
  cases hh : isHost a.init with
  | false => simp [h]
  | true => simp [h, h4, hq hh]

/-- A host's access behind a write that the Crossing has not accepted waits (R375). -/
theorem State.accessOne_waits {s : State} {a : Acc} (h : s.arrives a.init = true) (hh : isHost a.init = true)
    (h4 : a.addr % 4 = 0) (hq : (s.hp (distOf a.init)).queue ≠ []) (cyc : Option Bool) :
    s.accessOne cyc a =
      s.setHp (distOf a.init) { s.hp (distOf a.init) with queue := (s.hp (distOf a.init)).queue ++ [a] } := by
  simp [State.accessOne, h, hh, h4, hq]

/-- An access beside the Crossing is its read or its write. -/
theorem State.perform_near (s : State) (cyc : Option Bool) {a : Acc} (h : crossAddr a.addr = false) :
    s.perform cyc a = if a.write then s.writeAt cyc a.init a.addr a.value else s.readAt a.init a.addr := by
  simp [State.perform, h]

theorem dword_eq {a : Nat} (h : a % 4 = 0) : a / 4 * 4 = a := by omega

/-- The reserved range answers a host's read with Unsupported Request (R23). -/
theorem State.readAt_reserved (s : State) {init : InitId} {a : Nat} (hh : isHost init = true) (h4 : a % 4 = 0)
    (ha : 0x1800000 ≤ a) : s.readAt init a = s.reply .unsupported := by
  simp [State.readAt, dword_eq h4, ha, hh]

/-- The reserved range answers a host's write with Unsupported Request (R23). -/
theorem State.writeAt_reserved (s : State) {init : InitId} {a : Nat} (v : Word32) (hh : isHost init = true) (h4 : a % 4 = 0)
    (ha : 0x1800000 ≤ a) : s.writeAt none init a v = s.reply .unsupported := by
  simp [State.writeAt, dword_eq h4, ha, hh]

section
variable {s : State} {init : InitId} {a : Nat} {v : Word32} (h4 : a % 4 = 0) (ha : a < 0x1800000)
  (hx : crossAddr a = false)
include h4 ha hx

/-- A read of a block that is not granted is answered with Unsupported Request (R23). -/
theorem State.readAt_ungranted (hr : (readRow init a).isNone = true) (hs : s.arrives init = true)
    (hg : s.granted (distOf init) (a / 0x100000) false = false) : s.readAt init a = s.reply .unsupported := by
  have hlow : ¬ 0x1800000 ≤ a := by omega
  simp [State.readAt, dword_eq h4, hlow, hx, Option.isNone_iff_eq_none.mp hr, State.access_foreign hs hg]

/-- A write of a block that is not granted is answered with Unsupported Request (R23). -/
theorem State.writeAt_ungranted (hr : (writeRow init a v).isNone = true) (hs : s.arrives init = true)
    (hg : s.granted (distOf init) (a / 0x100000) = false) : s.writeAt none init a v = s.reply .unsupported := by
  have hlow : ¬ 0x1800000 ≤ a := by omega
  simp [State.writeAt, dword_eq h4, hlow, hx, Option.isNone_iff_eq_none.mp hr, State.access_foreign hs hg]

/-- An admitted read that its block does not deny reads the register. -/
theorem State.readAt_own (hr : (readRow init a).isNone = true) (hs : Admits s init (a / 0x100000) false)
    (hf : s.foreign init a false = none) : s.readAt init a = s.readReg init a := by
  have hlow : ¬ 0x1800000 ≤ a := by omega
  simp [State.readAt, dword_eq h4, hlow, hx, Option.isNone_iff_eq_none.mp hr, State.access_admitted hs, hf]

/-- An admitted write that its block does not deny writes the register. -/
theorem State.writeAt_own (hr : (writeRow init a v).isNone = true) (hs : Admits s init (a / 0x100000))
    (hf : s.foreign init a true = none) : s.writeAt none init a v = s.writeReg init a v := by
  have hlow : ¬ 0x1800000 ≤ a := by omega
  simp [State.writeAt, dword_eq h4, hlow, hx, Option.isNone_iff_eq_none.mp hr, State.access_admitted hs, hf]

/-- An admitted write that its block denies or ignores leaves what the block leaves. -/
theorem State.writeAt_denied {t : State} (hr : (writeRow init a v).isNone = true) (hs : Admits s init (a / 0x100000))
    (hf : s.foreign init a true = some t) : s.writeAt none init a v = t := by
  have hlow : ¬ 0x1800000 ≤ a := by omega
  simp [State.writeAt, dword_eq h4, hlow, hx, Option.isNone_iff_eq_none.mp hr, State.access_admitted hs, hf]

end

/-- No block denies the house district. -/
theorem State.foreign_core (s : State) {init : InitId} (h : isCore init = true) (a : Nat) (w : Bool) :
    s.foreign init a w = none := by
  simp [State.foreign, distOf_core h]

/-- No core is a host port (R17). -/
theorem isHost_core {init : InitId} (h : isCore init = true) : isHost init = false := by
  simp only [isCore, decide_eq_true_eq] at h
  simp only [isHost, Bool.and_eq_false_iff, decide_eq_false_iff_not]
  omega

/-! ### Accesses that arrive (R23, R374) -/

theorem State.accesses_one (s : State) (a : Acc) : s.accesses [a] = s.accessOne none a := rfl

/-- A host's AtomicOp that would read is an Unsupported Request (R374). -/
theorem exec_reg64LoRead_atomic {s : State} {init : InitId} {a : Nat} (hs : s.arrives init = true)
    (hh : isHost init = true) (ha : a < 0x80000000) :
    exec (.reg64LoRead init ⟨a, .atomic⟩) s = .next (s.begin.reply .unsupported) := by
  have hlow : ¬ a ≥ 0x80000000 := by omega
  show execReg64LoRead init ⟨a, .atomic⟩ s = _
  simp [execReg64LoRead, hlow, hs, hh]

/-- A host's read of a part of a dword is a Completer Abort (R374). -/
theorem exec_reg64LoRead_part {s : State} {init : InitId} {a : Nat} (hs : s.arrives init = true)
    (hh : isHost init = true) (ha : a < 0x80000000) :
    exec (.reg64LoRead init ⟨a, .part⟩) s = .next (s.begin.reply .completerAbort) := by
  have hlow : ¬ a ≥ 0x80000000 := by omega
  show execReg64LoRead init ⟨a, .part⟩ s = _
  simp [execReg64LoRead, hlow, hs, hh]

/-- A host's AtomicOp that would write is an Unsupported Request (R374). -/
theorem exec_registerWrite_atomic {s : State} {init : InitId} {a : Nat} (v : Word32) (more : List Word32)
    (hs : s.arrives init = true) (hh : isHost init = true) (ha : a < 0x80000000) :
    exec (.registerWrite init a ⟨v, more, .atomic, []⟩) s = .next (s.begin.reply .unsupported) := by
  have hlow : ¬ a ≥ 0x80000000 := by omega
  show execRegisterWrite init a ⟨v, more, .atomic, []⟩ s = _
  simp [execRegisterWrite, hlow, hs, hh, State.accesses]

/-- A host's read beside a dword is a Completer Abort (R374). -/
theorem State.accessOne_misaligned {s : State} {a : Acc} (h : s.arrives a.init = true) (hh : isHost a.init = true)
    (h4 : a.addr % 4 ≠ 0) (hr : a.write = false) (cyc : Option Bool) : s.accessOne cyc a = s.reply .completerAbort := by
  simp [State.accessOne, h, hh, h4, hr]

/-- An initiator out of reach reads nothing, whatever the form of its request. -/
theorem exec_reg64LoRead_absent {s : State} {init : InitId} {a : Nat} (hs : s.arrives init = false) (ha : a < 0x80000000)
    (f : Tlp) : exec (.reg64LoRead init ⟨a, f⟩) s = .next s.begin := by
  have hlow : ¬ a ≥ 0x80000000 := by omega
  show execReg64LoRead init ⟨a, f⟩ s = _
  simp [execReg64LoRead, hlow, hs]

/-- An access beside the Crossing, at a dword and with nothing before it, is its read or its write. -/
theorem State.accessOne_near {s : State} {a : Acc} (h : s.arrives a.init = true) (h4 : a.addr % 4 = 0)
    (hq : isHost a.init = true → (s.hp (distOf a.init)).queue = []) (hx : crossAddr a.addr = false) :
    s.accessOne none a = if a.write then s.writeAt none a.init a.addr a.value else s.readAt a.init a.addr := by
  rw [State.accessOne_here h h4 hq, State.perform_near s none hx]

/-- The reserved range lies beside the Crossing. -/
theorem crossAddr_reserved {a : Nat} (ha : 0x1800000 ≤ a) : crossAddr a = false := by
  simp only [crossAddr, Bool.and_eq_false_iff, decide_eq_false_iff_not]
  omega

section
variable {s : State} {init : InitId} {a : Nat} (hs : s.arrives init = true) (h4 : a % 4 = 0) (ha : a < 0x80000000)
  (hq : isHost init = true → (s.hp (distOf init)).queue = []) (hx : crossAddr a = false)
include hs h4 ha hq hx

/-- A read beside the Crossing that nothing holds back is performed at once. -/
theorem exec_reg64LoRead_near : exec (.reg64LoRead init ⟨a, .whole⟩) s = .next (s.begin.readAt init a) := by
  rw [exec_reg64LoRead_whole s init ha, State.accessOne_near hs h4 hq hx]
  rfl

/-- A write beside the Crossing that nothing holds back is performed at once. -/
theorem exec_registerWrite_near (v : Word32) :
    exec (.registerWrite init a ⟨v, [], .whole, []⟩) s = .next (s.begin.writeAt none init a v) := by
  rw [exec_registerWrite_whole s init v [] ha (fun _ _ => h4), State.accesses_one, State.accessOne_near hs h4 hq hx]
  rfl

end

/-! ### The house district's accesses (R21, R24) -/

section
variable {s : State} {init : InitId} (hb : ByHouse s init)
include hb

theorem State.arrives_house : s.arrives init = true := (State.house_admitted hb 0 true).1

/-- A control core reads a register without a command of its own. -/
theorem exec_read_house {a : Nat} (h4 : a % 4 = 0) (ha : a < 0x1800000) (hx : crossAddr a = false)
    (hr : (readRow init a).isNone = true) : exec (.reg64LoRead init ⟨a, .whole⟩) s = .next (s.begin.readReg init a) := by
  have hq : isHost init = true → (s.hp (distOf init)).queue = [] := by simp [isHost_core hb.1]
  rw [exec_reg64LoRead_near (State.arrives_house hb) h4 (by omega) hq hx,
    State.readAt_own h4 ha hx hr (State.house_admitted (s := s.begin) hb _ _) (State.foreign_core _ hb.1 a false)]

/-- A control core writes a register without a command of its own. -/
theorem exec_write_house {a : Nat} {v : Word32} (h4 : a % 4 = 0) (ha : a < 0x1800000) (hx : crossAddr a = false)
    (hr : (writeRow init a v).isNone = true) :
    exec (.registerWrite init a ⟨v, [], .whole, []⟩) s = .next (s.begin.writeReg init a v) := by
  have hq : isHost init = true → (s.hp (distOf init)).queue = [] := by simp [isHost_core hb.1]
  rw [exec_registerWrite_near (State.arrives_house hb) h4 (by omega) hq hx,
    State.writeAt_own h4 ha hx hr (State.house_admitted (s := s.begin) hb _ _) (State.foreign_core _ hb.1 a true)]

end

/-- Queues whose pointers agree are left alone (R360). -/
theorem State.queGuard_agree (s : State) (init : InitId) {l : List Nat} (h : ∀ q ∈ l, s.queMismatch q = false) :
    l.foldl (fun s q => s.queGuard q init) s = s := by
  induction l with
  | nil => rfl
  | cons q l ih =>
    have hq : s.queGuard q init = s := by simp [State.queGuard, h q (List.mem_cons_self ..)]
    rw [List.foldl_cons, hq, ih (fun q hm => h q (List.mem_cons_of_mem _ hm))]

section
variable {s : State} {init : InitId} {a : Nat} (hq : ∀ q ∈ s.queuesAt init a, s.queMismatch q = false)
  (hv : a ≠ Reg.pmcValLo)
include hq hv

/-- A LO register answers its word and latches the HI half (R24). -/
theorem State.readReg_lo (hp : isPairLo a = true) : s.readReg init a =
    { s with hiLatch := s.hiLatch.set (initKey init a) (s.readWord init (a + 4)) }.reply (.word (s.readWord init a)) := by
  simp [State.readReg, State.queGuard_agree s init hq, hv, hp]

/-- A HI register answers what was latched, or its live word (R24). -/
theorem State.readReg_hi (hp : isPairLo a = false) (h4 : 4 ≤ a) (hl : isPairLo (a - 4) = true) : s.readReg init a =
    s.reply (.word (s.hiLatch.get (s.readWord init a) (initKey init (a - 4)))) := by
  simp [State.readReg, State.queGuard_agree s init hq, hv, hp, h4, hl]

/-- Any other register answers its word. -/
theorem State.readReg_single (hp : isPairLo a = false) (hl : a < 4 ∨ isPairLo (a - 4) = false) : s.readReg init a =
    s.reply (.word (s.readWord init a)) := by
  have : (Decidable.decide (4 ≤ a) && isPairLo (a - 4)) = false := by
    rwa [Bool.and_eq_false_iff, decide_eq_false_iff_not, Nat.not_le]
  simp [State.readReg, State.queGuard_agree s init hq, hv, hp, this]

end

/-- The blocks whose registers are all written by their access types. -/
theorem State.writeReg_byTypes (s : State) (init : InitId) {a : Nat} (v : Word32) (h : a / 0x100000 ∈ [2, 3, 20, 21, 23]) :
    s.writeReg init a v = s.writeAny init a v := by
  simp only [List.mem_cons, List.not_mem_nil, or_false] at h
  obtain h | h | h | h | h := h <;> simp only [State.writeReg, h]

/-- Those blocks lie beside the Crossing. -/
theorem crossAddr_byTypes {a : Nat} (h : a / 0x100000 ∈ [2, 3, 20, 21, 23]) : a < 0x1800000 ∧ crossAddr a = false := by
  simp only [List.mem_cons, List.not_mem_nil, or_false] at h
  simp only [crossAddr, Bool.and_eq_false_iff, decide_eq_false_iff_not]
  omega

theorem State.writeAny_single (s : State) (init : InitId) {a : Nat} (v : Word32) (hp : isPairLo a = false)
    (hl : isPairLo (a - 4) = false) : s.writeAny init a v = s.writePlain init a v := by
  simp [State.writeAny, hp, hl]

theorem isPairLo_eq {a : Nat} {d : RegDef} (h : regAt a = some d) : isPairLo a = d.pair := by simp [isPairLo, h]

/-- A reserved offset ignores a write (R23). -/
theorem State.writePlain_reserved (s : State) (init : InitId) {a : Nat} (v : Word32) (h : regAt a = none) :
    s.writePlain init a v = s := by
  simp [State.writePlain, h]

theorem State.writePlain_reg (s : State) (init : InitId) {a : Nat} {d : RegDef} (v : Word32) (h : regAt a = some d) :
    s.writePlain init a v = s.wr (regKey init a) (d.written (s.rd (regKey init a)) v) := by
  simp [State.writePlain, h]

/-! ### Two writes of one FAB cycle (R42, R100, R368, R386) -/

/-- Two accesses of different places are taken in one order, however they are named. -/
theorem cycleOrder_pair {a b : Acc} (h : accGroup a ≠ accGroup b) (p : Acc → Bool) :
    cycleOrder ([a, b].filter p) = cycleOrder ([b, a].filter p) := by
  have hf : ∀ g : Nat × Nat, ([a, b].filter p).filter (fun x => accGroup x == g) =
      ([b, a].filter p).filter (fun x => accGroup x == g) := by
    intro g
    rw [List.filter_filter, List.filter_filter]
    by_cases ha : accGroup a = g
    · have hb : ¬ accGroup b = g := fun hb => h (ha.trans hb.symm)
      simp [List.filter_cons, hb]
    · simp [List.filter_cons, ha]
  simp only [cycleOrder, hf]

/-- An input of the Crossing belongs to one initiator. -/
theorem initInput_inj {i j : InitId} {n : Nat} (hi : initInput i = some n) (hj : initInput j = some n) : i = j := by
  have key : ∀ i : InitId, initInput i = some n → i.toNat = n ∧ n < 20 ∨ i.toNat = 0x40 ∧ n = 20 ∨ i.toNat = 0x50 ∧ n = 21 := by
    intro i h
    simp only [initInput] at h
    repeat' split at h
    all_goals simp_all
  apply BitVec.eq_of_toNat_eq
  have := key i hi
  have := key j hj
  omega

/-- Of accesses of two initiators the one that an input presents does not depend on which is named first. -/
theorem find_input_pair {a b : Acc} (h : a.init ≠ b.init) (i : Nat) :
    [a, b].find? (fun x => initInput x.init == some i) = [b, a].find? (fun x => initInput x.init == some i) := by
  by_cases ha : initInput a.init = some i
  · have hb : ¬ initInput b.init = some i := fun hb => h (initInput_inj ha hb)
    simp [hb, ha]
  · by_cases hb : initInput b.init = some i <;> simp [ha, hb]

/-- Two accesses of different initiators are granted in one order, however they are named (R386). -/
theorem State.grantAll_pair {a b : Acc} (h : a.init ≠ b.init) (n : Nat) (s : State) :
    State.grantAll n [a, b] s = State.grantAll n [b, a] s := by
  have hab : a ≠ b := fun e => h (congrArg Acc.init e)
  have herase : ∀ x ∈ [a, b], [a, b].erase x = [b, a].erase x := by
    intro x hx
    simp only [List.mem_cons, List.not_mem_nil, or_false] at hx
    obtain rfl | rfl := hx
    · simp [hab.symm]
    · simp [hab]
  cases n with
  | zero => rfl
  | succ n =>
    simp only [State.grantAll, find_input_pair h]
    split
    · rfl
    · rename_i x hx
      obtain ⟨i, -, hi⟩ := List.exists_of_findSome?_eq_some hx
      rw [herase x (by simpa [or_comm] using List.mem_of_find?_eq_some hi)]

/-- Two accesses of one FAB cycle that differ in their place, and are not both one initiator's across the Crossing, have
one outcome, whichever is named first. -/
theorem State.accesses_pair (s : State) {a b : Acc} (h : accGroup a ≠ accGroup b)
    (hc : a.init ≠ b.init ∨ crossAddr a.addr = false ∨ crossAddr b.addr = false) : s.accesses [a, b] = s.accesses [b, a] := by
  have hgrant : ∀ t : State, State.grantAll 2 ([a, b].filter (fun x => crossAddr x.addr)) t =
      State.grantAll 2 ([b, a].filter (fun x => crossAddr x.addr)) t := by
    intro t
    obtain h | h | h := hc
    · cases ha : crossAddr a.addr <;> cases hb : crossAddr b.addr <;>
        simp [ha, hb, State.grantAll_pair h]
    · simp [List.filter_cons, h]
    · simp [List.filter_cons, h]
  simp only [State.accesses, cycleOrder_pair h, List.length_cons, List.length_nil]
  exact hgrant _

/-! ### Configuration space and BAR4 (R372, R373, R378) -/

/-- The settings that a host writes in configuration space: MSI-X Enable, Function Mask and Bus Master Enable. -/
def HostPort.settings (h : HostPort) : Bool × Bool × Bool := (h.msixEn, h.fmask, h.bme)

/-- What the messages and transfers of a port leave alone: memory, the mode and the port's settings. -/
def State.portFrame (s : State) (d : Nat) : List Host.Cell × ModeState × Bool × Bool × Bool :=
  (s.mem, s.mode, (s.hp d).settings)

@[simp] theorem State.hp_setHp (s : State) (d : Nat) (h : HostPort) : (s.setHp d h).hp d = h := by
  simp [State.hp, State.setHp]

@[simp] theorem State.portFrame_emit (s : State) (o : Out) (d : Nat) : (s.emit o).portFrame d = s.portFrame d := rfl
@[simp] theorem State.portFrame_bw (s : State) (k n d : Nat) : (s.bw k n).portFrame d = s.portFrame d := rfl
@[simp] theorem State.portFrame_setDma (s : State) (e k : Nat) (x : DmaState) (d : Nat) :
    (s.setDma e k x).portFrame d = s.portFrame d := rfl

/-- A port replaced by one of the same settings. -/
theorem State.portFrame_setHp (s : State) {d : Nat} {h : HostPort} (hs : h.settings = (s.hp d).settings) :
    (s.setHp d h).portFrame d = s.portFrame d := by
  simp [State.portFrame, hs]

@[simp] theorem State.portFrame_sendMsix (s : State) (d v : Nat) : (s.sendMsix d v).portFrame d = s.portFrame d :=
  s.portFrame_setHp rfl

theorem State.portFrame_emits {α : Type} (f : State → α → Out) (l : List α) (s : State) (d : Nat) :
    (l.foldl (fun s e => s.emit (f s e)) s).portFrame d = s.portFrame d :=
  foldl_keeps (State.portFrame · d) (fun s e => s.emit (f s e)) (fun _ _ => rfl) l s

@[simp] theorem State.portFrame_alley (s : State) (f : Nat → Nat) (off n d : Nat) :
    (s.alley f off n).portFrame d = s.portFrame d := by
  refine foldl_keeps (State.portFrame · d) _ (fun s i => ?_) _ s
  split <;> rfl

@[simp] theorem State.portFrame_flushMsix (s : State) (d : Nat) : (s.flushMsix d).portFrame d = s.portFrame d := by
  refine foldl_keeps (State.portFrame · d) _ (fun s e => ?_) _ s
  split
  · exact s.portFrame_sendMsix d e.1
  · rfl

@[simp] theorem State.portFrame_dmaTransfer (s : State) (d k : Nat) : (s.dmaTransfer d k).portFrame d = s.portFrame d := by
  have hlast := s.portFrame_setHp (d := d) (h := { s.hp d with last := k }) rfl
  unfold State.dmaTransfer
  dsimp only
  split
  · rw [State.portFrame_setDma]
    exact (State.portFrame_emits _ _ _ d).trans hlast
  · split
    · rw [State.portFrame_setDma, hlast]
    · rw [State.portFrame_setDma, State.portFrame_alley, State.portFrame_bw, State.portFrame_bw]
      exact (State.portFrame_emits _ _ _ d).trans hlast

theorem State.portFrame_dmaPump (d fuel : Nat) (s : State) : (State.dmaPump d fuel s).portFrame d = s.portFrame d := by
  induction fuel generalizing s with
  | zero => rfl
  | succ n ih =>
    unfold State.dmaPump
    dsimp only
    split
    · rfl
    · split
      · rw [ih, State.portFrame_dmaTransfer]
      · rfl

/-- Held messages and transfers leave alone what State.portFrame names. -/
theorem State.portFrame_hostFlush (s : State) (d : Nat) : (s.hostFlush d).portFrame d = s.portFrame d := by
  unfold State.hostFlush State.dmaGo
  dsimp only
  split
  · rw [State.portFrame_dmaPump, State.portFrame_flushMsix]
  · rfl

/-- A port set anew and its held messages and transfers sent: memory, the mode and the new settings stand. -/
theorem State.hostFlush_setHp (s : State) (d : Nat) (h : HostPort) : let t := (s.setHp d h).hostFlush d
    t.mem = s.mem ∧ t.mode = s.mode ∧ (t.hp d).msixEn = h.msixEn ∧ (t.hp d).fmask = h.fmask ∧ (t.hp d).bme = h.bme := by
  have hf := (s.setHp d h).portFrame_hostFlush d
  simpa [State.portFrame, HostPort.settings] using hf

/-- Only a host reaches configuration space and BAR4. -/
theorem exec_registerWrite_config_other (s : State) {init : InitId} {a : Nat} (v : Word32) (hh : isHost init = false)
    (ha : 0x80000000 ≤ a) : exec (.registerWrite init a ⟨v, [], .whole, []⟩) s = .next s.begin := by
  show execRegisterWrite init a ⟨v, [], .whole, []⟩ s = _
  simp [execRegisterWrite, ha, hh]

section
variable {s : State} {init : InitId} (hh : isHost init = true) (hm : s.mode.mode ≠ .reset)
  (hl : (s.hp (distOf init)).link = true)
include hh hm

/-- A host writes its function's configuration space and BAR4 out of Reset. -/
theorem exec_registerWrite_config {a : Nat} (v : Word32) (ha : 0x80000000 ≤ a) :
    exec (.registerWrite init a ⟨v, [], .whole, []⟩) s = .next (s.begin.configWrite (distOf init) a v) := by
  show execRegisterWrite init a ⟨v, [], .whole, []⟩ s = _
  simp [execRegisterWrite, ha, hh, hm]

include hl

/-- A host reads its function's configuration space out of Reset, and BAR4 in D0. -/
theorem exec_reg64LoRead_config {a : Nat} (ha : 0x80000000 ≤ a)
    (hd : (s.hp (distOf init)).d3 = false ∨ 0x90000000 ≤ a) :
    exec (.reg64LoRead init ⟨a, .whole⟩) s = .next (s.begin.reply (.word (s.begin.configWord (distOf init) a))) := by
  have hp : s.begin.hp (distOf init) = s.hp (distOf init) := rfl
  have hbar : ¬ (a < 0x90000000 ∧ (s.hp (distOf init)).d3 = true) := by
    rintro ⟨h1, h2⟩
    obtain h | h := hd
    · simp [h] at h2
    · omega
  show execReg64LoRead init ⟨a, .whole⟩ s = _
  simp [execReg64LoRead, State.configRead, ha, hh, hm, hp, hl, hbar]

end

/-- MSI-X Enable and Function Mask are set in Message Control (R378). -/
theorem State.configWrite_msix (s : State) {d : Nat} (v : Word32) (hl : (s.hp d).link = true) :
    s.configWrite d 0x90000000 v =
      (s.setHp d { s.hp d with msixEn := v.getLsbD 31, fmask := v.getLsbD 30 }).hostFlush d := by
  simp [State.configWrite, hl]

/-- Bus Master Enable is set in the Command register. -/
theorem State.configWrite_command (s : State) {d : Nat} (v : Word32) (hl : (s.hp d).link = true) :
    s.configWrite d 0x90000004 v = (s.setHp d { s.hp d with bme := v.getLsbD 2 }).hostFlush d := by
  simp [State.configWrite, hl]

/-- Device ID 0x6400 stands in the upper half of its dword (R372). -/
theorem State.configWord_device (s : State) (d : Nat) : field (s.configWord d 0x90000010) 16 16 = 0x6400 := by
  have hw : s.configWord d 0x90000010 = pack [(16, 0x6400), (0, s.fld (distKey d Reg.hstId) 16 16)] := rfl
  rw [hw]
  exact field_pack_upper (by decide) (Nat.mod_lt _ (by decide))

/-- Class Code and Revision ID (R372). -/
theorem State.configWord_class (s : State) (d : Nat) : s.configWord d 0x90000014 = 0x048000A1#32 := rfl

/-- A dword of the Pending Bit Array holds the pending bits of 32 vectors (R373). -/
theorem State.configWord_pending (s : State) (d : Nat) {k j : Nat} (hk : k < 8) (hj : j < 32) :
    (s.configWord d (0x80002000 + 4 * k)).getLsbD j = (s.hp d).pend.get false (32 * k + j) := by
  have hw : s.configWord d (0x80002000 + 4 * k) =
      pack ((List.range 32).map (fun j => (j, bit ((s.hp d).pend.get false (32 * k + j))))) := by
    have h1 : ¬ 0x80002000 + 4 * k < 0x80001000 := by omega
    have h2 : 0x80002000 + 4 * k < 0x80002020 := by omega
    have h3 : ∀ n, 0x90000000 ≤ n → ¬ 0x80002000 + 4 * k = n := by omega
    simp [State.configWord, h1, h2, h3]
  rw [hw, pack_bits_getLsbD _ _ hj]
  simp [hj]

/-! ### Writes by access types (R21, R23, R24, R128) -/

section
variable {s : State} {init : InitId} (hb : ByHouse s init) {a : Nat} {v : Word32} (h4 : a % 4 = 0)
  (hr : (writeRow init a v).isNone = true) (hblk : a / 0x100000 ∈ [2, 3, 20, 21, 23])
include hb h4 hr hblk

/-- A control core's write in a block whose registers are written by their access types. -/
theorem exec_write_byTypes :
    exec (.registerWrite init a ⟨v, [], .whole, []⟩) s = .next (s.begin.writeAny init a v) := by
  obtain ⟨hlow, hx⟩ := crossAddr_byTypes hblk
  rw [exec_write_house hb h4 hlow hx hr, State.writeReg_byTypes _ _ _ hblk]

/-- A register that is no half of a pair takes the write by its access types. -/
theorem exec_write_single {d : RegDef} (hd : regAt a = some d) (hp : d.pair = false) (hl : isPairLo (a - 4) = false) :
    exec (.registerWrite init a ⟨v, [], .whole, []⟩) s =
      .next (s.begin.wr (regKey init a) (d.written (s.rd (regKey init a)) v)) := by
  rw [exec_write_byTypes hb h4 hr hblk, State.writeAny_single _ _ _ ((isPairLo_eq hd).trans hp) hl,
    State.writePlain_reg _ _ _ hd, State.rd_begin]

/-- A reserved offset ignores a write (R23). -/
theorem exec_write_reserved (hd : regAt a = none) (hl : isPairLo (a - 4) = false) :
    exec (.registerWrite init a ⟨v, [], .whole, []⟩) s = .next s.begin := by
  have hp : isPairLo a = false := by simp [isPairLo, hd]
  rw [exec_write_byTypes hb h4 hr hblk, State.writeAny_single _ _ _ hp hl, State.writePlain_reserved _ _ _ hd]

end

/-- A HI write is staged for its initiator (R24). -/
theorem State.writeAny_hi (s : State) (init : InitId) {a : Nat} {e : RegDef} (v : Word32) (h4 : 4 ≤ a)
    (hp : isPairLo a = false) (hl : isPairLo (a - 4) = true) (he : regAt (a - 4) = some e) (hw : e.rw ≠ 0) :
    s.writeAny init a v = { s with hiStage := s.hiStage.set (initKey init (a - 4)) v } := by
  simp [State.writeAny, State.writePair, h4, hp, hl, he, hw]

/-- A LO write stores both halves, the HI half from what was staged (R24). -/
theorem State.writeAny_lo (s : State) (init : InitId) {a : Nat} {d e : RegDef} (v : Word32) (hp : isPairLo a = true)
    (hd : regAt a = some d) (he : regAt (a + 4) = some e) (hk : regKey init (a + 4) ≠ regKey init a) :
    s.writeAny init a v = (s.wr (regKey init a) (d.written (s.rd (regKey init a)) v)).wr (regKey init (a + 4))
      (e.written (s.rd (regKey init (a + 4))) (s.hiStage.get 0 (initKey init a))) := by
  simp [State.writeAny, State.writePair, hp, State.writePlain_reg _ _ _ hd, State.writePlain_reg _ _ _ he,
    State.rd_wr_ne _ _ hk]

/-- LOT_CTL's row of the register map (R128). -/
theorem regAt_lotCtl : regAt Reg.lotCtl =
    some ⟨"LOT_CTL", 0x200000, 1, 0x4, 1, 0x4, 0xF0, 0xFFFF, 0x0, 0x0, 0x0, .common, false⟩ := by decide +kernel

theorem regKey_lotCtl (init : InitId) : regKey init Reg.lotCtl = Reg.lotCtl := by
  simp [regKey, regAt_lotCtl]

/-- LOT_CTL has no command of its own. -/
theorem writeRow_lotCtl (init : InitId) (v : Word32) : (writeRow init Reg.lotCtl v).isNone = true := rfl

/-- A host's write of LOT_CTL is ignored by its block (R128). -/
theorem State.foreign_lotCtl (s : State) {init : InitId} (h : isHost init = true) :
    s.foreign init Reg.lotCtl true = some s := by
  have hd : distOf init < 4 := by
    simp only [isHost, Bool.and_eq_true, decide_eq_true_eq] at h
    simp only [distOf, isHost, h.1, h.2, decide_true, Bool.and_self, ↓reduceIte]
    omega
  have hn : (distOf init == houseDist) = false := by
    simp only [beq_eq_false_iff_ne, houseDist]
    omega
  simp only [State.foreign, hn]
  rfl

/-- A write to a register with RW bits [15:0] alone sets its lower half and keeps its upper half. -/
theorem RegDef.written_lower {d : RegDef} (h : d.rw = 0xFFFF) (hc : d.w1c = 0) (hs : d.w1s = 0) (old v : Word32) :
    field (d.written old v) 0 16 = field v 0 16 ∧ field (d.written old v) 16 16 = field old 16 16 := by
  have hb : ∀ i, i < 32 → (d.written old v).getLsbD i = if i < 16 then v.getLsbD i else old.getLsbD i := by
    intro i hi
    have hm : natBit d.rw i = Decidable.decide (i < 16) := by
      rw [h, natBit]
      exact Nat.testBit_two_pow_sub_one 16 i
    rw [RegDef.written_bit d old v hi, hm, hc, hs]
    simp [natBit]
  constructor <;> apply Nat.eq_of_testBit_eq <;> intro j <;> rw [field_bit, field_bit]
  · by_cases hj : j < 16
    · simp [hj, hb j (by omega)]
    · simp [hj]
  · by_cases hj : j < 16
    · have hup : ¬ 16 + j < 16 := by omega
      rw [hb (16 + j) (by omega), if_neg hup]
    · simp only [hj, decide_false, Bool.false_and]

/-- Before a plan a host is granted HST, TPL and ERR (R33). -/
theorem State.granted_without_plan {s : State} {d : Nat} (n : Nat) (w : Bool) (hp : s.plan = none) (hd : d < 4)
    (hm : s.mode.mode ≠ .maintenance) : s.granted d n w = true ↔ n = 0 ∨ n = 1 ∨ n = 23 := by
  have hne : d ≠ houseDist := by
    simp only [houseDist]
    omega
  simp [State.granted, hp, hm, hne]

/-! ### What each request ends with (R23, R374, R375) -/

section
variable {s : State} {init : InitId} {a : Nat}

/-- An initiator out of reach writes nothing. -/
theorem exec_registerWrite_absent (hs : s.arrives init = false) (ha : a < 0x80000000) (v : Word32) :
    exec (.registerWrite init a ⟨v, [], .whole, []⟩) s = .next s.begin := by
  rw [exec_registerWrite_whole s init v [] ha (fun _ h => absurd h (by simp [hs])), State.accesses_one,
    State.accessOne_absent hs]

/-- A host's read beside a dword is a Completer Abort (R374). -/
theorem exec_reg64LoRead_misaligned (hs : s.arrives init = true) (hh : isHost init = true) (ha : a < 0x80000000)
    (h4 : a % 4 ≠ 0) : exec (.reg64LoRead init ⟨a, .whole⟩) s = .next (s.begin.reply .completerAbort) := by
  rw [exec_reg64LoRead_whole s init ha, State.accessOne_misaligned hs hh h4 rfl]

section
variable (hs : s.arrives init = true) (hh : isHost init = true) (ha : a < 0x80000000) (h4 : a % 4 = 0)
  (hq : (s.hp (distOf init)).queue ≠ [])
include hs hh ha h4 hq

/-- A host's read behind a write that the Crossing has not accepted waits (R375). -/
theorem exec_reg64LoRead_waits : exec (.reg64LoRead init ⟨a, .whole⟩) s = .next (s.begin.setHp (distOf init)
    { s.hp (distOf init) with
      queue := (s.hp (distOf init)).queue ++ [{ init := init, addr := a, write := false }] }) := by
  rw [exec_reg64LoRead_whole s init ha, State.accessOne_waits hs hh h4 hq]
  rfl

/-- A host's write behind a write that the Crossing has not accepted waits (R375). -/
theorem exec_registerWrite_waits (v : Word32) :
    exec (.registerWrite init a ⟨v, [], .whole, []⟩) s = .next (s.begin.setHp (distOf init)
      { s.hp (distOf init) with
        queue := (s.hp (distOf init)).queue ++ [{ init := init, addr := a, write := true, value := v }] }) := by
  rw [exec_registerWrite_whole s init v [] ha (fun _ _ => h4), State.accesses_one, State.accessOne_waits hs hh h4 hq]
  rfl

end

section
variable (hs : s.arrives init = true) (hh : isHost init = true) (h4 : a % 4 = 0) (hr : 0x1800000 ≤ a)
  (ha : a < 0x80000000) (hq : (s.hp (distOf init)).queue = [])
include hs hh h4 hr ha hq

/-- A host's read of the reserved range is an Unsupported Request (R23). -/
theorem exec_reg64LoRead_reserved : exec (.reg64LoRead init ⟨a, .whole⟩) s = .next (s.begin.reply .unsupported) := by
  rw [exec_reg64LoRead_near hs h4 ha (fun _ => hq) (crossAddr_reserved hr), State.readAt_reserved _ hh h4 hr]

/-- A host's write of the reserved range is an Unsupported Request (R23). -/
theorem exec_registerWrite_reserved (v : Word32) :
    exec (.registerWrite init a ⟨v, [], .whole, []⟩) s = .next (s.begin.reply .unsupported) := by
  rw [exec_registerWrite_near hs h4 ha (fun _ => hq) (crossAddr_reserved hr), State.writeAt_reserved _ v hh h4 hr]

end

section
variable (hs : s.arrives init = true) (h4 : a % 4 = 0) (ha : a < 0x1800000) (hx : crossAddr a = false)
  (hq : isHost init = true → (s.hp (distOf init)).queue = [])
include hs h4 ha hx hq

/-- A read of a block that is not granted is an Unsupported Request (R23). -/
theorem exec_reg64LoRead_ungranted (hg : s.granted (distOf init) (a / 0x100000) false = false)
    (hr : (readRow init a).isNone = true) :
    exec (.reg64LoRead init ⟨a, .whole⟩) s = .next (s.begin.reply .unsupported) := by
  rw [exec_reg64LoRead_near hs h4 (by omega) hq hx, State.readAt_ungranted (s := s.begin) h4 ha hx hr hs hg]

/-- A write of a block that is not granted is an Unsupported Request (R23). -/
theorem exec_registerWrite_ungranted (hg : s.granted (distOf init) (a / 0x100000) = false) (v : Word32)
    (hr : (writeRow init a v).isNone = true) :
    exec (.registerWrite init a ⟨v, [], .whole, []⟩) s = .next (s.begin.reply .unsupported) := by
  rw [exec_registerWrite_near hs h4 (by omega) hq hx, State.writeAt_ungranted (s := s.begin) h4 ha hx hr hs hg]

end

end

/-- Two writes of one FAB cycle of different places, not both one initiator's across the Crossing, have one outcome,
whichever is named first. -/
theorem exec_registerWrite_swap (s : State) {a b : Acc} (hwa : a.write = true) (hwb : b.write = true)
    (h4a : a.addr % 4 = 0) (h4b : b.addr % 4 = 0) (ha : a.addr < 0x80000000) (hb : b.addr < 0x80000000)
    (hg : accGroup a ≠ accGroup b) (hc : a.init ≠ b.init ∨ crossAddr a.addr = false ∨ crossAddr b.addr = false) :
    exec (.registerWrite a.init a.addr ⟨a.value, [], .whole, [b]⟩) s =
      exec (.registerWrite b.init b.addr ⟨b.value, [], .whole, [a]⟩) s := by
  have hself : ∀ x : Acc, x.write = true → { init := x.init, addr := x.addr, write := true, value := x.value } = x := by
    rintro ⟨_, _, _, _⟩ rfl
    rfl
  rw [exec_registerWrite_whole s a.init a.value [b] ha (fun _ _ => h4a),
    exec_registerWrite_whole s b.init b.value [a] hb (fun _ _ => h4b), hself a hwa, hself b hwb,
    State.accesses_pair _ hg hc]

/-! ### LOT_CTL (R128) -/

/-- A host's write of LOT_CTL changes nothing: it does not arrive, is not granted, or is ignored (R128). -/
theorem exec_write_lotCtl_host {s : State} {init : InitId} (v : Word32) (hh : isHost init = true)
    (hq : (s.hp (distOf init)).queue = []) :
    exec (.registerWrite init Reg.lotCtl ⟨v, [], .whole, []⟩) s = .next s.begin ∨
      exec (.registerWrite init Reg.lotCtl ⟨v, [], .whole, []⟩) s = .next (s.begin.reply .unsupported) := by
  have hlow : Reg.lotCtl < 0x80000000 := by decide
  cases hs : s.arrives init with
  | false =>
    exact .inl (exec_registerWrite_absent hs hlow v)
  | true =>
    cases hg : s.granted (distOf init) (Reg.lotCtl / 0x100000) with
    | false =>
      exact .inr (exec_registerWrite_ungranted hs rfl (by decide) rfl (fun _ => hq) hg v (writeRow_lotCtl init v))
    | true =>
      left
      have hadm : Admits s.begin init (Reg.lotCtl / 0x100000) := ⟨hs, hg, by rw [hh]; rfl⟩
      rw [exec_registerWrite_near hs rfl hlow (fun _ => hq) rfl, State.writeAt_denied rfl (by decide) rfl (writeRow_lotCtl init v) hadm (State.foreign_lotCtl _ hh)]

/-- A control core's write of LOT_CTL sets its lower half alone (R128). -/
theorem exec_write_lotCtl_house {s : State} {init : InitId} (v : Word32) (hb : ByHouse s init) :
    Completes (.registerWrite init Reg.lotCtl ⟨v, [], .whole, []⟩) s (fun t => t.fld Reg.lotCtl 0 16 = field v 0 16 ∧
      t.fld Reg.lotCtl 16 16 = s.fld Reg.lotCtl 16 16 ∧ SameRegsBut (· = Reg.lotCtl) s t ∧ t.lot = s.lot ∧ t.mem = s.mem) := by
  have he := exec_write_single hb rfl (writeRow_lotCtl init v) (by decide) regAt_lotCtl rfl (by decide +kernel)
  rw [regKey_lotCtl] at he
  refine ⟨_, he, ?_, ?_, fun k hk => State.rd_wr_ne _ _ hk, rfl, rfl⟩
  · rw [State.fld, State.rd_wr]
    exact (RegDef.written_lower rfl rfl rfl _ v).1
  · rw [State.fld, State.rd_wr]
    exact (RegDef.written_lower rfl rfl rfl _ v).2

/-! ### Configuration space and BAR4 as a host reaches them (R372, R373) -/

section
variable {s : State} {init : InitId} (hh : isHost init = true) (hm : Runs s) (hl : (s.hp (distOf init)).link = true)
include hh hm hl

/-- A host sets MSI-X Enable and Function Mask. -/
theorem exec_write_msixControl (v : Word32) : Completes (.registerWrite init 0x90000000 ⟨v, [], .whole, []⟩) s (fun t =>
    (t.hp (distOf init)).msixEn = v.getLsbD 31 ∧ (t.hp (distOf init)).fmask = v.getLsbD 30 ∧
      t.mem = s.mem ∧ t.mode = s.mode) := by
  have he := exec_registerWrite_config hh hm v (show 0x80000000 ≤ 0x90000000 by decide)
  rw [State.configWrite_msix s.begin v hl] at he
  obtain ⟨hmem, hmode, hen, hmask, -⟩ := State.hostFlush_setHp s.begin (distOf init)
    { s.hp (distOf init) with msixEn := v.getLsbD 31, fmask := v.getLsbD 30 }
  exact ⟨_, he, hen, hmask, hmem, hmode⟩

/-- A host sets Bus Master Enable. -/
theorem exec_write_command (v : Word32) : Completes (.registerWrite init 0x90000004 ⟨v, [], .whole, []⟩) s (fun t =>
    (t.hp (distOf init)).bme = v.getLsbD 2 ∧ t.mem = s.mem ∧ t.mode = s.mode) := by
  have he := exec_registerWrite_config hh hm v (show 0x80000000 ≤ 0x90000004 by decide)
  rw [State.configWrite_command s.begin v hl] at he
  obtain ⟨hmem, hmode, -, -, hbme⟩ :=
    State.hostFlush_setHp s.begin (distOf init) { s.hp (distOf init) with bme := v.getLsbD 2 }
  exact ⟨_, he, hbme, hmem, hmode⟩

end

/-- Settles O58: one lemma for each clause, of the requests (R374, R375), the writes of one cycle, the access types and
pairs (R21, R24), LOT_CTL (R128) and configuration space (R372, R373). -/
theorem registersAreAccessedByTheirTypes : Obligations.RegistersAreAccessedByTheirTypes := by
  refine ⟨fun _ => rfl, by decide +kernel, ?types, fun s d n w => State.granted_without_plan n w, ?requests,
    fun s _ _ => exec_registerWrite_swap s, ?reads, ?writes, ?pairs,
    fun s init v => ⟨exec_write_lotCtl_host v, exec_write_lotCtl_house v⟩, ?config⟩
  case types =>
    intro d old v i hi
    simp only [d.written_bit old v hi]
    refine ⟨fun hs hc => ?_, fun hr hs hc => ?_, fun hr hc hs => ?_⟩
    · simp [hs, hc]
    · simp [hr, hs, hc]
    · simp [hr, hs, hc]
  case requests =>
    intro s init a one h
    refine ⟨fun hs ha => ⟨exec_reg64LoRead_absent hs ha, exec_registerWrite_absent hs ha⟩, fun hs hh ha => ?_,
      fun hs hh h4 hr ha hq =>
        ⟨exec_reg64LoRead_reserved hs hh h4 hr ha hq, exec_registerWrite_reserved hs hh h4 hr ha hq⟩,
      fun hs h4 ha hx hq =>
        ⟨exec_reg64LoRead_ungranted hs h4 ha hx hq, exec_registerWrite_ungranted hs h4 ha hx hq⟩⟩
    have hbad : ∀ v more form, form ≠ .atomic → badWrite a more form →
        exec (.registerWrite init a ⟨v, more, form, []⟩) s = .next (s.begin.aerAbort (distOf init)) :=
      fun v _ _ hf => exec_registerWrite_bad v hs hh ha hf
    exact ⟨exec_reg64LoRead_atomic hs hh ha, exec_reg64LoRead_part hs hh ha,
      fun v more => exec_registerWrite_atomic v more hs hh ha,
      fun v more => hbad v more .part (by decide) (.inl rfl),
      fun v more hl => hbad v more .whole (by decide) (.inr (.inr hl)),
      fun h4 => ⟨exec_reg64LoRead_misaligned hs hh ha h4, fun v => hbad v [] .whole (by decide) (.inr (.inl h4))⟩,
      fun h4 hq => ⟨exec_reg64LoRead_waits hs hh ha h4 hq, exec_registerWrite_waits hs hh ha h4 hq⟩⟩
  case reads =>
    intro s init a hb h4 ha hx hr hv hq
    have he := exec_read_house hb h4 ha hx hr
    refine ⟨fun hp => ⟨_, he, ?_⟩, fun hp hlo hl => he.trans ?_, fun hp hl => he.trans ?_⟩
    · rw [State.readReg_lo (s := s.begin) hq hv hp]
      exact ⟨rfl, Tab.find_set_same _ _ _, rfl, rfl, rfl⟩
    · rw [State.readReg_hi (s := s.begin) hq hv hp hlo hl, State.begin_hiLatch]
    · rw [State.readReg_single (s := s.begin) hq hv hp hl]
  case writes =>
    intro s init a v hb h4 hr hblk k
    exact ⟨exec_write_reserved hb h4 hr hblk, fun d => exec_write_single hb h4 hr hblk⟩
  case pairs =>
    intro s init a v d hb h4 hblk hr
    have he := exec_write_byTypes hb h4 hr (by simp [hblk])
    have hlow : 0x300000 ≤ a ∧ a < 0x400000 := by omega
    refine ⟨fun e hp hl h hw => ?_, fun e hp hd h => ?_⟩
    · rw [he, State.writeAny_hi _ _ _ (by omega) hp hl h hw]
      rfl
    · have hk := regKey_ne init (a := a + 4) (b := a) (by omega) (by omega) (by omega)
      rw [State.writeAny_lo _ _ _ hp hd h hk] at he
      refine ⟨_, he, State.rd_wr _ _ _, ?_, rfl, rfl⟩
      rw [State.rd_wr_ne _ _ hk.symm, State.rd_wr, State.rd_begin]
  case config =>
    intro s init v d
    refine ⟨fun hh a => exec_registerWrite_config_other s v hh, fun hh hm hl =>
      ⟨exec_write_msixControl hh hm hl v, exec_write_command hh hm hl v, ?_, ?_, fun k hk h3 => ?_⟩⟩
    · exact ⟨_, exec_reg64LoRead_config hh hm hl (by decide) (.inr (by decide)), ⟨_, rfl, State.configWord_device _ _⟩, rfl⟩
    · exact ⟨_, exec_reg64LoRead_config hh hm hl (by decide) (.inr (by decide)),
        congrArg (some ∘ Resp.word) (State.configWord_class _ _), rfl⟩
    · exact ⟨_, exec_reg64LoRead_config hh hm hl (by omega) (.inl h3), _, rfl,
        fun j hj => State.configWord_pending _ _ hk hj⟩

end Sys2Proof.Machine
end
